-- ==== Sys2Proof/Word.lean ====
section
/-! DEFINITION. The words of the KW4820 and the plainest data shapes: a 32-bit register word (R11), bytes,
little-endian byte strings (R8), and sparse tables. -/
namespace Sys2Proof

/-- A register is 32 bits wide (R11). -/
abbrev Word := BitVec 32

abbrev Byte := BitVec 8

/-- Bytes in address order, lowest address first. -/
abbrev Bytes := List Byte

/-- A sparse table: keys strictly rising, no entry equal to what an unlisted key reads as. -/
abbrev Tbl (α : Type) := List (Nat × α)

end Sys2Proof
end

