-- ==== Sys2Proof/Syntax.lean ====
section
/-! DEFINITION. The commands of the KW4820, one constructor per row of the table of steps, and the operands
they carry. The table gives no row operands or bits; an operand is what the row's rule names, or what the
outside world decides (a temperature, a received packet, the outcome of a training). -/
namespace Sys2Proof

/-- A logical cell: region 0–63, block 0–7, logical cell 0–15 (R10, R69). -/
structure CellId where
  region : Fin 64
  block : Fin 8
  cell : Fin 16
  deriving DecidableEq, Repr

/-- The fields of a cell instruction word other than OP (R56), reserved bits included. -/
structure CellIns where
  fa : BitVec 4
  fb : BitVec 4
  fd : BitVec 4
  bank : Bool
  clr : Bool
  sat : Bool
  r104 : Bool
  dst : BitVec 16
  sa : BitVec 16
  sb : BitVec 16
  cnt : BitVec 12
  sel : BitVec 4
  r36 : BitVec 4
  tick : BitVec 8
  beat : BitVec 12
  imm : BitVec 16
  deriving DecidableEq, Repr

/-- What the cell's own hardware met while it ran one instruction: a parity error in the fetched word, a
failed residue check, an uncorrectable cell-store error (R65), and single-bit errors corrected (R63). -/
structure CellEnv where
  ipar : Bool
  residue : Bool
  storeUe : Bool
  ce : Nat
  deriving DecidableEq, Repr

/-- How the images of a repair restart read back from the stream's source (R445). -/
inductive ImageRead where
  | good
  | mismatch
  | failed
  deriving DecidableEq, Repr

/-- What a scrub, or a read on its way, finds in one 64 B unit (R99, R100). -/
inductive ScrubFound where
  | clean
  | corrected
  | uncorrectable
  deriving DecidableEq, Repr

/-- What a slot's flit brings from or takes to the outside of a region: a flit that has come into a VAP queue
since the last slot, one that brings 64 B of device memory, with what their read meets (R99), or the staging offset, in
bytes, that a staging port reads or writes. -/
inductive FlitIO where
  | flit (bad : Bool) (data : Bytes)
  | memory (unit : BitVec 37) (found : ScrubFound)
  | staging (off : Word)
  deriving DecidableEq, Repr

/-- The partial of one query head: running maximum, sum and output (R164, R166), FP32 words. -/
structure HeadPartial where
  m : Word
  l : Word
  o : List Word
  deriving DecidableEq, Repr

/-- What a calibration records of one lane of a Loupe bank: the detector offset, the gain of each wavelength, and the
crosstalk of first and of second neighbours (R180). -/
structure LaneCal where
  offset : Int
  gain : List Int
  near : List Int
  far : List Int
  deriving DecidableEq, Repr

/-- A fabric packet: the header fields of R319 and the payload. hcrc is the HCRC byte received. -/
structure Packet where
  dst : BitVec 18
  src : BitVec 18
  marked : Bool
  chan : BitVec 2
  op : BitVec 5
  len : BitVec 7
  seq : BitVec 16
  ce : Bool
  echo : Bool
  last : Bool
  fence : Bool
  mc : Bool
  epoch : BitVec 2
  jobTag : BitVec 16
  dl : Bool
  addr : BitVec 29
  hcrc : Byte
  payload : Bytes
  deriving DecidableEq, Repr

/-- The verdicts of the two signature checks (R229, R454). -/
structure SigCheck where
  rsa : Bool
  slh : Bool
  deriving DecidableEq, Repr

/-- What reading a HOST or FLASH stream again gives (R230, R247): its bytes, or a failed read. -/
inductive Reread where
  | bytes (b : List Byte)
  | failed
  deriving DecidableEq, Repr

/-- What a guest's flits are (R282, R284): function 0 reads device memory, 1 writes it, 2 is an atomic at a home agent, 3
sends to a fabric port; the slice that they address, or the endpoint. -/
structure GuestUse where
  func : Fin 4
  target : BitVec 9
  deriving DecidableEq, Repr

/-- Traffic waiting for one device beat of the Prism between two sites (R263 to R269): the facet it counts
under (none: no facet), the sites, and the scheduled flits due in this beat. Of a source that is no compute site, the
scheduled flits that lie in its source queue and the marked flits that wait there; of a compute site, the VAPs and the
routes whose flits go to dst, which the site's outbound VAP queues hold; and of a guest site what its flits are. -/
structure PrismFlow where
  facet : Option (Fin 64)
  src : BitVec 8
  dst : BitVec 8
  due : Nat
  present : Nat
  marked : Nat
  vaps : List (Fin 32 × Nat)
  guest : Option GuestUse
  deriving DecidableEq, Repr

/-- What a guest presents at bring-up (R281, R283): whether UCIe trained, at 16 GT/s or 32 GT/s, the width of each of its
modules (0 full, 1 half, 2 none), and its sixteen capability words. -/
structure GuestBringUp where
  trained : Bool
  slow : Bool
  widths : List (Fin 3)
  words : List Word
  deriving DecidableEq, Repr

/-- The good lines that a port's training finds: of the transmit direction by the peer, of the receive direction by its own
receiver. -/
structure PortTrain where
  txGood : BitVec 36
  rxGood : BitVec 36
  deriving DecidableEq, Repr

/-- The good lines of a direction that retrains, and the totals that the peer reports for the ten buffers of the packets
sent to it: units held, and returned by frames that this side has not accepted (R299, R342). An empty list: none reported. -/
structure RetrainEnd where
  good : BitVec 36
  totals : List Nat
  deriving DecidableEq, Repr

/-- A flit that fails its check code on a channel of a Prism bus (R304): the errors met, the resends of it that fail in a
row, and whether the channel's rings are locked. -/
structure ChannelResend where
  errors : Nat
  fails : Fin 9
  locked : Bool
  deriving DecidableEq, Repr

/-- The mean level on a ring's detector over one window, in thousandths of its value at training, and how it changes for
one heater code upwards, as the dither shows (R306). -/
structure RingLevel where
  mean : Nat
  rise : Int
  deriving DecidableEq, Repr

/-- A warm cold spare (R313): its frequency offset in MHz, and whether within the 1 ms of the margin check a port lane on the line met
an uncorrectable codeword, or a Prism channel a resend. -/
structure WarmSpare where
  offset : Int
  uncorrectable : Bool
  resent : Bool
  deriving DecidableEq, Repr

/-- A link frame (R296): the frame control word's fields and the packets that end in the frame. -/
structure LinkFrame where
  seq : BitVec 12
  idle : Bool
  sleep : Bool
  ack : BitVec 12
  nak : Bool
  mvLane : BitVec 6
  mvLine : BitVec 6
  mvAt : BitVec 12
  credit : List (BitVec 9)
  margin : List (BitVec 4)
  packets : List Packet
  deriving DecidableEq, Repr

/-- What the receiver finds in a link frame: blocks with an invalid header (R294), codewords that it corrected and that it
could not correct, and for each line the symbols corrected in its codeword (R295, R296). -/
structure FrameCheck where
  invalid : Nat
  corrected : Nat
  uncorrectable : Nat
  symbols : List Nat
  deriving DecidableEq, Repr

/-- One ring: a user of a comb line, a modulator or a drop filter (R292, R305). -/
structure RingId where
  fibre : Fin 128
  line : Fin 36
  user : Fin 16
  drop : Bool
  deriving DecidableEq, Repr

/-- The levels found at commissioning, in 0.01 dBm: of each line's primary laser and of its cold spare, in
the order of fibre j and line i (R311). -/
structure LmLevels where
  serial : BitVec 64
  primary : List Int
  spare : List Int
  deriving DecidableEq, Repr

/-- A flow: source EID, destination EID, class and channel (R330). -/
structure FlowId where
  src : BitVec 18
  dst : BitVec 18
  marked : Bool
  chan : BitVec 2
  deriving DecidableEq, Repr

/-- What start-up meets (R393 to R400, R286 to R288, R433, R180, R308, R311): strap samples, trim records of which one
copy passes its CRC (true: copy A) and of which none does, units that pass self-test, calibration records and ring records
that fail their check, each stack's first temperature sample in m°C, and for LM0 to LM7 the laser module that is present. -/
structure StartEnv where
  strap : List Byte
  trimOne : List (Nat × Bool)
  trimNone : List Nat
  selfA : Bool
  selfB : Bool
  calBad : List (Fin 32)
  temps : List Int
  sealClosed : Bool
  ringBad : List RingId
  lasers : List (Option LmLevels)
  deriving DecidableEq, Repr

/-- One sensor reading: none when the reading did not update (R419), else m°C. -/
abbrev Reading := Option Int

/-- The readings of one region for one 10 µs sample, and its power in mW (R418, R420). -/
structure RegionTemps where
  logic : List Reading
  mid : List Reading
  base : Reading
  power : Nat
  deriving DecidableEq, Repr

/-- One 10 µs sample of the sensors outside the stacks (R418): regions, quadrants, the service die's two sensors and
the base beneath it, the base beneath each guest. Lists are indexed by part number; a
part a list leaves out keeps its last reading. -/
structure TempReadings where
  regions : List (Nat × RegionTemps)
  quads : List (Nat × Reading)
  service : List (Nat × Reading)
  guests : List (Nat × Reading)
  deriving DecidableEq, Repr

/-- Who writes a register: host, firmware or the I3C target (R476). -/
inductive Requester where
  | host
  | firmware
  | i3c
  deriving DecidableEq, Repr

/-- What makes masked MSI-X messages due (R486). -/
inductive Unmask where
  | vector (v : Fin 64)
  | function
  | enable
  deriving DecidableEq, Repr

/-- The three host-interface resets (R468). -/
inductive HostReset where
  | hot
  | linkDown
  | flr
  deriving DecidableEq, Repr

/-- What an SPDM request asks for (R455, R456). -/
inductive SpdmReq where
  | plain (bytes : Bytes)
  | challenge (bytes : Bytes)
  | measurements (index : Byte) (signed : Bool) (bytes : Bytes)
  deriving DecidableEq, Repr

/-- The block an engine is to decode: whether its bytes are there, and what the read of its 64 B units meets (R99,
R136). -/
structure BlockFetch where
  ready : Bool
  found : List ScrubFound
  deriving DecidableEq, Repr

/-- What a calibration or a trim update of a Loupe bank measures: ENOB in 1/16 bit, and each lane (R180, R181). -/
structure CalResult where
  enob : BitVec 8
  lanes : List LaneCal
  deriving DecidableEq, Repr

/-- The coefficients a recalibration finds for one ring in one temperature band (R308). -/
structure RingCal where
  ring : RingId
  band : Fin 4
  slope : Int
  intercept : Int
  deriving DecidableEq, Repr

/-- A sample of the input: current in 0.1 A, voltage in 0.01 V (R414). -/
structure InputSample where
  deciAmps : Nat
  centiVolts : Nat
  deriving DecidableEq, Repr

/-- The words of an access that is not one word: how many, and a write's data (R475). -/
structure WordAccess where
  words : Nat
  data : List Word
  deriving DecidableEq, Repr

/-- An aperture read: its length in bytes, and what the read of its 64 B units meets (R99, R470). -/
structure ApertureSpan where
  len : Nat
  found : List ScrubFound
  deriving DecidableEq, Repr

/-- The home agent that serves one operation, and what its read of memory meets (R99, R353). -/
structure HomeTurn where
  agent : Fin 160
  found : List ScrubFound
  deriving DecidableEq, Repr

/-- A domain that comes up, and the layers of its stack in which channel training finds a fault (R112, R416). -/
structure DomainStart where
  domain : Fin 48
  badLayers : List (Fin 32)
  deriving DecidableEq, Repr

/-- One constructor per row of the table of steps, in the table's order; guestLinkDrop, domainUp and
homeAgentServe stand with the other rows of their units. -/
inductive Instr where
  | nop (c : CellId) (i : CellIns) (e : CellEnv)
  | mma (c : CellId) (i : CellIns) (e : CellEnv)
  | mmas (c : CellId) (i : CellIns) (e : CellEnv)
  | aclr (c : CellId) (i : CellIns) (e : CellEnv)
  | ald (c : CellId) (i : CellIns) (e : CellEnv)
  | ast (c : CellId) (i : CellIns) (e : CellEnv)
  | vadd (c : CellId) (i : CellIns) (e : CellEnv)
  | vsub (c : CellId) (i : CellIns) (e : CellEnv)
  | vmul (c : CellId) (i : CellIns) (e : CellEnv)
  | vfma (c : CellId) (i : CellIns) (e : CellEnv)
  | vmax (c : CellId) (i : CellIns) (e : CellEnv)
  | vmin (c : CellId) (i : CellIns) (e : CellEnv)
  | vexp2 (c : CellId) (i : CellIns) (e : CellEnv)
  | vlog2 (c : CellId) (i : CellIns) (e : CellEnv)
  | vrcp (c : CellId) (i : CellIns) (e : CellEnv)
  | vrsq (c : CellId) (i : CellIns) (e : CellEnv)
  | vcvt (c : CellId) (i : CellIns) (e : CellEnv)
  | vrsum (c : CellId) (i : CellIns) (e : CellEnv)
  | vrmax (c : CellId) (i : CellIns) (e : CellEnv)
  | ld (c : CellId) (i : CellIns) (e : CellEnv)
  | st (c : CellId) (i : CellIns) (e : CellEnv)
  | mov (c : CellId) (i : CellIns) (e : CellEnv)
  | srld (c : CellId) (i : CellIns) (e : CellEnv)
  | loop (c : CellId) (i : CellIns) (e : CellEnv)
  | nextf (c : CellId) (i : CellIns) (e : CellEnv)
  | endp (c : CellId) (i : CellIns) (e : CellEnv)
  | regionResume (r : Fin 64)
  | xfer (c : CellId) (poison : Option (BitVec 43))
  | wdog (c : CellId)
  | isol (c : CellId)
  | blockReset (r : Fin 64) (b : Fin 8) (clean : Bool)
  | stepRestart (f : Fin 64) (read : ImageRead)
  | run (f : Fin 64) (engine : BitVec 12) (tensor : BitVec 16) (runNo : Word) (dest : Word)
  | ebwBlockDecode (engine : BitVec 12) (ready : BlockFetch)
  | scrub (unit : BitVec 37) (found : ScrubFound)
  | mapout (m : Fin 20)
  | sliceFree (n : Fin 320)
  | stackTempSample (m : Fin 20) (t0 t1 t2 t3 : Reading)
  | bandChange (m : Fin 20)
  | wearCounterWrite
  | regFault (m : Fin 20)
  | frameStart (f : Fin 64)
  | regionBeatEnd (r : Fin 64) (active : Bool) (lost : Nat)
  | stallFault (r : Fin 64)
  | scheduledSlot (f : Fin 64) (route : BitVec 16) (hop : BitVec 5) (io : List FlitIO)
  | boundedFlit (f : Fin 64) (route : BitVec 16) (hop : BitVec 5) (io : List FlitIO)
  | retime (f : Fin 64) (beats : BitVec 16)
  | retimeDone (r : Fin 64)
  | relockFail (r : Fin 64)
  | retimeForced (f : Fin 64)
  | stretch (r : Fin 64) (eighths : Fin 9)
  | loupeJob (f : Fin 64) (desc : Bytes)
  | listWrite (bank : Fin 32)
  | appendCommand (f : Fin 64) (bytes : Bytes)
  | ringRecord (f : Fin 64) (record : Bytes) (part : List HeadPartial)
  | digest (p : Packet)
  | fullCalibration (bank : Fin 32) (enob : CalResult)
  | trimUpdate (bank : Fin 32) (enob : CalResult)
  | trimApply (bank : Fin 32)
  | subst (bank : Fin 32)
  | bankFault (bank : Fin 32)
  | slew (q : Fin 4)
  | slewClear (q : Fin 4)
  | timeRestart (p : Packet)
  | groupLost (f : Fin 64)
  | doorbell (p : Packet)
  | ringMsg (p : Packet)
  | sessionFrameBoundary (f : Fin 64)
  | openq (f : Fin 64) (qp : BitVec 18) (d : Bytes)
  | append (f : Fin 64) (qp : BitVec 18) (d : Bytes)
  | cancel (f : Fin 64) (qp : BitVec 18) (d : Bytes)
  | close (f : Fin 64) (qp : BitVec 18) (d : Bytes)
  | noSlot (qp : BitVec 18)
  | stepBegin (f : Fin 64)
  | sample (f : Fin 64) (slot : Fin 64) (onTime : Bool)
  | replyBlocked (qp : BitVec 18)
  | notifyFail (qp : BitVec 18)
  | qpReset (qp : BitVec 18)
  | stage (f : Fin 64) (source : BitVec 2)
  | staged (stream : Bytes) (readOk : Bool) (sig : SigCheck)
  | commit (f : Fin 64) (at_ : Bool)
  | commitAll (at_ : Bool)
  | start (f : Fin 64)
  | hold (f : Fin 64)
  | unbind (f : Fin 64)
  | forceUnbind (f : Fin 64)
  | discard (f : Fin 64)
  | commitBoundary (f : Fin 64) (again : Reread)
  | drain (f : Fin 64)
  | busy (f : Fin 64)
  | unbindBoundary (f : Fin 64)
  | forced (f : Fin 64)
  | jobslot (f : Fin 64) (bank : Byte) (beats : BitVec 16)
  | stepEnd (f : Fin 64)
  | prismBeat (flows : List PrismFlow)
  | groupReplay (k : Fin 434) (out : Bool) (fails : Fin 9) (retrains : Bool)
  | laneFailing (k : Fin 434) (out : Bool) (lane : Byte)
  | laneSpared (k : Fin 434) (out : Bool)
  | railFault (d : Fin 24)
  | quadrantFail (q : Fin 4)
  | guestBringUp (g : Fin 2) (b : GuestBringUp)
  | guestUp (g : Fin 2)
  | guestFault (g : Fin 2) (cause : BitVec 3)
  | guestLinkDrop (g : Fin 2) (retrained : Bool)
  | guestSiteReset (g : Fin 2)
  | portTraining (p : Fin 32) (t : PortTrain)
  | trainingBlock (p : Fin 32) (payload : BitVec 64)
  | retrain (p : Fin 32) (tx : Bool) (x : RetrainEnd)
  | portDown (p : Fin 32) (tx : Bool)
  | linkFrame (p : Fin 32) (fr : LinkFrame) (check : FrameCheck)
  | linkFrameSend (p : Fin 32)
  | sleep (p : Fin 32)
  | wake (p : Fin 32) (tx : Bool) (decoded : Bool)
  | prismChannelResend (fibre : Fin 128) (way : Fin 9) (line : Fin 36) (x : ChannelResend)
  | ringTune (ring : RingId) (level : RingLevel) (density : Nat)
  | ringRecal (ring : RingCal)
  | lmCmd (m : Fin 8) (levels : LmLevels)
  | fadeCheck (fibre : Fin 128) (line : Fin 36) (level : Int) (failed : Bool)
  | spareWarm (fibre : Fin 128) (line : Fin 36) (x : WarmSpare)
  | swap (fibre : Fin 128) (line : Fin 36)
  | swapForced (fibre : Fin 128) (line : Fin 36)
  | laneMove (p : Fin 32) (tx : Bool)
  | lmChange (m : Fin 8) (present : Option LmLevels)
  | write (port : Fin 32) (p : Packet)
  | read (port : Fin 32) (p : Packet)
  | atomic (port : Fin 32) (p : Packet)
  | send (port : Fin 32) (p : Packet)
  | relay (port : Fin 32) (p : Packet)
  | fwdReq (port : Fin 32) (p : Packet)
  | data (port : Fin 32) (p : Packet)
  | done (port : Fin 32) (p : Packet)
  | ack (port : Fin 32) (p : Packet)
  | return_ (port : Fin 32) (p : Packet)
  | tail (port : Fin 32) (p : Packet)
  | tailAck (port : Fin 32) (p : Packet)
  | packetForward (port : Fin 32) (p : Packet)
  | ackTimer (fl : FlowId)
  | resendTimeout (fl : FlowId) (seq : BitVec 16)
  | receiveFlowFree (fl : FlowId)
  | sendFlowFree (fl : FlowId)
  | lastExpired (fl : FlowId) (seq : BitVec 16)
  | aged (port : Fin 32) (p : Packet)
  | fence (ep : Fin 64) (dst : Option (BitVec 18))
  | multicast (f : Fin 64) (ep : Fin 64) (group : BitVec 10) (p : Packet)
  | rtWrite (eid : BitVec 18)
  | rtRead (eid : BitVec 18)
  | mcWrite (group : BitVec 10) (hdr : Bool) (index : Byte)
  | mcRead (group : BitVec 10) (hdr : Bool) (index : Byte)
  | homeAgentServe (h : HomeTurn)
  | mergeClose (h : Fin 160) (line : BitVec 36)
  | winWrite (page : BitVec 11) (ep : Fin 64)
  | winRead (page : BitVec 11) (ep : Fin 64)
  | xltWrite (entry : Fin 16) (f : Fin 64)
  | xltRead (entry : Fin 16) (f : Fin 64)
  | keyOpen (kr : Fin 8) (rd wr : Bool) (f : Fin 64) (ep : Fin 64)
  | keyClose (kr : Fin 8)
  | keyValue (who : Requester)
  | mqEnable (ep : Fin 64) (value : Word)
  | syncExchange (frac : BitVec 4)
  | syncReq (port : Fin 32) (p : Packet) (frac2 frac3 : BitVec 4)
  | syncResp (port : Fin 32) (p : Packet) (frac : BitVec 4)
  | syncTimeout
  | step
  | holdover (p : Packet)
  | refok (p : Packet)
  | stop (p : Packet)
  | late (p : Packet)
  | refLoss
  | holdoverLong
  | schedStop
  | refReturn
  | refBack
  | powerOn (e : StartEnv)
  | pinReset
  | resetRelease (e : StartEnv)
  | rootLock
  | refAbsent
  | firmwareBoot (image : Bytes) (readOk : Bool) (sig : SigCheck)
  | trimWrite (target : BitVec 16) (words : List Word)
  | dtLo (who : Requester)
  | serviceStart
  | nvInhibit
  | inhibitClear
  | sagShutdown
  | ov
  | serviceStop
  | inrush
  | inrushRetry
  | phaseFault (phase : Fin 8)
  | busFault
  | cap (mean : Nat) (above : Bool)
  | current (amps : InputSample)
  | tempSample (t : TempReadings)
  | domainUp (d : DomainStart)
  | domOn (d : Fin 48)
  | domOff (d : Fin 48)
  | commandedShutdown
  | restart
  | switchover
  | switch
  | update (image : Bytes) (readOk : Bool) (sig : SigCheck)
  | standbyRestart
  | frameCopy (matched : Bool)
  | standbyReady (selfTest : Bool)
  | updateSwitch
  | updFail (cause : Byte)
  | updDone
  | takeOwnership (blob : Bytes) (sig : SigCheck)
  | addKey (blob : Bytes) (sig : SigCheck)
  | revokeKey (blob : Bytes) (sig : SigCheck)
  | raiseSvn (blob : Bytes) (sig : SigCheck)
  | release (blob : Bytes) (sig : SigCheck)
  | debugUnlock (blob : Bytes) (sig : SigCheck)
  | decommission (blob : Bytes) (sig : SigCheck)
  | secNonce (who : Requester)
  | presence
  | presenceWindowClose
  | sealOpen (fault : Bool)
  | spdmRequest (r : SpdmReq)
  | dualSig
  | dualCert
  | size (who : Requester) (isWrite : Bool) (offset : BitVec 26) (words : WordAccess)
  | guardedWrite (who : Requester) (addr : BitVec 26) (value : Word)
  | guardComplement (who : Requester) (addr : BitVec 26) (value : Word)
  | guardDrop (who : Requester)
  | registerWrite (who : Requester) (addr : BitVec 26) (value : Word)
  | parity (addr : BitVec 26)
  | unfreeze (target : BitVec 7)
  | nclaim (n : BitVec 10)
  | ndone (n : BitVec 10)
  | fclaim (n : BitVec 10)
  | fdone (n : BitVec 10)
  | heoi (vectors : BitVec 64)
  | msixUnmask (u : Unmask)
  | hotReset (kind : HostReset)
  | d3hot
  | d0Return
  | linkTraining (rate : BitVec 4) (width : BitVec 4) (flit : Bool)
  | apertureRead (x : BitVec 36) (len : ApertureSpan)
  | apertureWrite (x : BitVec 36) (bytes : Bytes)
  | aptCtl (value : Word)
  | i3cRead (addr : Word)
  | i3cWrite (addr : Word) (value : Word)
  | extest
  | trstN
  | inputStageClose
  | standbyReplayEnd
  | presenceRelease
  | sealClose
  deriving DecidableEq, Repr

end Sys2Proof
end

