-- ==== Sys2Proof/Decode.lean ====
section
/-! DEFINITION. Decoding. The table of commands gives no row any bits, so no word spells a command. A cell's
instruction word has bits (R56, R59): its fields, its opcode table, and both directions. -/
namespace Sys2Proof

/-- The command that a word spells by the table's bits: none, for the table gives no bits. -/
def decodeTableWord (_nbits _w : Nat) : Option Instr := none

/-- The opcodes of R59. -/
inductive CellOp where
  | nop | mma | mmas | aclr | ald | ast | vadd | vsub | vmul | vfma | vmax | vmin | vexp2 | vlog2 | vrcp | vrsq
  | vcvt | vrsum | vrmax | ld | st | mov | srld | loop | nextf | endp
  deriving DecidableEq, Repr

/-- OP of each opcode (R59). -/
def CellOp.code : CellOp → Nat
  | .nop => 0x00 | .mma => 0x01 | .mmas => 0x02 | .aclr => 0x08 | .ald => 0x09 | .ast => 0x0A
  | .vadd => 0x10 | .vsub => 0x11 | .vmul => 0x12 | .vfma => 0x13 | .vmax => 0x14 | .vmin => 0x15
  | .vexp2 => 0x18 | .vlog2 => 0x19 | .vrcp => 0x1A | .vrsq => 0x1B | .vcvt => 0x1C | .vrsum => 0x1D
  | .vrmax => 0x1E | .ld => 0x30 | .st => 0x31 | .mov => 0x32 | .srld => 0x33 | .loop => 0x3C
  | .nextf => 0x3E | .endp => 0x3F

def CellOp.all : List CellOp :=
  [.nop, .mma, .mmas, .aclr, .ald, .ast, .vadd, .vsub, .vmul, .vfma, .vmax, .vmin, .vexp2, .vlog2, .vrcp, .vrsq,
   .vcvt, .vrsum, .vrmax, .ld, .st, .mov, .srld, .loop, .nextf, .endp]

/-- The opcode of an OP byte; every other value is reserved (R59). -/
def cellOpOf (op : Nat) : Option CellOp := CellOp.all.find? (fun o => o.code == op)

/-- The fields of an instruction word other than OP (R56). -/
def cellFields (w : BitVec 128) : CellIns :=
  { fa := w.extractLsb' 116 4, fb := w.extractLsb' 112 4, fd := w.extractLsb' 108 4,
    bank := w.getLsbD 107, clr := w.getLsbD 106, sat := w.getLsbD 105, r104 := w.getLsbD 104,
    dst := w.extractLsb' 88 16, sa := w.extractLsb' 72 16, sb := w.extractLsb' 56 16, cnt := w.extractLsb' 44 12,
    sel := w.extractLsb' 40 4, r36 := w.extractLsb' 36 4, tick := w.extractLsb' 28 8,
    beat := w.extractLsb' 16 12, imm := w.extractLsb' 0 16 }

/-- The instruction that a 128-bit word holds; none where OP is reserved. -/
def decodeCell (w : BitVec 128) : Option (CellOp × CellIns) :=
  (cellOpOf (w.extractLsb' 120 8).toNat).map (fun o => (o, cellFields w))

def boolBit (b : Bool) : BitVec 1 := if b then 1#1 else 0#1

/-- The word of an instruction (R56). -/
def encodeCell (o : CellOp) (i : CellIns) : BitVec 128 :=
  BitVec.ofNat 8 o.code ++ i.fa ++ i.fb ++ i.fd ++ boolBit i.bank ++ boolBit i.clr ++ boolBit i.sat ++
  boolBit i.r104 ++ i.dst ++ i.sa ++ i.sb ++ i.cnt ++ i.sel ++ i.r36 ++ i.tick ++ i.beat ++ i.imm

end Sys2Proof
end

