-- ==== Sys2Proof/Config.lean ====
section
/-! DEFINITION. What one part fixes and the manual does not: the free values. Each is a constant without a
body, so nothing can be proved about what it is. State.free counts the values drawn (log 4). -/
namespace Sys2Proof

/-- The n-th free 32-bit value: an operand that a cell reads too early (R37), the error of an optical code (R171,
R177), a measurement that no command brings, a key (R359), a fresh nonce (R465). -/
opaque Config.freeWord : Nat → Word

/-- The signature octets of the n-th SPDM answer by scheme (R455, R456). -/
opaque Config.freeSignature : Nat → Nat → Bytes

/-- The answer to an SPDM request that carries no measurement, which DMTF gives and the manual does not. -/
opaque Config.spdmAnswer : Bytes → Bytes

/-- The measurement value of a block whose content the manual does not give (ROM, fuse map; R456). -/
opaque Config.freeMeasurement : Nat → BitVec 384

/-- The bytes of the certificate chain of the device identity SLH-DSA key (R456), which the manual does not
give. -/
opaque Config.freeChain : Bytes

/-- The unit that a trim record's TARGET names, which the manual does not code (R397): 0 the root, 1 + n the
generator of region n, others any other unit. -/
opaque Config.trimUnit : Nat → Nat

/-- The estimator coefficients that a record of a TARGET gives, in thousandths: region, alpha, theta (R420). -/
opaque Config.trimCoef : Nat → List Word → Option (Nat × Nat × Nat)

/-- The root's ratio correction that a follower chooses, in 0.01 ppm, before the limits of R378. -/
opaque Config.ratio : Nat → Int

/-- The content of measurement block 0x04 for a lifecycle, SVN minima, key identifiers, seal state, TAMPER count
and debug unlocks: the manual lists them and gives no layout (R456). -/
opaque Config.securityState : Nat → Nat → List Word → Nat → Nat → Nat → Bytes

/-- Redundant data lanes of a guest's UCIe module and direction, which R274 leaves to UCIe 2.0. -/
opaque Config.ucieRedundant : Nat

/-- The EID of rank n of the group with a digest: the stream names only those of the next and the previous rank (R158,
R240). -/
opaque Config.groupEid : Bytes → Nat → BitVec 18

/-- The byte at an offset of the 64 B context that the session engine keeps of a queue pair, whose layout the manual does
not give, from what the engine holds of the pair (R194). -/
opaque Config.qpContext : List Nat → Nat → BitVec 8

/-- The state of a port lane's scrambler when its training ends, which R294 leaves open. -/
opaque Config.scrambler : Nat → Nat → BitVec 58

/-- The site and direction (true: out of the site) of the Prism bus that a fibre feeds by one of its nine ways: the
base's own layout, which R292 leaves open within bounds. -/
opaque Config.busFeed : Nat → Nat → Option (Nat × Bool)

/-- The level of symbol n of the idle data on a port's lit spare line in the frame of a SEQ, mod 4, which R293 leaves
open. -/
opaque Config.idleLevel : Nat → Nat → Nat → Nat → Nat

/-- Slope and intercept of a ring in a temperature band in the nominal table (R308): heater codes per 1,000 °C, and heater
codes. -/
opaque Config.nominalRing : Nat → Nat → Int × Int

/-- The request that a receiver's measurement of a line leads to, by port, line and number of the request: PRE_OP,
POST_OP, PRESET, and whether it needs no further change (R297, R298). -/
opaque Config.equaliser : Nat → Nat → Nat → Nat × Nat × Nat × Bool

end Sys2Proof
end

