-- ==== Sys2Proof/Machine/Bits.lean ====
section
/-! DEFINITION. Bit fields of a register word, little-endian byte strings (R8), the check codes CRC-8 (R319)
and CRC-32C (R227), and saturating counts. -/
namespace Sys2Proof.Machine

/-- Bits [hi:lo] of a word. -/
def fld (w : Word) (hi lo : Nat) : Nat := (w.toNat >>> lo) % 2 ^ (hi + 1 - lo)

/-- The word with bits [hi:lo] replaced by the low bits of v. -/
def setFld (w : Word) (hi lo v : Nat) : Word :=
  let m := BitVec.ofNat 32 ((2 ^ (hi + 1 - lo) - 1) <<< lo)
  (w &&& ~~~m) ||| (BitVec.ofNat 32 ((v % 2 ^ (hi + 1 - lo)) <<< lo))

def bit (w : Word) (i : Nat) : Bool := w.getLsbD i

/-- One bit as a word. -/
def bitW (i : Nat) : Word := BitVec.ofNat 32 (1 <<< i)

def b2n (b : Bool) : Nat := if b then 1 else 0

/-- A count that stops at the top of its field. -/
def satAdd (top a b : Nat) : Nat := min top (a + b)

/-- The natural number a little-endian byte string spells (R8). -/
def leNat : Bytes → Nat
  | [] => 0
  | b :: t => b.toNat + 256 * leNat t

/-- The n low bytes of a number, little-endian. -/
def leBytes : Nat → Nat → Bytes
  | 0, _ => []
  | n + 1, v => BitVec.ofNat 8 v :: leBytes n (v / 256)

/-- len bytes from offset off; bytes past the end are absent. -/
def sub (b : Bytes) (off len : Nat) : Bytes := (b.drop off).take len

/-- The little-endian field of n bytes at offset off. -/
def leAt (b : Bytes) (off n : Nat) : Nat := leNat (sub b off n)

def byteAt (b : Bytes) (off : Nat) : Nat := leAt b off 1

def zeros (n : Nat) : Bytes := List.replicate n 0

/-- The string padded with zeros, or cut, to n bytes. -/
def padTo (n : Nat) (b : Bytes) : Bytes := (b ++ zeros (n - b.length)).take n

def allZero (b : Bytes) : Bool := b.all (· == 0)

/-- Bits of a number, [hi:lo]. -/
def nbits (v hi lo : Nat) : Nat := (v >>> lo) % 2 ^ (hi + 1 - lo)

def ceilDiv (a b : Nat) : Nat := (a + b - 1) / b

/-- One byte into a CRC-8 with polynomial x⁸ + x² + x + 1, most significant bit first (R319). -/
def crc8Step (c : Byte) : Nat → Byte
  | 0 => c
  | n + 1 => crc8Step (if c.getLsbD 7 then (c <<< 1) ^^^ 0x07#8 else c <<< 1) n

/-- The HCRC over bytes 0–14 (R319): initial value 0xFF, no final inversion. -/
def crc8 (b : Bytes) : Byte := b.foldl (fun c x => crc8Step (c ^^^ x) 8) 0xFF#8

def crc32cStep (c : Word) : Nat → Word
  | 0 => c
  | n + 1 => crc32cStep (if c.getLsbD 0 then (c >>> 1) ^^^ 0x82F63B78#32 else c >>> 1) n

/-- CRC-32C, the Castagnoli code as iSCSI uses it (log 13). -/
def crc32c (b : Bytes) : Word :=
  ~~~(b.foldl (fun c x => crc32cStep (c ^^^ x.setWidth 32) 8) 0xFFFFFFFF#32)

/-- A strictly rising list of numbers (R231). -/
def rising : List Nat → Bool
  | a :: b :: t => a < b && rising (b :: t)
  | _ => true

def noDup (l : List Nat) : Bool :=
  match l with
  | [] => true
  | a :: t => !t.contains a && noDup t

def sumNat (l : List Nat) : Nat := l.foldl (· + ·) 0

def maxNat (l : List Nat) : Nat := l.foldl max 0

def maxInt (d : Int) : List Int → Int
  | [] => d
  | a :: t => max a (maxInt a t)

/-- A number insert into a rising list without repeats. -/
def insertNat (a : Nat) : List Nat → List Nat
  | [] => [a]
  | b :: t => if a < b then a :: b :: t else if a = b then b :: t else b :: insertNat a t

end Sys2Proof.Machine
end

