-- ==== Sys2Proof/Machine/Flags.lean ====
section
/-! DEFINITION. The three sticky flags of a cell and how they gather (R55). -/
namespace Sys2Proof.Machine

/-- The flags one operation sets: invalid, overflow, saturation (R55). -/
structure Flags where
  nv : Bool
  of : Bool
  sat : Bool
  deriving DecidableEq, Repr

def Flags.none : Flags := ⟨false, false, false⟩

def Flags.or (a b : Flags) : Flags := ⟨a.nv || b.nv, a.of || b.of, a.sat || b.sat⟩

def Flags.NV : Flags := ⟨true, false, false⟩
def Flags.OF : Flags := ⟨false, true, false⟩
def Flags.SAT : Flags := ⟨false, false, true⟩

/-- The flags in their places of CELL_STAT: NV bit 4, OF bit 5, SAT bit 6 (R75). -/
def Flags.word (f : Flags) : Word :=
  BitVec.ofNat 32 (16 * b2n f.nv + 32 * b2n f.of + 64 * b2n f.sat)

/-- Results of a list of operations with their flags gathered. -/
def gather (l : List (Nat × Flags)) : List Nat × Flags :=
  (l.map (·.1), l.foldl (fun a x => a.or x.2) Flags.none)

end Sys2Proof.Machine
end

