-- ==== Sys2Proof/Machine/Addr.lean ====
section
/-! DEFINITION. BAR0 byte offsets of the registers (R11, R12, R474 and the register map of each chapter). -/
namespace Sys2Proof.Machine.Reg

def GLB_ID : Nat := 0x0000000
def GLB_VER : Nat := 0x0000004
def GLB_STAT : Nat := 0x0000008
def GLB_EVT : Nat := 0x000000C
def GLB_FIRST : Nat := 0x0000010
def GUARD_CNT : Nat := 0x0000014
def ACC_ERR : Nat := 0x0000018
def APT_CTL : Nat := 0x0000020
def APT_CNT : Nat := 0x0000024
def GLB_LINK : Nat := 0x0000028
def PAR_STAT : Nat := 0x0000030
def PAR_REG_LO : Nat := 0x0000034
def PAR_REG_HI : Nat := 0x0000038
def PAR_FIRST : Nat := 0x000003C
def PAR_CMD : Nat := 0x0000040
def MSIX_TABLE (i j : Nat) : Nat := 0x0080000 + 0x10 * i + 0x4 * j
def MSIX_PBA (i : Nat) : Nat := 0x0080800 + 0x4 * i
def RST_CAUSE : Nat := 0x0100000
def RST_EVT : Nat := 0x0100004
def RST_FUSE : Nat := 0x0100008
def STRAP : Nat := 0x010000C
def TRIM_STAT : Nat := 0x0100010
def LOC_CELL : Nat := 0x0100014
def LOC_BR : Nat := 0x0100018
def CLK_STAT : Nat := 0x0200000
def CLK_EVT : Nat := 0x0200004
def DT_LO : Nat := 0x0200010
def DT_HI : Nat := 0x0200014
def SYNC_CTL : Nat := 0x0200018
def SYNC_PARENT : Nat := 0x020001C
def SYNC_OFS : Nat := 0x0200020
def SYNC_DELAY : Nat := 0x0200024
def SYNC_RATE : Nat := 0x0200028
def HOLD_US : Nat := 0x020002C
def RGEN (i : Nat) : Nat := 0x0200100 + 0x4 * i
def PWR_STAT : Nat := 0x0300000
def PWR_EVT : Nat := 0x0300004
def PWR_FIRST : Nat := 0x0300008
def PWR_CMD : Nat := 0x030000C
def PWR_CAP : Nat := 0x0300010
def PWR_MEAS : Nat := 0x0300014
def PWR_IN : Nat := 0x0300018
def DOM_CMD : Nat := 0x030001C
def DOM_STAT (i : Nat) : Nat := 0x0300100 + 0x4 * i
def THM_STAT : Nat := 0x0400000
def THM_EVT : Nat := 0x0400004
def THM_FIRST : Nat := 0x0400008
def THM_SHUT : Nat := 0x040000C
def THM_Q (i : Nat) : Nat := 0x0400010 + 0x4 * i
def THM_SVC : Nat := 0x0400020
def THM_RT (i : Nat) : Nat := 0x0400100 + 0x8 * i
def THM_RS (i : Nat) : Nat := 0x0400104 + 0x8 * i
def IRQ_STAT : Nat := 0x0500000
def IRQ_EVT : Nat := 0x0500004
def IRQ_FIRST : Nat := 0x0500008
def NCLAIM : Nat := 0x0500010
def NDONE : Nat := 0x0500014
def FCLAIM : Nat := 0x0500018
def FDONE : Nat := 0x050001C
def LEVEL (i : Nat) : Nat := 0x0500100 + 0x4 * i
def NPEND (i : Nat) : Nat := 0x0500180 + 0x4 * i
def FPEND (i : Nat) : Nat := 0x0500200 + 0x4 * i
def CLASS (i : Nat) : Nat := 0x0500280 + 0x4 * i
def CEN (i : Nat) : Nat := 0x0500300 + 0x4 * i
def HEN (i : Nat) : Nat := 0x0500380 + 0x4 * i
def INSVC (i : Nat) : Nat := 0x0500400 + 0x4 * i
def HSUM (i : Nat) : Nat := 0x0500500 + 0x4 * i
def HEOI (i : Nat) : Nat := 0x0500508 + 0x4 * i
def CFG_STAT : Nat := 0x0600000
def CFG_EVT : Nat := 0x0600004
def CFG_CMD : Nat := 0x0600008
def CFG_SRC_LO : Nat := 0x060000C
def CFG_SRC_HI : Nat := 0x0600010
def CFG_LEN : Nat := 0x0600014
def CFG_WAIT : Nat := 0x0600018
def CFG_AT : Nat := 0x060001C
def CFG_RESULT : Nat := 0x0600020
def CFG_RESULT_AT : Nat := 0x0600024
def CFG_TIME : Nat := 0x0600028
def FACET_STAT (i : Nat) : Nat := 0x0600100 + 0x8 * i
def FACET_ID (i : Nat) : Nat := 0x0600104 + 0x8 * i
def CND_STAT : Nat := 0x0700000
def CND_EVT : Nat := 0x0700004
def CND_CMD : Nat := 0x0700008
def CND_CLAIM : Nat := 0x070000C
def UPD_SRC_LO : Nat := 0x0700010
def UPD_SRC_HI : Nat := 0x0700014
def UPD_LEN : Nat := 0x0700018
def UPD_STAT : Nat := 0x070001C
def FW_VER (i : Nat) : Nat := 0x0700020 + 0x4 * i
def SWITCHES : Nat := 0x0700028
def REC (i : Nat) : Nat := 0x0700100 + 0x4 * i
def SES_STAT : Nat := 0x0800000
def SES_EVT : Nat := 0x0800004
def SES_FIRST : Nat := 0x0800008
def QP_RESET : Nat := 0x0800010
def QP_SEL : Nat := 0x0800014
def QP_VIEW : Nat := 0x0800018
def SLOT_STAT (i : Nat) : Nat := 0x0800100 + 0x8 * i
def SLOT_QP (i : Nat) : Nat := 0x0800104 + 0x8 * i
def SES_REQ (i : Nat) : Nat := 0x0800400 + 0x8 * i
def SES_ERR (i : Nat) : Nat := 0x0800404 + 0x8 * i
def SES_NAN (i : Nat) : Nat := 0x0800600 + 0x4 * i
def FAB_STAT : Nat := 0x0900000
def FAB_EVT : Nat := 0x0900004
def FAB_FIRST : Nat := 0x0900008
def FAB_ROB : Nat := 0x090000C
def FAB_CTL : Nat := 0x0900010
def FAB_CC1 : Nat := 0x0900014
def FAB_CC2 : Nat := 0x0900018
def RT_CMD : Nat := 0x0900020
def RT_LO : Nat := 0x0900024
def RT_HI : Nat := 0x0900028
def MC_CMD : Nat := 0x0900030
def MC_DATA : Nat := 0x0900034
def PFAB_MARK (i : Nat) : Nat := 0x0900100 + 0x8 * i
def PFAB_HCRC (i : Nat) : Nat := 0x0900104 + 0x8 * i
def FCNT_RET (i : Nat) : Nat := 0x0900400 + 0x8 * i
def FCNT_UND (i : Nat) : Nat := 0x0900404 + 0x8 * i
def MSF_STAT : Nat := 0x0A00000
def MSF_EVT : Nat := 0x0A00004
def MSF_FIRST : Nat := 0x0A00008
def MSF_CTL : Nat := 0x0A0000C
def WIN_CMD : Nat := 0x0A00010
def WIN_DATA : Nat := 0x0A00014
def XLT_CMD : Nat := 0x0A00018
def XLT_DATA0 : Nat := 0x0A0001C
def XLT_DATA1 : Nat := 0x0A00020
def KEY_CMD : Nat := 0x0A00024
def KEY_DATA : Nat := 0x0A00028
def KEY_VALUE : Nat := 0x0A0002C
def POD_BASE (i : Nat) : Nat := 0x0A00040 + 0x8 * i
def POD_CNT (i : Nat) : Nat := 0x0A00044 + 0x8 * i
def MQ_LO (i : Nat) : Nat := 0x0A00100 + 0x10 * i
def MQ_HI (i : Nat) : Nat := 0x0A00104 + 0x10 * i
def MQ_CTL (i : Nat) : Nat := 0x0A00108 + 0x10 * i
def MQ_CNT (i : Nat) : Nat := 0x0A0010C + 0x10 * i
def HA_STAT (i : Nat) : Nat := 0x0A00800 + 0x8 * i
def HA_CNT (i : Nat) : Nat := 0x0A00804 + 0x8 * i
def MSF_REF (i : Nat) : Nat := 0x0A01000 + 0x4 * i
def OPT_STAT : Nat := 0x0B00000
def OPT_EVT : Nat := 0x0B00004
def OPT_FIRST : Nat := 0x0B00008
def OPT_CTL : Nat := 0x0B0000C
def LM_CMD : Nat := 0x0B00010
def LM_STAT (i : Nat) : Nat := 0x0B00100 + 0x10 * i
def PORT_STAT (i : Nat) : Nat := 0x0B00400 + 0x10 * i
def PORT_CORR (i : Nat) : Nat := 0x0B00404 + 0x10 * i
def PORT_UNCORR (i : Nat) : Nat := 0x0B00408 + 0x10 * i
def PORT_REPLAY (i : Nat) : Nat := 0x0B0040C + 0x10 * i
def PLANE (i j : Nat) : Nat := 0x0B08000 + 0x100 * i + 0x4 * j
def LINE (i j : Nat) : Nat := 0x0B10000 + 0x100 * i + 0x4 * j
def PBL_STAT : Nat := 0x0C00000
def PBL_EVT : Nat := 0x0C00004
def PBL_FIRST : Nat := 0x0C00008
def GST_CTL (i : Nat) : Nat := 0x0C00010 + 0x4 * i
def GST_STAT (i : Nat) : Nat := 0x0C00018 + 0x4 * i
def DIE_ID (i : Nat) : Nat := 0x0C00100 + 0x4 * i
def CAPC (i : Nat) : Nat := 0x0C00200 + 0x4 * i
def CAPM (i : Nat) : Nat := 0x0C00240 + 0x4 * i
def CAPD (i j : Nat) : Nat := 0x0C00400 + 0x40 * i + 0x4 * j
def GCAP (i j : Nat) : Nat := 0x0C00800 + 0x40 * i + 0x4 * j
def PRISM_LATE (i : Nat) : Nat := 0x0C00900 + 0x4 * i
def RAIL (i : Nat) : Nat := 0x0C00A00 + 0x4 * i
def VGRP (i : Nat) : Nat := 0x0C01000 + 0x4 * i
def SITE_CH (i : Nat) : Nat := 0x0C02000 + 0x4 * i
def MST_STAT (i : Nat) : Nat := 0x0D00000 + 0x1000 * i
def MST_EVT (i : Nat) : Nat := 0x0D00004 + 0x1000 * i
def CE_COUNT (i : Nat) : Nat := 0x0D00008 + 0x1000 * i
def UE_COUNT (i : Nat) : Nat := 0x0D0000C + 0x1000 * i
def CYC40 (i : Nat) : Nat := 0x0D00010 + 0x1000 * i
def CYC60 (i : Nat) : Nat := 0x0D00014 + 0x1000 * i
def CYC80 (i : Nat) : Nat := 0x0D00018 + 0x1000 * i
def LAYER_STAT (i j : Nat) : Nat := 0x0D00100 + 0x1000 * i + 0x4 * j
def SLICE_STAT (i : Nat) : Nat := 0x0D20000 + 0x4 * i
def EBW_EVT (i : Nat) : Nat := 0x0DC0000 + 0x1000 * i
def EBW_ERR (i : Nat) : Nat := 0x0DC0004 + 0x1000 * i
def EBW_ERR_BLK (i : Nat) : Nat := 0x0DC0008 + 0x1000 * i
def EBW_ERR_ADDR_LO (i : Nat) : Nat := 0x0DC000C + 0x1000 * i
def EBW_ERR_ADDR_HI (i : Nat) : Nat := 0x0DC0010 + 0x1000 * i
def EBW_BLOCKS (i : Nat) : Nat := 0x0DC0014 + 0x1000 * i
def EBW_CNT (i : Nat) : Nat := 0x0DC0018 + 0x1000 * i
def LPE_STAT : Nat := 0x0E00000
def LPE_EVT : Nat := 0x0E00004
def LPE_FIRST : Nat := 0x0E00008
def BANK_STAT (i : Nat) : Nat := 0x0E00100 + 0x10 * i
def BANK_ENOB (i : Nat) : Nat := 0x0E00104 + 0x10 * i
def BANK_CAL (i : Nat) : Nat := 0x0E00108 + 0x10 * i
def BANK_JOBS (i : Nat) : Nat := 0x0E0010C + 0x10 * i
def GRP_CFG (i : Nat) : Nat := 0x0E00400 + 0x4 * i
def LPE_CNT (i : Nat) : Nat := 0x0E00500 + 0x4 * i
def SEC_STAT : Nat := 0x0F00000
def SEC_EVT : Nat := 0x0F00004
def SEC_CMD : Nat := 0x0F00008
def SEC_SRC_LO : Nat := 0x0F0000C
def SEC_SRC_HI : Nat := 0x0F00010
def SEC_LEN : Nat := 0x0F00014
def SEC_NONCE : Nat := 0x0F00018
def SVN_MIN : Nat := 0x0F0001C
def TAMPER : Nat := 0x0F00020
def KID (i j : Nat) : Nat := 0x0F00100 + 0x10 * i + 0x4 * j
def REG_STAT (i : Nat) : Nat := 0x1000000 + 0x40000 * i
def REG_EVT (i : Nat) : Nat := 0x1000004 + 0x40000 * i
def REG_SLIP (i : Nat) : Nat := 0x1000008 + 0x40000 * i
def REG_LOST (i : Nat) : Nat := 0x100000C + 0x40000 * i
def REG_RETIME (i : Nat) : Nat := 0x1000010 + 0x40000 * i
def QUE_STAT (i j : Nat) : Nat := 0x1001000 + 0x40000 * i + 0x4 * j
def BLK_MAP (i j : Nat) : Nat := 0x1020000 + 0x40000 * i + 0x100 * j
def CELL_STAT (i j k : Nat) : Nat := 0x1020010 + 0x40000 * i + 0x100 * j + 0x4 * k
def BLK_EVT (i j : Nat) : Nat := 0x1020060 + 0x40000 * i + 0x100 * j

end Sys2Proof.Machine.Reg
end

