-- ==== Sys2Proof/Machine/RegFile.lean ====
section
/-! DEFINITION. The register window as a table: where each register lies, its access code (R13), the bits a
write can change, its reset value (R14), and its P and non-volatile bits. -/
namespace Sys2Proof.Machine

/-- The access codes of R13. A register whose fields differ carries the code of its writable fields. -/
inductive Access where
  | ro
  | rw
  | wo
  | w1c
  | rwg
  deriving DecidableEq, Repr

/-- One register or array of registers. dims: count and stride of each index, the largest stride first; wmask:
the bits a write acts on; keepP: the bits with reset code P; nv: the bits kept in the non-volatile store. -/
structure RegKind where
  base : Nat
  dims : List (Nat × Nat)
  access : Access
  wmask : Nat
  reset : Nat
  keepP : Nat
  nv : Nat
  deriving DecidableEq, Repr

/-- Lines that R298 leaves spare on a port: 0–31 lanes, 32–34 spare, 35 the clock; both directions. -/
def planeRole (j : Nat) : Nat := if j < 32 then j else if j < 35 then 0x21 else 0x20

/-- Lines and fibres of the optics: transmit and receive role of each port line, role of each laser line. -/
def resetOptics (a : Nat) : Option Nat :=
  if 0xB08000 ≤ a ∧ a < 0xB0A000 then
    let j := (a % 0x100) / 4
    some (planeRole j * 2 ^ 26 + planeRole j * 2 ^ 20)
  else if 0xB10000 ≤ a ∧ a < 0xB18000 then
    let i := (a % 0x100) / 4
    let j := ((a - 0xB10000) / 0x100) % 16
    let spare := if j < 4 then 32 ≤ i ∧ i < 35 else 32 ≤ i
    if spare then some (1 * 2 ^ 27) else none
  else none

/-- The channels of a site code (R259); ports and guests count none until they are up. -/
def siteChannels (code : Nat) : Nat :=
  if code < 8 then 768 else if 0x10 ≤ code ∧ code < 0x24 then 224 else if code = 0x30 then 64 else 0

/-- Word 0 and word 1 of a compute die at the baseline (R286): a bit for each opcode of R59. -/
def opWord0 : Nat := 0x7F3F0707
def opWord1 : Nat := 0xD00F0000

def resetBase (a : Nat) : Option Nat :=
  if 0xC00100 ≤ a ∧ a < 0xC001A0 then
    let i := (a - 0xC00100) / 4
    if i < 8 then some (0x10010000 + i) else if i < 16 then some (0x20010000 + (i - 8))
    else if i < 36 then some (0x30010000 + (i - 16)) else if i = 36 then some 0x40010000
    else if i = 37 then some 0x50010000 else none
  else if 0xC00400 ≤ a ∧ a < 0xC00800 then
    let d := (a - 0xC00400) / 0x40
    let w := (a % 0x40) / 4
    if d < 8 then
      (if w = 0 then some opWord0 else if w = 1 then some opWord1 else if w = 2 then some 0x7F
       else if w = 14 then some 1 else none)
    else if w = 0 then some 3 else if w = 14 then some 1 else none
  else if 0xC00A00 ≤ a ∧ a < 0xC00A60 then
    some (if (a - 0xC00A00) / 4 < 16 then 750 else 800)
  else if 0xC01000 ≤ a ∧ a < 0xC016C8 then
    let k := (a - 0xC01000) / 4
    some (if k < 416 then 0x6600 else if k < 418 then 0x8800 else 0)
  else if 0xC02000 ≤ a ∧ a < 0xC02200 then
    let n := siteChannels ((a - 0xC02000) / 4)
    some (n * 2 ^ 16 + n)
  else none

def resetMem (a : Nat) : Option Nat :=
  if a < 0xD20000 then
    let o := a % 0x1000
    if o = 0 then some (2 * 2 ^ 16)
    else if 0x100 ≤ o then
      let p := (o - 0x100) / 4
      some (if p < 32 then p else 0x100)
    else none
  else if a < 0xD20500 then
    let n := (a - 0xD20000) / 4
    some (3 * 2 ^ 28 + (n % 20) * 2 ^ 8 + n / 20)
  else none

/-- Registers of BAR0 block 0. -/
def kinds0 : List RegKind := [
  ⟨0x0, [], .ro, 0x0, 0x48201F6A, 0x0, 0x0⟩,
  ⟨0x4, [], .ro, 0x0, 0x1, 0x0, 0x0⟩,
  ⟨0x8, [], .ro, 0x0, 0x0, 0x0, 0x0⟩,
  ⟨0xC, [], .w1c, 0xFF, 0x0, 0x0, 0x0⟩,
  ⟨0x10, [], .ro, 0x0, 0x0, 0x0, 0x0⟩,
  ⟨0x14, [], .ro, 0x0, 0x0, 0xFFFFFFFF, 0x0⟩,
  ⟨0x18, [], .ro, 0x0, 0x0, 0xFFFFFFFF, 0x0⟩,
  ⟨0x20, [], .rw, 0xFF0001FF, 0x0, 0x0, 0x0⟩,
  ⟨0x24, [], .ro, 0x0, 0x0, 0x0, 0x0⟩,
  ⟨0x28, [], .ro, 0x0, 0x0, 0xFFFF, 0x0⟩,
  ⟨0x30, [], .ro, 0x0, 0x0, 0x0, 0x0⟩,
  ⟨0x34, [], .ro, 0x0, 0x0, 0x0, 0x0⟩,
  ⟨0x38, [], .ro, 0x0, 0x0, 0x0, 0x0⟩,
  ⟨0x3C, [], .ro, 0x0, 0x0, 0x0, 0x0⟩,
  ⟨0x40, [], .rwg, 0x8000007F, 0x0, 0x0, 0x0⟩,
  ⟨0x80000, [(64, 0x10), (3, 0x4)], .rw, 0xFFFFFFFF, 0x0, 0x0, 0x0⟩,
  ⟨0x8000C, [(64, 0x10)], .rw, 0x1, 0x0, 0x0, 0x0⟩,
  ⟨0x80800, [(2, 0x4)], .ro, 0x0, 0x0, 0x0, 0x0⟩]

/-- Registers of BAR0 block 1. -/
def kinds1 : List RegKind := [
  ⟨0x100000, [], .ro, 0x0, 0xB0000000, 0xFFFF, 0x0⟩,
  ⟨0x100004, [], .w1c, 0x3F, 0x0, 0x0, 0x0⟩,
  ⟨0x100008, [], .ro, 0x0, 0xF3, 0x0, 0x0⟩,
  ⟨0x10000C, [], .ro, 0x0, 0xFF0F, 0x0, 0x0⟩,
  ⟨0x100010, [], .ro, 0x0, 0x0, 0xFF0000, 0x0⟩,
  ⟨0x100014, [], .ro, 0x0, 0x0, 0xFFFFFFFF, 0x0⟩,
  ⟨0x100018, [], .ro, 0x0, 0x0, 0xFFFFFFFF, 0x0⟩]

/-- Registers of BAR0 block 2. -/
def kinds2 : List RegKind := [
  ⟨0x200000, [], .ro, 0x0, 0x0, 0xF000FF00, 0x0⟩,
  ⟨0x200004, [], .w1c, 0xFF, 0x0, 0x0, 0x0⟩,
  ⟨0x200010, [], .ro, 0x0, 0x0, 0xFFFFFFFF, 0x0⟩,
  ⟨0x200014, [], .ro, 0x0, 0x0, 0xFFFFFFFF, 0x0⟩,
  ⟨0x200018, [], .rwg, 0xE000FFFF, 0x20000100, 0x0, 0x0⟩,
  ⟨0x20001C, [], .rw, 0x3FFFF, 0x0, 0x0, 0x0⟩,
  ⟨0x200020, [], .ro, 0x0, 0x0, 0x0, 0x0⟩,
  ⟨0x200024, [], .ro, 0x0, 0x0, 0x0, 0x0⟩,
  ⟨0x200028, [], .ro, 0x0, 0x0, 0xFFFFFFFF, 0x0⟩,
  ⟨0x20002C, [], .ro, 0x0, 0x0, 0xFFFFFFFF, 0x0⟩,
  ⟨0x200100, [(64, 0x4)], .ro, 0x0, 0x0, 0x0, 0x0⟩]

/-- Registers of BAR0 block 3. -/
def kinds3 : List RegKind := [
  ⟨0x300000, [], .ro, 0x0, 0x1C20, 0x0, 0x0⟩,
  ⟨0x300004, [], .w1c, 0x7FF, 0x0, 0x0, 0x0⟩,
  ⟨0x300008, [], .ro, 0x0, 0x0, 0x0, 0x0⟩,
  ⟨0x30000C, [], .rwg, 0x8000000F, 0x0, 0x0, 0x0⟩,
  ⟨0x300010, [], .rw, 0x1FFF, 0x1C20, 0x0, 0x0⟩,
  ⟨0x300014, [], .ro, 0x0, 0x0, 0x0, 0x0⟩,
  ⟨0x300018, [], .ro, 0x0, 0x0, 0xFFFFFFFF, 0x0⟩,
  ⟨0x30001C, [], .rwg, 0xC000003F, 0x0, 0x0, 0x0⟩,
  ⟨0x300100, [(48, 0x4)], .ro, 0x0, 0x0, 0xFFFF, 0x0⟩]

/-- Registers of BAR0 block 4. -/
def kinds4 : List RegKind := [
  ⟨0x400000, [], .ro, 0x0, 0x0, 0x0, 0x0⟩,
  ⟨0x400004, [], .w1c, 0x3F, 0x0, 0x0, 0x0⟩,
  ⟨0x400008, [], .ro, 0x0, 0x0, 0x0, 0x0⟩,
  ⟨0x40000C, [], .ro, 0x0, 0x0, 0x0, 0x0⟩,
  ⟨0x400010, [(4, 0x4)], .ro, 0x0, 0x0, 0xFF00, 0x0⟩,
  ⟨0x400020, [], .ro, 0x0, 0x0, 0x0, 0x0⟩,
  ⟨0x400100, [(64, 0x8)], .ro, 0x0, 0x0, 0x0, 0x0⟩,
  ⟨0x400104, [(64, 0x8)], .ro, 0x0, 0x0, 0x7F00FF, 0x0⟩]

/-- Registers of BAR0 block 5. -/
def kinds5 : List RegKind := [
  ⟨0x500000, [], .ro, 0x0, 0x0, 0x0, 0x0⟩,
  ⟨0x500004, [], .w1c, 0x7, 0x0, 0x0, 0x0⟩,
  ⟨0x500008, [], .ro, 0x0, 0x0, 0x0, 0x0⟩,
  ⟨0x500010, [], .wo, 0x3FF, 0x0, 0x0, 0x0⟩,
  ⟨0x500014, [], .wo, 0x3FF, 0x0, 0x0, 0x0⟩,
  ⟨0x500018, [], .wo, 0x3FF, 0x0, 0x0, 0x0⟩,
  ⟨0x50001C, [], .wo, 0x3FF, 0x0, 0x0, 0x0⟩,
  ⟨0x500100, [(32, 0x4)], .ro, 0x0, 0x0, 0x0, 0x0⟩,
  ⟨0x500180, [(32, 0x4)], .ro, 0x0, 0x0, 0x0, 0x0⟩,
  ⟨0x500200, [(32, 0x4)], .ro, 0x0, 0x0, 0x0, 0x0⟩,
  ⟨0x500280, [(32, 0x4)], .rw, 0xFFFFFFFF, 0x0, 0x0, 0x0⟩,
  ⟨0x500300, [(32, 0x4)], .rw, 0xFFFFFFFF, 0x0, 0x0, 0x0⟩,
  ⟨0x500380, [(32, 0x4)], .rw, 0xFFFFFFFF, 0x0, 0x0, 0x0⟩,
  ⟨0x500400, [(32, 0x4)], .ro, 0x0, 0x0, 0x0, 0x0⟩,
  ⟨0x500500, [(2, 0x4)], .ro, 0x0, 0x0, 0x0, 0x0⟩,
  ⟨0x500508, [(2, 0x4)], .wo, 0xFFFFFFFF, 0x0, 0x0, 0x0⟩]

/-- Registers of BAR0 block 6. -/
def kinds6 : List RegKind := [
  ⟨0x600000, [], .ro, 0x0, 0x0, 0x0, 0x0⟩,
  ⟨0x600004, [], .w1c, 0x7F, 0x0, 0x0, 0x0⟩,
  ⟨0x600008, [], .rwg, 0x8FE0003F, 0x0, 0x0, 0x0⟩,
  ⟨0x60000C, [], .rw, 0xFFFFFFFF, 0x0, 0x0, 0x0⟩,
  ⟨0x600010, [], .rw, 0xFFFFFFFF, 0x0, 0x0, 0x0⟩,
  ⟨0x600014, [], .rw, 0xFFFFFFFF, 0x0, 0x0, 0x0⟩,
  ⟨0x600018, [], .rw, 0xFFFF, 0x40, 0x0, 0x0⟩,
  ⟨0x60001C, [], .rw, 0xFFFFFFFF, 0x0, 0x0, 0x0⟩,
  ⟨0x600020, [], .ro, 0x0, 0x0, 0x0, 0x0⟩,
  ⟨0x600024, [], .ro, 0x0, 0x0, 0x0, 0x0⟩,
  ⟨0x600028, [], .ro, 0x0, 0x0, 0x0, 0x0⟩,
  ⟨0x600100, [(64, 0x8)], .ro, 0x0, 0x0, 0x0, 0x0⟩,
  ⟨0x600104, [(64, 0x8)], .ro, 0x0, 0x0, 0x0, 0x0⟩]

/-- Registers of BAR0 block 7. -/
def kinds7 : List RegKind := [
  ⟨0x700000, [], .ro, 0x0, 0x0, 0x0, 0x0⟩,
  ⟨0x700004, [], .w1c, 0x3FF, 0x0, 0x0, 0x0⟩,
  ⟨0x700008, [], .rwg, 0x8F000000, 0x0, 0x0, 0x0⟩,
  ⟨0x70000C, [], .ro, 0x0, 0x30004, 0x0, 0x0⟩,
  ⟨0x700010, [], .rw, 0xFFFFFFFF, 0x0, 0x0, 0x0⟩,
  ⟨0x700014, [], .rw, 0xFFFFFFFF, 0x0, 0x0, 0x0⟩,
  ⟨0x700018, [], .rw, 0xFFFFFFFF, 0x0, 0x0, 0x0⟩,
  ⟨0x70001C, [], .ro, 0x0, 0x0, 0x0, 0x0⟩,
  ⟨0x700020, [(2, 0x4)], .ro, 0x0, 0x0, 0x0, 0xFFFFFFFF⟩,
  ⟨0x700028, [], .ro, 0x0, 0x0, 0xFFFFFFFF, 0x0⟩,
  ⟨0x700100, [(64, 0x4)], .ro, 0x0, 0x0, 0x0, 0x0⟩]

/-- Registers of BAR0 block 8. -/
def kinds8 : List RegKind := [
  ⟨0x800000, [], .ro, 0x0, 0x0, 0x0, 0x0⟩,
  ⟨0x800004, [], .w1c, 0x3FF, 0x0, 0x0, 0x0⟩,
  ⟨0x800008, [], .ro, 0x0, 0x0, 0x0, 0x0⟩,
  ⟨0x800010, [], .rwg, 0x8003FFFF, 0x0, 0x0, 0x0⟩,
  ⟨0x800014, [], .rw, 0x3FFFF, 0x0, 0x0, 0x0⟩,
  ⟨0x800018, [], .ro, 0x0, 0x0, 0x0, 0x0⟩,
  ⟨0x800100, [(64, 0x8)], .ro, 0x0, 0x0, 0x0, 0x0⟩,
  ⟨0x800104, [(64, 0x8)], .ro, 0x0, 0x0, 0x0, 0x0⟩,
  ⟨0x800400, [(64, 0x8)], .ro, 0x0, 0x0, 0x0, 0x0⟩,
  ⟨0x800404, [(64, 0x8)], .ro, 0x0, 0x0, 0x0, 0x0⟩,
  ⟨0x800600, [(64, 0x4)], .ro, 0x0, 0x0, 0x0, 0x0⟩]

/-- Registers of BAR0 block 9. -/
def kinds9 : List RegKind := [
  ⟨0x900000, [], .ro, 0x0, 0x0, 0x0, 0x0⟩,
  ⟨0x900004, [], .w1c, 0x1FFF, 0x0, 0x0, 0x0⟩,
  ⟨0x900008, [], .ro, 0x0, 0x0, 0x0, 0x0⟩,
  ⟨0x90000C, [], .ro, 0x0, 0x0, 0x0, 0x0⟩,
  ⟨0x900010, [], .rw, 0xFFFFFFFF, 0x8064040, 0x0, 0x0⟩,
  ⟨0x900014, [], .rw, 0xFFFFFFFF, 0x8000100, 0x0, 0x0⟩,
  ⟨0x900018, [], .rw, 0xFFFFFFFF, 0x810040, 0x0, 0x0⟩,
  ⟨0x900020, [], .rwg, 0xC003FFFF, 0x0, 0x0, 0x0⟩,
  ⟨0x900024, [], .rw, 0xFE3F001F, 0x0, 0x0, 0x0⟩,
  ⟨0x900028, [], .rw, 0xFFFFFFFF, 0x0, 0x0, 0x0⟩,
  ⟨0x900030, [], .rwg, 0xC3FF01FF, 0x0, 0x0, 0x0⟩,
  ⟨0x900034, [], .rw, 0xBF03FFFF, 0x0, 0x0, 0x0⟩,
  ⟨0x900100, [(32, 0x8)], .ro, 0x0, 0x0, 0xFFFFFFFF, 0x0⟩,
  ⟨0x900104, [(32, 0x8)], .ro, 0x0, 0x0, 0xFFFFFFFF, 0x0⟩,
  ⟨0x900400, [(64, 0x8)], .ro, 0x0, 0x0, 0x0, 0x0⟩,
  ⟨0x900404, [(64, 0x8)], .ro, 0x0, 0x0, 0x0, 0x0⟩]

/-- Registers of BAR0 block 10. -/
def kinds10 : List RegKind := [
  ⟨0xA00000, [], .ro, 0x0, 0x0, 0x0, 0x0⟩,
  ⟨0xA00004, [], .w1c, 0x1FF, 0x0, 0x0, 0x0⟩,
  ⟨0xA00008, [], .ro, 0x0, 0x0, 0x0, 0x0⟩,
  ⟨0xA0000C, [], .rw, 0x800003FF, 0x80000080, 0x0, 0x0⟩,
  ⟨0xA00010, [], .rwg, 0xCFFE003F, 0x0, 0x0, 0x0⟩,
  ⟨0xA00014, [], .rw, 0xF807FFFF, 0x0, 0x0, 0x0⟩,
  ⟨0xA00018, [], .rwg, 0xCF3F0000, 0x0, 0x0, 0x0⟩,
  ⟨0xA0001C, [], .rw, 0x3FFFF, 0x0, 0x0, 0x0⟩,
  ⟨0xA00020, [], .rw, 0xFFFF1FFF, 0x0, 0x0, 0x0⟩,
  ⟨0xA00024, [], .rwg, 0xFE3F003F, 0x0, 0x0, 0x0⟩,
  ⟨0xA00028, [], .rw, 0x7FFFFFF, 0x0, 0x0, 0x0⟩,
  ⟨0xA0002C, [], .ro, 0x0, 0x0, 0x0, 0x0⟩,
  ⟨0xA00040, [(8, 0x8)], .rw, 0x3FFFF, 0x0, 0x0, 0x0⟩,
  ⟨0xA00044, [(8, 0x8)], .rw, 0x1FFF, 0x0, 0x0, 0x0⟩,
  ⟨0xA00100, [(64, 0x10)], .rw, 0xFFFFE00F, 0x0, 0x0, 0x0⟩,
  ⟨0xA00104, [(64, 0x10)], .rw, 0x7FF, 0x0, 0x0, 0x0⟩,
  ⟨0xA00108, [(64, 0x10)], .rw, 0xC0000000, 0x0, 0x0, 0x0⟩,
  ⟨0xA0010C, [(64, 0x10)], .ro, 0x0, 0x0, 0x0, 0x0⟩,
  ⟨0xA00800, [(160, 0x8)], .ro, 0x0, 0x0, 0xFFC00000, 0x0⟩,
  ⟨0xA00804, [(160, 0x8)], .ro, 0x0, 0x0, 0xFFFFFFFF, 0x0⟩,
  ⟨0xA01000, [(64, 0x4)], .ro, 0x0, 0x0, 0x0, 0x0⟩]

/-- Registers of BAR0 block 11. -/
def kinds11 : List RegKind := [
  ⟨0xB00000, [], .ro, 0x0, 0x0, 0x0, 0x1FFF0000⟩,
  ⟨0xB00004, [], .w1c, 0x1FFF, 0x0, 0x0, 0x0⟩,
  ⟨0xB00008, [], .ro, 0x0, 0x3F00, 0x0, 0x0⟩,
  ⟨0xB0000C, [], .rw, 0x8000FFFF, 0x80000040, 0x0, 0x0⟩,
  ⟨0xB00010, [], .rwg, 0x80000007, 0x0, 0x0, 0x0⟩,
  ⟨0xB00100, [(8, 0x10)], .ro, 0x0, 0x0, 0x0, 0x1FF80000⟩,
  ⟨0xB00400, [(32, 0x10)], .ro, 0x0, 0x0, 0xFFFF, 0x0⟩,
  ⟨0xB00404, [(32, 0x10)], .ro, 0x0, 0x0, 0xFFFFFFFF, 0x0⟩,
  ⟨0xB00408, [(32, 0x10)], .ro, 0x0, 0x0, 0xFFFFFFFF, 0x0⟩,
  ⟨0xB0040C, [(32, 0x10)], .ro, 0x0, 0x0, 0xFFFFFFFF, 0x0⟩,
  ⟨0xB08000, [(32, 0x100), (36, 0x4)], .ro, 0x0, 0x0, 0x0, 0xFFF00000⟩,
  ⟨0xB10000, [(128, 0x100), (36, 0x4)], .ro, 0x0, 0x0, 0x0, 0xF8000000⟩]

/-- Registers of BAR0 block 12. -/
def kinds12 : List RegKind := [
  ⟨0xC00000, [], .ro, 0x0, 0x0, 0x0, 0x3FF03FF⟩,
  ⟨0xC00004, [], .w1c, 0x3FF, 0x0, 0x0, 0x0⟩,
  ⟨0xC00008, [], .ro, 0x0, 0x0, 0x0, 0x0⟩,
  ⟨0xC00010, [(2, 0x4)], .rwg, 0xC0000001, 0x80000000, 0x80000000, 0x0⟩,
  ⟨0xC00018, [(2, 0x4)], .ro, 0x0, 0x0, 0x0, 0x0⟩,
  ⟨0xC00100, [(40, 0x4)], .ro, 0x0, 0x0, 0x0, 0x0⟩,
  ⟨0xC00200, [(16, 0x4)], .ro, 0x0, 0x0, 0x0, 0x0⟩,
  ⟨0xC00240, [(16, 0x4)], .ro, 0x0, 0x0, 0x0, 0x0⟩,
  ⟨0xC00400, [(16, 0x40), (16, 0x4)], .ro, 0x0, 0x0, 0x0, 0x0⟩,
  ⟨0xC00800, [(2, 0x40), (16, 0x4)], .ro, 0x0, 0x0, 0x0, 0x0⟩,
  ⟨0xC00900, [(64, 0x4)], .ro, 0x0, 0x0, 0x0, 0x0⟩,
  ⟨0xC00A00, [(24, 0x4)], .ro, 0x0, 0x0, 0x0, 0x0⟩,
  ⟨0xC01000, [(434, 0x4)], .ro, 0x0, 0x0, 0xFF0000, 0xFF00FFFF⟩,
  ⟨0xC02000, [(128, 0x4)], .ro, 0x0, 0x0, 0x0, 0x83FF03FF⟩]

/-- Registers of BAR0 block 13. -/
def kinds13 : List RegKind := [
  ⟨0xD00000, [(20, 0x1000)], .ro, 0x0, 0x0, 0x0, 0x1FF0000⟩,
  ⟨0xD00004, [(20, 0x1000)], .w1c, 0xFF, 0x0, 0x0, 0x0⟩,
  ⟨0xD00008, [(20, 0x1000)], .ro, 0x0, 0x0, 0xFFFFFFFF, 0x0⟩,
  ⟨0xD0000C, [(20, 0x1000)], .ro, 0x0, 0x0, 0xFFFFFFFF, 0x0⟩,
  ⟨0xD00010, [(20, 0x1000)], .ro, 0x0, 0x0, 0xFFFFFFFF, 0xFFFFFFFF⟩,
  ⟨0xD00014, [(20, 0x1000)], .ro, 0x0, 0x0, 0xFFFFFFFF, 0xFFFFFFFF⟩,
  ⟨0xD00018, [(20, 0x1000)], .ro, 0x0, 0x0, 0xFFFFFFFF, 0xFFFFFFFF⟩,
  ⟨0xD00100, [(20, 0x1000), (34, 0x4)], .ro, 0x0, 0x0, 0x0, 0x7F031F⟩,
  ⟨0xD20000, [(320, 0x4)], .ro, 0x0, 0x0, 0x0, 0xF0000000⟩,
  ⟨0xDC0000, [(8, 0x1000)], .w1c, 0xF, 0x0, 0x0, 0x0⟩,
  ⟨0xDC0004, [(8, 0x1000)], .ro, 0x0, 0x0, 0x0, 0x0⟩,
  ⟨0xDC0008, [(8, 0x1000)], .ro, 0x0, 0x0, 0x0, 0x0⟩,
  ⟨0xDC000C, [(8, 0x1000)], .ro, 0x0, 0x0, 0x0, 0x0⟩,
  ⟨0xDC0010, [(8, 0x1000)], .ro, 0x0, 0x0, 0x0, 0x0⟩,
  ⟨0xDC0014, [(8, 0x1000)], .ro, 0x0, 0x0, 0x0, 0x0⟩,
  ⟨0xDC0018, [(8, 0x1000)], .ro, 0x0, 0x0, 0x0, 0x0⟩]

/-- Registers of BAR0 block 14. -/
def kinds14 : List RegKind := [
  ⟨0xE00000, [], .ro, 0x0, 0x0, 0x0, 0x0⟩,
  ⟨0xE00004, [], .w1c, 0x1FF, 0x0, 0x0, 0x0⟩,
  ⟨0xE00008, [], .ro, 0x0, 0x0, 0x0, 0x0⟩,
  ⟨0xE00100, [(32, 0x10)], .ro, 0x0, 0x0, 0x0, 0x0⟩,
  ⟨0xE00104, [(32, 0x10)], .ro, 0x0, 0x0, 0x0, 0x0⟩,
  ⟨0xE00108, [(32, 0x10)], .ro, 0x0, 0x0, 0x0, 0x0⟩,
  ⟨0xE0010C, [(32, 0x10)], .ro, 0x0, 0x0, 0x0, 0x0⟩,
  ⟨0xE00400, [(64, 0x4)], .ro, 0x0, 0x0, 0x0, 0x0⟩,
  ⟨0xE00500, [(64, 0x4)], .ro, 0x0, 0x0, 0x0, 0x0⟩]

/-- Registers of BAR0 block 15. -/
def kinds15 : List RegKind := [
  ⟨0xF00000, [], .ro, 0x0, 0x8000003, 0x800000, 0xE0000F03⟩,
  ⟨0xF00004, [], .w1c, 0x3F, 0x0, 0x0, 0x0⟩,
  ⟨0xF00008, [], .rwg, 0x80000000, 0x0, 0x0, 0x0⟩,
  ⟨0xF0000C, [], .rw, 0xFFFFFFFF, 0x0, 0x0, 0x0⟩,
  ⟨0xF00010, [], .rw, 0xFFFFFFFF, 0x0, 0x0, 0x0⟩,
  ⟨0xF00014, [], .rw, 0xFFFFFFFF, 0x0, 0x0, 0x0⟩,
  ⟨0xF00018, [], .ro, 0x0, 0x0, 0x0, 0x0⟩,
  ⟨0xF0001C, [], .ro, 0x0, 0x0, 0x0, 0xFF00FF⟩,
  ⟨0xF00020, [], .ro, 0x0, 0x0, 0xFFFFFFFF, 0xFFFFFFFF⟩,
  ⟨0xF00100, [(6, 0x10), (4, 0x4)], .ro, 0x0, 0x0, 0x0, 0xFFFFFFFF⟩]

/-- Registers of BAR0 block 16 (every region window). -/
def kinds16 : List RegKind := [
  ⟨0x1000000, [(64, 0x40000)], .ro, 0x0, 0x400000, 0x0, 0x0⟩,
  ⟨0x1000004, [(64, 0x40000)], .w1c, 0x1F, 0x0, 0x0, 0x0⟩,
  ⟨0x1000008, [(64, 0x40000)], .ro, 0x0, 0x0, 0x0, 0x0⟩,
  ⟨0x100000C, [(64, 0x40000)], .ro, 0x0, 0x0, 0x0, 0x0⟩,
  ⟨0x1000010, [(64, 0x40000)], .ro, 0x0, 0x0, 0x0, 0x0⟩,
  ⟨0x1001000, [(64, 0x40000), (16, 0x4)], .ro, 0x0, 0x0, 0x0, 0x0⟩,
  ⟨0x1020000, [(64, 0x40000), (8, 0x100)], .ro, 0x0, 0x1F1F1F, 0x0, 0x0⟩,
  ⟨0x1020010, [(64, 0x40000), (8, 0x100), (17, 0x4)], .w1c, 0x70, 0x0, 0x0, 0x0⟩,
  ⟨0x1020060, [(64, 0x40000), (8, 0x100)], .w1c, 0xF, 0x0, 0x0, 0x0⟩]

/-- The registers of the block an offset lies in (R474). -/
def kindsOf (a : Nat) : List RegKind :=
  match a / 0x100000 with
  | 0 => kinds0
  | 1 => kinds1
  | 2 => kinds2
  | 3 => kinds3
  | 4 => kinds4
  | 5 => kinds5
  | 6 => kinds6
  | 7 => kinds7
  | 8 => kinds8
  | 9 => kinds9
  | 10 => kinds10
  | 11 => kinds11
  | 12 => kinds12
  | 13 => kinds13
  | 14 => kinds14
  | 15 => kinds15
  | _ => if a < 0x2000000 then kinds16 else []

/-- Whether an offset from the array's base is one of its registers. -/
def inDims : List (Nat × Nat) → Nat → Bool
  | [], off => off == 0
  | (c, st) :: t, off => off / st < c && inDims t (off % st)

def RegKind.covers (k : RegKind) (a : Nat) : Bool := k.base ≤ a && inDims k.dims (a - k.base)

/-- The register at an offset, if the map names one. -/
def kindAt (a : Nat) : Option RegKind := (kindsOf a).find? (fun k => k.covers a)

/-- Whether an offset is an RWG register (R13). -/
def isRWG (a : Nat) : Bool :=
  match kindAt a with
  | some k => k.access == .rwg
  | none => false

/-- Reset values that differ along an array: the MSI-X mask bit (log 14), the fixed-fast CLASS bits and CEN of
assigned sources (R488), layers (R111), slices, spare lanes (R274), channels of a site (R259), plane and line
roles (R292, R298), die identity words (R5) and die capability words (R286) (log 5). -/
def resetSpecial (a : Nat) : Option Nat :=
  if a < 0x80800 then (if 0x80000 ≤ a ∧ a % 16 = 12 then some 1 else none)
  else if a < 0x500280 then none
  else if a < 0x500300 then
    let w := (a - 0x500280) / 4
    if w = 0 then some 0x20 else if w = 20 ∨ w = 21 then some 0xFFFFFFFF else if w = 22 then some 0xFFFF else none
  else if a < 0x500380 then
    let w := (a - 0x500300) / 4
    if w = 0 then some 0xFFFF7FFF else if w = 1 then some 0xFFF else if w < 22 then some 0xFFFFFFFF
    else if w = 22 then some 0xFFFF else none
  else if a < 0xB00000 then none
  else if a < 0xC00000 then resetOptics a
  else if a < 0xD00000 then resetBase a
  else if a < 0xE00000 then resetMem a
  else none

/-- A register's value at reset (R14): the map's value, or that of resetSpecial. -/
def resetValue (a : Nat) : Word :=
  match kindAt a with
  | none => 0
  | some k => match resetSpecial a with
    | some v => BitVec.ofNat 32 v
    | none => BitVec.ofNat 32 k.reset

/-- The P bits of a register (R14). -/
def keepMask (a : Nat) : Word :=
  match kindAt a with
  | some k => BitVec.ofNat 32 k.keepP
  | none => 0

/-- The bits of a register that the non-volatile store holds. -/
def nvMask (a : Nat) : Word :=
  match kindAt a with
  | some k => BitVec.ofNat 32 k.nv
  | none => 0

end Sys2Proof.Machine
end

