-- ==== Sys2Proof/Machine/Table.lean ====
section
/-! DEFINITION. Sparse tables in canonical form: sorted by key, no entry equal to what an unlisted key reads
as. The caller names that default, which may depend on the key. -/
namespace Sys2Proof.Machine

variable {α : Type}

/-- The entry of key k, or d. -/
def tget (d : α) : Tbl α → Nat → α
  | [], _ => d
  | (j, u) :: t, k => if j = k then u else tget d t k

/-- The entry v of key k put in its place. -/
def tput (k : Nat) (v : α) : Tbl α → Tbl α
  | [] => [(k, v)]
  | (j, u) :: t => if j = k then (k, v) :: t else if k < j then (k, v) :: (j, u) :: t else (j, u) :: tput k v t

/-- The table with key k at v; storing the default removes the entry. -/
def tset [DecidableEq α] (d : α) (t : Tbl α) (k : Nat) (v : α) : Tbl α :=
  if v = d then t.filter (fun e => e.1 != k) else tput k v t

/-- Every key below the list's keys, which rise. -/
def tsorted : Tbl α → Bool
  | [] => true
  | [_] => true
  | a :: b :: t => decide (a.1 < b.1) && tsorted (b :: t)

/-- The canonical form. -/
def twf [DecidableEq α] (d : Nat → α) (t : Tbl α) : Bool :=
  tsorted t && t.all (fun e => e.2 != d e.1)

/-- The entries outside [lo, hi). -/
def tclear (lo hi : Nat) (t : Tbl α) : Tbl α := t.filter (fun e => e.1 < lo || hi ≤ e.1)

/-- The canonical form of a memory: addresses strictly rising, and no entry 0, which an unlisted address reads as
(log 7). -/
abbrev Memory.wf (m : Tbl (BitVec 8)) : Bool := twf (fun _ => 0) m

end Sys2Proof.Machine
end

