-- ==== Sys2Proof/Machine/State.lean ====
section
/-! DEFINITION. The state of the module: the register window, and the state of every unit that no register
holds. Plain data; INVENTORY.md names the rule and the reset value of each piece. -/
namespace Sys2Proof.Machine

/-- Why a step could stop the machine. No rule of the manual stops the module for good: a fault of a part is a
recorded event. -/
inductive Fault where
  /-- Raised by nobody: no command of the manual ends the machine. Safe. -/
  | halted
  deriving DecidableEq, Repr

/-- Why a command could be refused by the model. -/
inductive Refusal where
  /-- Raised by the arm of a command without a meaning yet. Safe: the model says nothing of the command. -/
  | notModelled (mnemonic : String)
  deriving DecidableEq, Repr

/-- What the module puts on its interfaces, oldest first (log 3). -/
inductive Output where
  /-- A packet that a unit of the module sends. -/
  | packet (p : Packet)
  /-- A packet forwarded to a port's egress (R339). -/
  | forward (port : Nat) (p : Packet)
  /-- A link frame sent (R296), with the packets that end in it, and the levels of each line that carries it (R294). -/
  | frame (port : Nat) (fr : LinkFrame) (lines : List (Nat × List Nat))
  /-- A training block sent (R297). -/
  | training (port : Nat) (payload : BitVec 64)
  /-- An MSI-X message (R486). -/
  | msix (vector : Nat)
  /-- The data of a register read. -/
  | read (value : Word)
  /-- The acknowledgement of the data bytes of an I3C access (R495, R496). -/
  | i3c (acked : Bool)
  /-- The completion of an aperture read (R471, R472). -/
  | aperture (data : Bytes) (poison : Bool)
  /-- An SPDM response (R455). -/
  | spdm (data : Bytes)
  /-- An SPDM error (R461). -/
  | spdmError
  /-- A command handed to an engine, bank or region by the schedule (R243): its operation and operands. -/
  | command (facet : Nat) (op : Nat) (operands : Bytes)
  /-- Flits of a facet that the Prism carries between two sites in one device beat: their number, and from a compute
  site their data (R263, R264). -/
  | prism (facet : Option Nat) (src dst count : Nat) (data : List Bytes)
  /-- The job tag that the base stamps on a guest's flits, and their number (R284). -/
  | stamped (guest tag count : Nat)
  /-- What a guest is offered (R283): channels each way, towards it and from it, power in 0.1 W, VDDG in mV, its active
  modules, and whether they run at 16 GT/s. -/
  | offer (guest chIn chOut power vddg : Nat) (modules : List Nat) (rate16 : Bool)
  /-- The units of each buffer that a port reports at a retrain: held, and returned by frames that the peer has not
  acknowledged (R342). -/
  | totals (port : Nat) (units : List Nat)
  /-- A marked multicast of a facet misses a target: its group and its delivery bitmap, target i at bit i (R338). -/
  | missed (facet group : Nat) (delivered : Nat)
  /-- Data that a route brings to a Loupe bank (R235). -/
  | bank (bank : Nat) (data : Bytes)
  deriving DecidableEq, Repr

/-- 64 bytes on a mesh path, with the poison mark or error response they carry (R68, R99), the device tick at
which they entered the mesh (R130), and the 64 B unit of device memory that they come from. -/
structure Flit where
  bad : Bool
  data : Bytes
  born : Nat
  unit : Option Nat
  deriving DecidableEq, Repr

/-- What a cell is doing (R59, R60, R66): idle after END, issuing, waiting for a frame start after NEXTF,
stalled in LD or ST, or isolated by a fault. -/
inductive CellMode where
  | idle
  | running
  | waiting
  | stalled
  | faulted
  deriving DecidableEq, Repr

/-- A range written by an instruction whose latency has not passed (R37, R61): of the cell store (space 0, byte
addresses), the accumulators (space 1, bank × 1024 + 32 × i + j) or the scale slots (space 2); the unit that writes it,
and the work time until which that unit is occupied by it. -/
structure InFlight where
  space : Nat
  lo : Nat
  hi : Nat
  unit : Nat
  done : Nat
  ready : Nat
  deriving DecidableEq, Repr

/-- An instruction that occupies unit u of a cell until a work time: the cycles that it takes undelayed, and the store
ranges that it accesses in them (R61, R62). -/
structure UnitUse where
  unit : Nat
  until_ : Nat
  occ : Nat
  ranges : List (Nat × Nat)
  deriving DecidableEq, Repr

/-- The transfer of an LD or ST that has not finished (R136): the port queue, the store address, the work time of
issue, the flits of CNT, those left, for an LD those taken and for an ST those to send, and, while it stalls its
region, the flits it needed by then. -/
structure Xfer where
  load : Bool
  queue : Nat
  addr : Nat
  issue : Nat
  total : Nat
  left : Nat
  got : List Flit
  need : Nat
  deriving DecidableEq, Repr

/-- A cell position (R34). Work times count work ticks from the start of the step. -/
structure CellState where
  store : Tbl Byte
  acc : Tbl Word
  accInt0 : Bool
  accInt1 : Bool
  sc : Tbl Word
  lc : Tbl Nat
  queues : Tbl (List Flit)
  progLen : Nat
  pc : Nat
  mode : CellMode
  /-- Frames begun since the start of the step. -/
  frame : Nat
  /-- The work time a successor's (BEAT, TICK) must pass (R57, R60). -/
  last : Nat
  /-- The work time at which the last instruction issued or took effect (R60). -/
  fx : Nat
  /-- The work time until which unit u is occupied: 0 MAC array, 1 drain, 2 vector, 3 move (R57, R61). -/
  busy : Tbl Nat
  /-- The work time until which bank b is occupied by the MAC array (key b) or the drain (key 2 + b) (R37). -/
  bankBusy : Tbl Nat
  inflight : List InFlight
  /-- The instructions that occupy the units (R62). -/
  uses : List UnitUse
  pend : Option Xfer
  /-- A NEXTF or END has issued in the frame in which the conductor ends the step (R65). -/
  endSeen : Bool
  progDigest : Bytes
  dataDigest : Bytes
  /-- The register clock in which a flag was last set, and the flags set in it (R76). -/
  flagAt : Nat
  flagNew : Word
  deriving DecidableEq, Repr

/-- A cell after a reset whose reach includes it (R50, R389, R502; log 6). -/
def CellState.reset : CellState :=
  { store := [], acc := [], accInt0 := false, accInt1 := false, sc := [], lc := [], queues := [], progLen := 0,
    pc := 0, mode := .idle, frame := 0, last := 0, fx := 0, busy := [], bankBusy := [], inflight := [], uses := [],
    pend := none, endSeen := false, progDigest := [], dataDigest := [], flagAt := 0, flagNew := 0 }

/-- A block (R69, R72, R125): the cell last granted, whether a reset is asked for, and the positions with a
hardware fault since. -/
structure BlockState where
  rowLast : Nat
  needReset : Bool
  bad : List Nat
  deriving DecidableEq, Repr

def BlockState.reset : BlockState := ⟨15, false, []⟩

/-- Why a region stands still (R136). -/
inductive Stall where
  | load (cell : CellId)
  | store (cell : CellId)
  /-- An inbound queue of the region holds nothing for a slot of a route. -/
  | inEmpty (queue route : Nat)
  /-- A queue of a region has no free reserved entry of a route. -/
  | outFull (region queue route limit : Nat)
  | engine (e : Nat)
  deriving DecidableEq, Repr

/-- A region (R134 to R153): its inbound queues and, as queues 16 to 19, the outbound ones of VAP0 to VAP3, by
queue × 4 + lane (0 scheduled, 1 VC0, 2 VC1), each flit with its route; the stalls in force, the count S, the
stretch in force in eighths (R373), and the point that a relock which waits will bring, or, while it runs, the one to keep. -/
structure RegionState where
  queues : Tbl (List (Nat × Flit))
  stalls : List Stall
  frameS : Nat
  stretch : Nat
  newPoint : Option Nat
  /-- Device beat at which the local beat began (R138). -/
  beatStart : Nat
  /-- Device beat at which the next local beat begins after slips (R138). -/
  holdUntil : Nat
  /-- The frame's last local beat has ended. -/
  done : Bool
  /-- A frame start has come while the region is behind: the device beat at which that frame starts (R144). -/
  behind : Option Nat
  /-- A relock whose window has opened starts when the outbound queues have drained (R150). -/
  relockDue : Bool
  /-- The local beat at which that window begins (R243). -/
  window : Nat
  /-- A repair took the region out of its facet, which it joins again at the next frame start (R21, R146). -/
  rejoin : Bool
  /-- Flits that bounded routes have injected in the present beat, by route (R130). -/
  sent : Tbl Nat
  deriving DecidableEq, Repr

def RegionState.reset : RegionState := ⟨[], [], 0, 0, none, 0, 0, false, none, false, 0, false, []⟩

/-- What a region keeps when it changes hands: its clock's stretch, and a relock that is under way or due (R150). -/
def RegionState.kept (x : RegionState) : RegionState :=
  { RegionState.reset with stretch := x.stretch, newPoint := x.newPoint, relockDue := x.relockDue && x.newPoint.isSome }

/-- A slot run (R235). -/
structure SlotRun where
  first : Nat
  count : Nat
  stride : Nat
  deriving DecidableEq, Repr

/-- A route record (R235). -/
structure RouteRec where
  num : Nat
  mode : Nat
  src : Nat
  sink : Nat
  rate : Nat
  reserve : Nat
  path : List Nat
  runs : List SlotRun
  latency : Nat
  deriving DecidableEq, Repr

/-- A grant record (R236). -/
structure GrantRec where
  src : Nat
  dst : Nat
  channels : Nat
  first : Nat
  beats : Nat
  frame : Nat
  deriving DecidableEq, Repr

/-- An image of the PROGRAM section with its digest field (R237). -/
structure ImageRec where
  digest : Bytes
  data : Bytes
  deriving DecidableEq, Repr

/-- A cell entry (R237): program and data image, 0xFFFF for none. -/
structure CellRec where
  region : Nat
  block : Nat
  cell : Nat
  prog : Nat
  data : Nat
  deriving DecidableEq, Repr

/-- A command record (R243). -/
structure CmdRec where
  op : Nat
  frame : Nat
  beat : Nat
  tick : Nat
  args : Bytes
  deriving DecidableEq, Repr

/-- A tensor: its address and its 48-byte descriptor (R80, R238). -/
structure TensorRec where
  dpa : Nat
  desc : Bytes
  deriving DecidableEq, Repr

/-- A layer of the LOUPE section (R241). -/
structure LayerRec where
  layer : Nat
  k : Nat
  mode : Nat
  log : Bool
  nsink : Nat
  deriving DecidableEq, Repr

/-- A reservation record (R242). -/
structure ResRec where
  eid : Nat
  chan : Nat
  ep : Nat
  bytes : Nat
  perFrame : Nat
  deriving DecidableEq, Repr

/-- The SESSION section (R195, R239). -/
structure SessionRec where
  qbase : Nat
  qn : Nat
  rqbase : Nat
  rqlog2 : Nat
  gap : Nat
  admitWait : Nat
  v : Nat
  eos : Nat
  qpctx : Nat
  stepin : Nat
  logits : Nat
  ep : Nat
  deriving DecidableEq, Repr

/-- The GROUP section (R158, R240). -/
structure GroupRec where
  g : Nat
  rank : Nat
  ilog2 : Nat
  nb : Nat
  digest : Bytes
  next : Nat
  prev : Nat
  home : List Nat
  deriving DecidableEq, Repr

/-- The FACET section (R231). -/
structure FacetTable where
  regions : List Nat
  slices : List Nat
  slots : List Nat
  eps : List Nat
  banks : List Nat
  jobTag : Nat
  mshare : Nat
  drain : Nat
  stageDpa : Nat
  stageLen : Nat
  deriving DecidableEq, Repr

/-- The SCHEDULE section (R243). -/
structure ScheduleRec where
  stepFrames : Nat
  multi : Bool
  noRetime : Bool
  cmds : List CmdRec
  deriving DecidableEq, Repr

/-- A stream that the loader has read (R226 to R243). sectionIdx gives a section type's directory index. -/
structure Kcs where
  facet : Nat
  retain : Bool
  streamId : Nat
  baseId : Nat
  svn : Nat
  signed : Nat
  digest : Bytes
  dir : List (Nat × Nat × Nat)
  table : FacetTable
  capC : List Nat
  capM : List Nat
  points : List Nat
  routes : List RouteRec
  grants : List GrantRec
  images : List ImageRec
  cells : List CellRec
  schedule : ScheduleRec
  tensors : List TensorRec
  session : Option SessionRec
  group : Option GroupRec
  layers : List LayerRec
  eids : List Nat
  reservations : List ResRec
  /-- The bytes of the SESSION and GROUP sections and of the slot list, which RETAIN compares (R250). -/
  kept : Bytes
  /-- Positions of the repair record: region, block, position (R230). -/
  repair : List (Nat × Nat × Nat)
  deriving DecidableEq, Repr

/-- No stream. -/
def Kcs.empty : Kcs :=
  { facet := 0, retain := false, streamId := 0, baseId := 0, svn := 0, signed := 0, digest := [], dir := [],
    table := ⟨[], [], [], [], [], 0, 0, 0, 0, 0⟩, capC := [], capM := [], points := [], routes := [],
    grants := [], images := [], cells := [], schedule := ⟨1, false, false, []⟩, tensors := [], session := none,
    group := none, layers := [], eids := [], reservations := [], kept := [], repair := [] }

/-- A decode engine's run (R87 to R95): the facet, the tensor's descriptor as read, the blocks and units left,
the next block's index and address, the staging address of the next output, and whether the rest is +0. -/
structure EngineState where
  active : Bool
  /-- The staging address at which the run's output begins (R91). -/
  start : Nat
  facet : Nat
  desc : Bytes
  blocksLeft : Nat
  unitsLeft : Nat
  block : Nat
  addr : Nat
  dest : Nat
  zero : Bool
  deriving DecidableEq, Repr

def EngineState.reset : EngineState := ⟨false, 0, 0, [], 0, 0, 0, 0, 0, false⟩

/-- A map-out (R112 to R115): of a bank (logical layer, channel, bank) or of a whole logical layer, into
physical layer dst. -/
structure MapOut where
  layer : Nat
  bank : Option (Nat × Nat)
  dst : Nat
  deriving DecidableEq, Repr

/-- A memory stack (R111 to R122): bank remaps (layer, channel, bank), the device ticks of a bank's last corrected
errors, newest first, map-outs waiting and running, whether a map commit waits for the supply, the layers whose slice
retires at its facet's next frame boundary, the band due at the next frame boundary, and the cycle counter.
Temperatures in m°C. -/
structure StackState where
  remaps : List (Nat × Nat × Nat)
  /-- The remap table in the non-volatile store. -/
  remapsNv : List (Nat × Nat × Nat)
  /-- The CRC-32C check words of the maps and of the wear counters in the non-volatile store (R111, R121; log 49). -/
  mapsCrc : Word
  wearCrc : Word
  /-- Bank groups in which an uncorrectable error was found: logical layer × 64 + channel (R112). -/
  badGroups : List Nat
  errors : Tbl (List Nat)
  waiting : List MapOut
  copy : Option MapOut
  commitDue : Bool
  retiring : List Nat
  bandDue : Option Nat
  temp : Int
  falling : Bool
  low : Int
  high : Int
  lastShutdown : Option Int
  /-- The last ten samples, newest first (R418). -/
  hist : List Int
  deriving DecidableEq, Repr

/-- A stack after reset (log 6): no map-out, 40 °C. -/
def StackState.reset : StackState :=
  ⟨[], [], 0, 0, [], [], [], none, false, [], none, 40000, false, 40000, 40000, none, []⟩

/-- New trims of a Loupe bank: the temperature in °C and the device frame of their measurement, and what it gave. -/
structure TrimNew where
  temp : Nat
  frame : Nat
  lanes : List LaneCal
  deriving DecidableEq, Repr

/-- A Loupe bank (R173 to R191): device tick until which it is held, jobs waiting and jobs whose list is due
(facet, descriptor), new trims that wait for a gap, the frame in which the trims in force were measured, those trims,
the calibration record by base quadrant temperature in °C, the record in the non-volatile store, whether a write of it
waits, SLEW, the lowest measurement since bind, and a fault that lasts until a module reset. -/
structure BankState where
  heldUntil : Nat
  waiting : List (Nat × Bytes)
  lists : List (Nat × Bytes)
  trimDue : Option TrimNew
  calFrame : Option Nat
  trims : List LaneCal
  points : Tbl (List LaneCal)
  stored : Tbl (List LaneCal)
  storeDue : Bool
  slew : Bool
  enobMin : Option Nat
  failed : Bool
  deriving DecidableEq, Repr

def BankState.reset : BankState := ⟨0, [], [], none, none, [], [], [], false, false, none, false⟩

/-- Where a queue pair's replies go (R198, R216). -/
structure ReplyRing where
  eid : Nat
  addr : Nat
  log2 : Nat
  notify : Nat
  deriving DecidableEq, Repr

/-- The request that a queue pair runs (R206 to R217): its descriptor, RQ_HEAD after it was read, prompt tokens fed,
tokens generated, the tokens of the entry being built and the position of its first, and whether a CANCEL has been
read. -/
structure Request where
  desc : Bytes
  head : Nat
  fed : Nat
  made : Nat
  tokens : List Nat
  tokPos : Nat
  cancel : Bool
  deriving DecidableEq, Repr

/-- A reply entry that waits for a free entry of its ring (R216, R217): the descriptor that it answers, and what it
will show. -/
structure ReplyEntry where
  ring : ReplyRing
  desc : Bytes
  pos : Nat
  status : Nat
  stopped : Bool
  slot : Nat
  made : Nat
  head : Nat
  tokens : List Nat
  deriving DecidableEq, Repr

/-- A queue pair (R194 to R225). -/
structure QpState where
  rqHead : Nat
  rqTail : Nat
  pqHead : Nat
  pqTail : Nat
  seq : Nat
  ring : Option ReplyRing
  slot : Option Nat
  req : Option Request
  error : Bool
  lastStatus : Nat
  /-- A CLOSE that the queue pair waits to see answered (R204): its descriptor, and RQ_HEAD after it was read. -/
  closing : Option (Bytes × Nat)
  /-- A doorbell taken at the endpoint that waits for the boundary: RQ_TAIL and PQ_HEAD (R202). -/
  bells : List (Nat × Nat)
  /-- Entries that wait for the ring, oldest first (R217). -/
  entries : List ReplyEntry
  /-- The ring of a failed OPEN, where it is not the pair's (R206). -/
  named : Option ReplyRing
  /-- Rings to which a notification falls due (R218). -/
  notify : List ReplyRing
  resetDue : Bool
  deriving DecidableEq, Repr

def QpState.reset : QpState := ⟨0, 0, 0, 0, 0, none, none, none, false, 0, none, [], [], none, [], false⟩

/-- A physical sequence slot (R203 to R215): next position, the pending token, the input of the step in flight
(position, token, SAMPLE), whether a step has begun while its sample was owed (R215), and frames in REPLY_WAIT. -/
structure SlotState where
  pos : Nat
  pend : Option Nat
  input : Option (Nat × Nat × Bool)
  late : Bool
  waited : Nat
  deriving DecidableEq, Repr

def SlotState.reset : SlotState := ⟨0, none, none, false, 0⟩

/-- An OPEN that waits for a slot (R206): frames left to it, and RQ_HEAD after it was read. -/
structure OpenWait where
  facet : Nat
  qp : Nat
  desc : Bytes
  left : Nat
  head : Nat
  deriving DecidableEq, Repr

/-- The session engine beside queue pairs and slots (R205, R206, R213): OPENs that wait, oldest first; of each facet the
queue pair last served and the one served at the present boundary, both as number + 1, and the device tick + 1 of its
last boundary; descriptors read in the device frame; and slots whose sample is owed, as facet and local slot, in the
order in which units take them. -/
structure SesState where
  opens : List OpenWait
  served : Tbl Nat
  turn : Tbl Nat
  boundary : Tbl Nat
  readCount : Nat
  readFrame : Nat
  sampling : List (Nat × Nat)
  deriving DecidableEq, Repr

def SesState.reset : SesState := ⟨[], [], [], [], 0, 0, []⟩

/-- A stream that STAGE accepted: where it came from (0 HOST, 1 FLASH, 2 AREA), its source address, the bytes of the
stage area that holds it, and the repair record that follows it (R230). -/
structure Staged where
  kcs : Kcs
  source : Nat
  addr : Nat
  area : Nat
  record : Bytes
  deriving DecidableEq, Repr

/-- A COMMIT that waits (R248): frames waited, the step of AT, part of a COMMIT_ALL, and whether the facet
was RUNNING. -/
structure CommitWait where
  frames : Nat
  at_ : Option Nat
  all : Bool
  running : Bool
  /-- Held at its commit boundary until the other facets of the COMMIT_ALL are (R251). -/
  held : Bool
  /-- What the new stream does not name has been released (R249). -/
  released : Bool
  /-- The device tick of the commit boundary (R252). -/
  boundary : Option Nat
  deriving DecidableEq, Repr

/-- A load under way (R245, R249, R252): the tick at which its budget began, whether it is part of a COMMIT_ALL, and
whether the facet was RUNNING. -/
structure LoadWait where
  start : Nat
  all : Bool
  running : Bool
  deriving DecidableEq, Repr

/-- A facet between its registers (R245 to R257, R208 to R221, R443 to R446). -/
structure FacetState where
  kcs : Kcs
  source : Nat
  srcAddr : Nat
  staged : Option Staged
  /-- The step number, whether a step is in flight, and the frame within it (R208). -/
  step : Nat
  inStep : Bool
  frame : Nat
  /-- Frames until the next step may begin (R215). -/
  gapLeft : Nat
  /-- The facet's frame count in the last frame of the step before. -/
  lastFrame : Nat
  /-- The step in flight is void; voids of this step in succession; a repair restart is needed (R221, R444). -/
  void : Bool
  voids : Nat
  repair : Bool
  /-- What DRAINING waits for: 1 HOLD, 2 UNBIND; the frames left; a forced unbind is under way. -/
  drain : Nat
  drainLeft : Nat
  forced : Bool
  startDue : Bool
  /-- The start that is due is a commit's, of a facet that was RUNNING (R249). -/
  autoStart : Bool
  /-- Group frame time, in device beats, at which a STOP ends the facet (R384). -/
  stopAt : Option Nat
  commit : Option CommitWait
  load : Option LoadWait
  /-- The schedule has marked this frame as the one that ends the step (R243). -/
  endMarked : Bool
  /-- Group offset in device beats (R377), lateness for coming frames (group frame time in beats, L) (R145). -/
  ofs : Nat
  lateness : List (Nat × Nat)
  /-- The facet's frame count, the device beat of its last frame start, and a group digest that differs. -/
  frames : Nat
  startBeat : Nat
  mismatch : Bool
  firstFrame : Bool
  /-- This member has sent its group digest since the bind, and has received the one before it in the ring (R158). -/
  digestSent : Bool
  digestSeen : Bool
  /-- A member of the group is lost: the facet stops at its next frame boundary (R190). -/
  lost : Bool
  /-- The void came from a group member's RESTART (R190). -/
  joined : Bool
  /-- Block addresses and poisoned lines met in the run of the step in flight, and in its run before (R68, R94). -/
  badAddrs : List Nat
  badPrev : List Nat
  deriving DecidableEq, Repr

/-- A facet that is not bound (R245). -/
def FacetState.reset : FacetState :=
  { kcs := Kcs.empty, source := 0, srcAddr := 0, staged := none, step := 0, inStep := false, frame := 0,
    gapLeft := 0, lastFrame := 0, void := false, voids := 0, repair := false, drain := 0, drainLeft := 0, forced := false,
    startDue := false, autoStart := false, stopAt := none, commit := none, load := none, endMarked := false, ofs := 0, lateness := [], frames := 0, startBeat := 0,
    mismatch := false, firstFrame := false, digestSent := false, digestSeen := false, lost := false, joined := false, badAddrs := [], badPrev := [] }

/-- The loader's command in progress (R246): operation and facet, and for a STAGE its source code, source address and
length as given; and the device tick at which a resource last became idle, a slice FREE (R252): slice n at n, region r at
1024 + r, slot p at 2048 + p, endpoint e at 3072 + e, bank b at 4096 + b, and at 8192 + QBASE the range of queue pairs that
begins there, as tick × 2^20 + QN. -/
structure LoaderState where
  busy : Option (Nat × Nat)
  source : Nat
  addr : Nat
  len : Nat
  freed : Tbl Nat
  deriving DecidableEq, Repr

def LoaderState.reset : LoaderState := ⟨none, 0, 0, 0, []⟩

/-- The repair map of one direction of a vertical group (R274 to R280): failed lanes, oldest first; for a data lane that
another lane carries, that lane; and whether it carries only half its data lanes, the upper ones or the lower. -/
structure LaneMap where
  bad : List Nat
  moved : List (Nat × Nat)
  half : Bool
  upper : Bool
  deriving DecidableEq, Repr

def LaneMap.reset : LaneMap := ⟨[], [], false, false⟩

/-- A swap in progress (R276): the data lane, the lane that fails, and the device beat in which it was marked. -/
structure LaneSwap where
  pos : Nat
  lane : Nat
  beat : Nat
  deriving DecidableEq, Repr

/-- One direction of a vertical group: its repair map in force, the map in the non-volatile store with its CRC-32C check
word (R280; log 49), and swaps, the first in progress. -/
structure GroupDir where
  map : LaneMap
  stored : LaneMap
  crc : Word
  swapping : List LaneSwap
  deriving DecidableEq, Repr

def GroupDir.reset : GroupDir := ⟨LaneMap.reset, LaneMap.reset, 0, []⟩

/-- Scheduled flits of a facet between two sites that have not crossed: those whose grant still runs, and those that
are late (R267). -/
structure Owed where
  facet : Nat
  src : Nat
  dst : Nat
  due : Nat
  late : Nat
  deriving DecidableEq, Repr

/-- The Prism: scheduled flits not carried yet, and the turns that facets have taken in the present round at each site
and direction: key (2 × code + 1 out, 2 × code in) × 65 + facet, 64 for no facet (R268). -/
structure PrismState where
  owed : List Owed
  turns : Tbl Nat
  deriving DecidableEq, Repr

def PrismState.reset : PrismState := ⟨[], []⟩

/-- A guest site (R281 to R285): whether a guest is there, the channels and power (0.1 W) it is offered, the functions that
it declared, its link, and its rails behind their switches: VIOG on, and the setpoint of VDDG in mV, 0 while it is off. -/
structure GuestState where
  present : Bool
  chIn : Nat
  chOut : Nat
  power : Nat
  func : Nat
  linkUp : Bool
  viog : Bool
  vddg : Nat
  deriving DecidableEq, Repr

def GuestState.reset : GuestState := ⟨false, 0, 0, 0, 0, false, false, 0⟩

/-- A comb line of an input fibre (R311 to R316): its commissioned level in 0.01 dBm, whether its cold spare is good, a
warning in force, frames for which the margin check has failed, the spare warm and checked, and the heater offsets, in
codes, of the rings on it: in force, and for the warm spare's light (R313). -/
structure LineState where
  level : Int
  spareOk : Bool
  warned : Bool
  tries : Nat
  ready : Bool
  shift : Int
  ahead : Int
  deriving DecidableEq, Repr

def LineState.reset : LineState := ⟨0, true, false, 0, false, 0, 0⟩

/-- New coefficients of a ring, or its new band, and the device frame in which they fell due: they take effect at the
next boundary (R305, R308). -/
structure RingDue where
  band : Nat
  slope : Int
  intercept : Int
  frame : Nat
  deriving DecidableEq, Repr

/-- The lock history of a ring (R308): the sum of its lock offsets and their number since a device tick, their mean over
the last whole second, the tick of the last re-calibration, and a record that is to be rebuilt. -/
structure RingHistory where
  sum : Int
  n : Nat
  since : Nat
  mean : Int
  calAt : Nat
  rebuild : Bool
  deriving DecidableEq, Repr

/-- A ring (R305 to R308): lock offset in heater codes, heater setting, band, slope and intercept of each band (heater
codes per 1,000 °C, and heater codes; none: those of the nominal table), a new band and the frame in which it fell due, new
coefficients, oldest first, 10 µs windows with a false density, failed, the coefficients that the non-volatile store holds
with their CRC-32C check word (log 49), a store that waits, and its lock history. -/
structure RingState where
  offset : Int
  heater : Int
  band : Nat
  coef : Tbl (Option (Int × Int))
  bandDue : Option (Nat × Nat)
  coefDue : List RingDue
  falseFor : Nat
  failed : Bool
  stored : Tbl (Option (Int × Int))
  crc : Word
  storeDue : Bool
  hist : RingHistory
  deriving DecidableEq, Repr

def RingState.reset : RingState := ⟨0, 0, 0, [], none, [], 0, false, [], 0, false, ⟨0, 0, 0, 0, 0, false⟩⟩

/-- A move of a lane to a line at a frame, from a line that is dark or one that is retired (R315, R316). -/
structure LaneMove where
  lane : Nat
  line : Nat
  at_ : Nat
  dark : Bool
  deriving DecidableEq, Repr

/-- A frame in the replay buffer, with its link data (R296, R300). -/
structure TxFrame where
  frame : LinkFrame
  data : Bytes
  deriving DecidableEq, Repr

/-- The equalisation of one receive line (R297, R298): the request that the peer has last been sent, as the bits
[47:41] of the payload, its number mod 64, how many have been sent, whether its answer is out, and DONE. -/
structure LineTrain where
  ask : Nat
  id : Nat
  sent : Nat
  waits : Bool
  done : Bool
  deriving DecidableEq, Repr

def LineTrain.reset : LineTrain := ⟨0, 0, 0, false, false⟩

/-- A fabric port's link (R296 to R303): the SEQ of the frame that goes next, frames not acknowledged (oldest
first), the last SEQ received in order, whether NAK is set, resends of the oldest frame in a row, whether the peer
asked for a resend, packets that wait for the link, bytes of the first of them already sent, the device beat of the
last packet, moves of transmit lanes (the first in progress) and of a receive lane, and for each buffer (R326) in
64 B units the sender's credits and the returns owed to the peer; the device tick at which an equalisation began that is
under way, and its receive lines (R298); symbols of the clock pattern sent, mod 4; blocks with an invalid header by device
tick, within 1 ms; the scrambler of each lane, none until it first sends (R294); for each receive line the largest numbers
of symbols corrected in a codeword within 1 ms, with their ticks, falling (R296); and IDLE frames with which a direction
that has woken begins (R303). -/
structure PortState where
  txSeq : Nat
  txBuf : List TxFrame
  rxSeq : Nat
  nak : Bool
  resends : Nat
  resend : Bool
  queue : List Packet
  sent : Nat
  sentBeat : Nat
  txMoves : List LaneMove
  rxMove : Option LaneMove
  credit : Tbl Nat
  owed : Tbl Nat
  equalising : Option Nat
  training : Tbl LineTrain
  clock : Nat
  headErrs : List (Nat × Nat)
  scram : Tbl (Option Nat)
  peaks : Tbl (List (Nat × Nat))
  wakeIdle : Nat
  deriving DecidableEq, Repr

def PortState.reset : PortState := ⟨0, [], 4095, false, 0, false, [], 0, 0, [], none, [], [], none, [], 0, [], [], [], 0⟩

/-- Channels withheld while a line's output switches (R313, R314), or that of one bus while a flit is sent again (R304):
the device beat at which they return, and whether the ports on the line send IDLE frames until then. -/
structure Withheld where
  fibre : Nat
  way : Option Nat
  line : Nat
  until_ : Nat
  idle : Bool
  deriving DecidableEq, Repr

/-- A user of the comb lines of a fibre beside the ports (R292, R304, R315): a Prism bus, fibre × 9 + way, or Loupe bank b,
as 2,048 + b. Lines that it alone has given up, channels or wavelengths 0 to 31 that run on another line than their own,
and those that it has lost. -/
structure BusState where
  bad : List Nat
  moved : List (Nat × Nat)
  lost : List Nat
  deriving DecidableEq, Repr

def BusState.reset : BusState := ⟨[], [], []⟩

/-- The serial number under which each laser module was commissioned, and the CRC-32C check word stored with its levels
(R311; log 49), the users of lines, lines whose channels are withheld (R313), channels withdrawn from a dark line, as
bus and the device beat at which their move is complete (R316), and the errors of a channel's line, by bus × 36 + line, as the
device frame and their number (R304). -/
structure OptState where
  serials : Tbl (Option Nat)
  levelsCrc : Tbl Word
  buses : Tbl BusState
  withheld : List Withheld
  moving : List (Nat × Nat)
  errors : Tbl (Nat × Nat)
  deriving DecidableEq, Repr

def OptState.reset : OptState := ⟨[], [], [], [], [], []⟩

/-- A packet sent and not acknowledged (R332): when it was last sent and how often again. -/
structure Unacked where
  seq : Nat
  packet : Packet
  sentAt : Nat
  resends : Nat
  deriving DecidableEq, Repr

/-- A range of SEQ first sent in one epoch, whose TAIL is out, and how often that was sent again (R332, R335). -/
structure TailOut where
  epoch : Nat
  first : Nat
  last : Nat
  tag : Nat
  resends : Nat
  deriving DecidableEq, Repr

/-- A send flow (R330, R332, R335, R340): next SEQ, packets unacknowledged, the window W with its hold and grow
times, the last send and its tag, the first SEQ of the present epoch, tails unanswered, packets that wait for the window. -/
structure SendFlow where
  id : FlowId
  nextSeq : Nat
  unacked : List Unacked
  w : Nat
  hold : Nat
  grow : Nat
  lastSent : Nat
  tag : Nat
  epochFirst : Nat
  epoch : Nat
  tails : List TailOut
  waiting : List Packet
  deriving DecidableEq, Repr

/-- A packet with LAST in a reorder slot (R334). -/
structure HeldLast where
  packet : Packet
  since : Nat
  deriving DecidableEq, Repr

/-- A receive flow (R330, R331, R333): base, CUM, the SEQs received beyond CUM, packets and CE marks since the
last ACK, the last arrival, LAST packets held, refused RSP packets to report, oldest first, whether an ACK is due that has
not gone out (R328), and the epoch of each SEQ beyond the base that a TAIL may still name. -/
structure RecvFlow where
  id : FlowId
  tag : Nat
  base : Nat
  cum : Nat
  got : List Nat
  newN : Nat
  ceN : Nat
  lastAt : Nat
  held : List HeldLast
  naks : List (Nat × Nat)
  ackDue : Bool
  epochs : List (Nat × Nat)
  tailsDue : List TailOut
  deriving DecidableEq, Repr

/-- A fence (R336): its endpoint, its destination, the flows it still covers, an error met, and the packets
that the unit has issued since. -/
structure FenceState where
  ep : Nat
  dst : Option Nat
  flows : List FlowId
  error : Bool
  after : List Packet
  deriving DecidableEq, Repr

/-- A copy of a marked multicast (R338): the key of its target's flow, its SEQ once it has one, and whether it is out, or
was missed. -/
structure McTarget where
  key : Nat
  seq : Option Nat
  out : Bool
  missed : Bool
  deriving DecidableEq, Repr

/-- A marked multicast under way, with its delivery bitmap (R338). -/
structure McState where
  group : Nat
  facet : Nat
  targets : List McTarget
  deriving DecidableEq, Repr

/-- A scheduled multicast that waits for credit, to the targets that its group named when it started (R338). -/
structure McWait where
  facet : Nat
  ep : Nat
  group : Nat
  targets : List Nat
  packet : Packet
  deriving DecidableEq, Repr

/-- An entry whose path was changed while packets for its EID were queued (R337): the old ports, the packets that wait until
those queues have left, the tick of the change, and, once the entry has changed again, the entry under which they leave. -/
structure Reroute where
  eid : Nat
  ports : List Nat
  entry : Option Nat
  waiting : List Packet
  since : Nat
  deriving DecidableEq, Repr

/-- The fabric unit (R319 to R343). -/
structure FabState where
  routes : Tbl Nat
  /-- Route entries that wait with PEND (R335): the new bits. -/
  pendRoutes : Tbl Nat
  mcHdr : Tbl Nat
  mcDst : Tbl Nat
  send : Tbl SendFlow
  recv : Tbl RecvFlow
  fences : List FenceState
  mcasts : List McState
  moves : List Reroute
  /-- Packets with no eligible adaptive port (R325). -/
  adapt : List Packet
  mcWait : List McWait
  /-- Packets whose units wait for a send flow (R330). -/
  blocked : List Packet
  /-- Packets for this module's own endpoints, which the Prism delivers (R323). -/
  home : List Packet
  /-- Session endpoints that stay open for their last entries after an unbind: the EID, and the tick at which it ends (R222). -/
  linger : Tbl Nat
  /-- Packets of this module that came back from its own egress and have not settled yet (R323, R339, R343). -/
  back : List Packet
  /-- TAIL_ACKs that are due and have not gone out, with their flow and whether they say over (R328, R335). -/
  tailAcks : List (FlowId × TailOut × Bool)
  /-- ACKs, TAIL_ACKs and RETURNs for no flow, discarded and counted (R343), and refused RSP packets likewise (R341). -/
  strays : Nat
  refused : Nat
  deriving DecidableEq, Repr

def FabState.reset : FabState :=
  { routes := [], pendRoutes := [], mcHdr := [], mcDst := [], send := [], recv := [], fences := [], mcasts := [], moves := []
    adapt := [], mcWait := [], blocked := [], home := [], linger := [], back := [], tailAcks := [], strays := 0, refused := 0 }

/-- A request in a home agent's queue (R353): 1 WRITE, 2 READ, 3 ATOMIC, its line, for a WRITE the bytes of the
line that it writes from offset off on, and for the others the number of the job that it is part of. -/
structure HomeReq where
  op : Nat
  line : Nat
  off : Nat
  data : Bytes
  job : Nat
  deriving DecidableEq, Repr

/-- A merge entry of a home agent (R354): a line, the bytes written, as (offset, byte), and when it opened. -/
structure MergeEntry where
  line : Nat
  bytes : List (Nat × Byte)
  since : Nat
  deriving DecidableEq, Repr

/-- A home agent (R353 to R355). -/
structure HomeState where
  queue : List HomeReq
  merges : List MergeEntry
  deriving DecidableEq, Repr

/-- A READ or ATOMIC whose lines are being served (R350): the request, the lines still to come, and for each line
served its number, its bytes and whether it is poisoned. -/
structure HomeJob where
  packet : Packet
  facet : Nat
  left : Nat
  got : List (Nat × Bytes × Bool)
  deriving DecidableEq, Repr

/-- A key region (R359, R360): open, its facet, first page, endpoint, EID, rights, key and wrong keys met. -/
structure KeyRegion where
  facet : Nat
  first : Nat
  count : Nat
  ep : Nat
  eid : Nat
  rd : Bool
  wr : Bool
  key : Word
  wrong : Nat
  deriving DecidableEq, Repr

/-- A request that an endpoint has issued and whose answer is out (R350, R358): its RTAG or MTAG, the tag it was
sent with, RADDR, and whether it is an ATOMIC, whose DATA carries RTAG. -/
structure RTag where
  ep : Nat
  rtag : Nat
  tag : Nat
  raddr : Nat
  atomic : Bool
  deriving DecidableEq, Repr

/-- The memory-semantic unit (R345 to R369): window entries by page × 64 + endpoint, translation entries by facet
× 16 + entry as EID_LO + COUNT × 2^18 + TAG × 2^31, key regions, home agents, jobs of theirs by number and the
next number, requests out, the last valid HEAD of a message queue, and packets that wait for room in a home agent's
queue with their port. -/
structure MsfState where
  windows : Tbl Nat
  xlt : Tbl Nat
  keys : Tbl (Option KeyRegion)
  homes : Tbl HomeState
  jobs : Tbl HomeJob
  nextJob : Nat
  rtags : List RTag
  heads : Tbl Nat
  waiting : List (Nat × Packet)
  deriving DecidableEq, Repr

def MsfState.reset : MsfState := ⟨[], [], [], [], [], 0, [], [], []⟩

/-- The clock unit (R370 to R386): the 64-bit device-time counter in ticks; root locked; the device tick at which
REFCLK was lost; HOLDOVER has been sent; the children that name this module as parent (child EID, own EID, tag);
T1 of the exchange that is out, the last sixteen round trips and the successive good exchanges; a counter step
that waits, in sixteenths of a tick, and whether one was made; start-up has waited for REFCLK beyond 10 ms. -/
structure ClkState where
  dt : Nat
  locked : Bool
  lostAt : Nat
  told : Bool
  /-- The last notice sent and the device frame of it: 3 HOLDOVER, 4 REFOK, 5 STOP (R386). -/
  notice : Option (Nat × Nat)
  children : List (Nat × Nat × Nat)
  t1 : Option Nat
  trips : List Nat
  good : Nat
  stepBy : Option Int
  stepped : Bool
  absent : Bool
  deriving DecidableEq, Repr

def ClkState.reset : ClkState := ⟨0, false, 0, false, none, [], none, [], 0, none, false, false⟩

/-- A trim record (R397, R401): SEQ and data words of copies A and B. -/
structure TrimRec where
  seqA : Nat
  dataA : List Word
  seqB : Nat
  dataB : List Word
  deriving DecidableEq, Repr

def TrimRec.empty : TrimRec := ⟨0, [], 0, []⟩

/-- The reset controller and the trims (R387 to R402): in a reset of chip reach, RST_N held low, records by target, the
trims in force, targets whose new values wait for a safe moment, writes that wait for the supply, a load in progress
(targets with one valid copy, true for copy A, and with none), and a load cut short by a reset. -/
structure RstState where
  held : Bool
  rstLow : Bool
  records : Tbl TrimRec
  active : Tbl (List Word)
  waiting : List Nat
  due : List (Nat × List Word)
  load : Option (List (Nat × Bool) × List Nat)
  restarted : Bool
  /-- What ALERT_N shows through a pin reset of chip reach: the level that it had, or that of power-on (R402). -/
  alert : Option Bool
  deriving DecidableEq, Repr

def RstState.reset : RstState := ⟨false, false, [], [], [], [], none, false, none⟩

/-- Power (R405 to R417): service domain running, input stage open, inrush tries failed, faulted phases, write
inhibit in force, the always-on record of PWR_EVT bits [4:0] and of THM_SHUT, the thermal latch of THERMTRIP_N,
domains that are coming up, a commanded shut-down that waits for its facets to stop, and the trim in mV that fuses give each
rail of the compute stacks (R270): VCORE of half d at d, VSRAM of stack c at 16 + c, its VVIF at 24 + c (log 5). -/
structure PwrState where
  service : Bool
  opened : Bool
  tries : Nat
  badPhases : List Nat
  inhibit : Bool
  record : Word
  shut : Word
  trip : Bool
  coming : List Nat
  ordered : Bool
  railTrim : Tbl Int
  deriving DecidableEq, Repr

def PwrState.reset : PwrState := ⟨true, false, 0, [], false, 0, 0, false, [], false, []⟩

/-- A temperature sensor (R418, R419): last reading in m°C, samples without an update, failed. -/
structure Sensor where
  last : Int
  stale : Nat
  failed : Bool
  deriving DecidableEq, Repr

/-- A sensor before its first sample (log 6): 40 °C. -/
def Sensor.reset : Sensor := ⟨40000, 0, false⟩

/-- A part with a governing temperature (R423 to R427): the last ten samples, newest first, in 1/12,000 m°C, its
stage and quiet count, samples in a row at its shut-down threshold, and a warning in force. -/
structure PartState where
  hist : List Int
  stage : Nat
  quiet : Nat
  hot : Nat
  warned : Bool
  deriving DecidableEq, Repr

def PartState.reset : PartState := ⟨[], 0, 0, 0, false⟩

/-- The thermal unit: sensors (region n: 8 n + 0–3 logic, 4–5 middle, 6 base; 512 + k quadrant, 520 + 4 m + i
stack, 600–602 service die, 604 + g guest), parts by the codes of THM_SHUT, samples in a row that middle sensor 2 n + j
read low, middle sensors that raised EST_HIGH, and alpha and theta of a region in thousandths (R420). -/
structure ThmState where
  sensors : Tbl Sensor
  parts : Tbl PartState
  low : Tbl Nat
  high : List Nat
  coef : Tbl (Nat × Nat)
  deriving DecidableEq, Repr

def ThmState.reset : ThmState := ⟨[], [], [], [], []⟩

/-- A firmware image (R448, R456): SHA-384 of its signed span, SVN, FW_VER and STATE_MAX. -/
structure FwImage where
  digest : Bytes
  svn : Nat
  version : Word
  format : Nat
  deriving DecidableEq, Repr

def FwImage.none : FwImage := ⟨[], 0, 0, 0⟩

/-- The mirror pair and the update (R432 to R452): the images of unit A, of unit B and in flash, the image of an
update under way, frame copies that matched since it began to shadow, the standby replays its inputs, ROM boot in
progress, the flash write that waits, an ordered switch-over and new levels that wait for a device frame boundary. -/
structure CndState where
  imageA : FwImage
  imageB : FwImage
  flash : FwImage
  new : Option FwImage
  copies : Nat
  replay : Bool
  romBoot : Bool
  flashDue : Bool
  switchDue : Bool
  levelsDue : Bool
  deriving DecidableEq, Repr

def CndState.reset : CndState := ⟨FwImage.none, FwImage.none, FwImage.none, none, 0, false, false, false, false, false⟩

/-- The security block (R453 to R463): the expected NONCE, PRESENCE_N low, the last signed SPDM response, and debug
unlocks since manufacture; the rest stands in its registers. -/
structure SecState where
  nonce : Option Word
  low : Bool
  signed : Option Bytes
  unlocks : Nat
  deriving DecidableEq, Repr

def SecState.reset : SecState := ⟨none, false, none, 0⟩

/-- A guarded write that waits for its complement (R478): address, value, device tick. -/
structure GuardPend where
  addr : Nat
  value : Word
  at_ : Nat
  deriving DecidableEq, Repr

/-- The host interface and the test port (R466 to R480, R500): pending guarded writes by requester, GO writes held
before FW_READY (R503), registers whose parity has failed since their block froze, those whose parity fails still,
sources in service that were claimed in the fast bank, MSI-X Enable and Function Mask, D3hot, link up, and EXTEST in
force at the test port. -/
structure HostIf where
  guards : Tbl (Option GuardPend)
  goHeld : List (Nat × Nat × Word)
  failed : List Nat
  dirty : List Nat
  fast : List Nat
  msixEnable : Bool
  funcMask : Bool
  d3 : Bool
  link : Bool
  extest : Bool
  deriving DecidableEq, Repr

def HostIf.reset : HostIf := ⟨[], [], [], [], [], false, false, false, false, false⟩

/-- The service die: its units that no register holds. -/
structure SysState where
  clk : ClkState
  rst : RstState
  pwr : PwrState
  thm : ThmState
  cnd : CndState
  sec : SecState
  host : HostIf
  deriving DecidableEq, Repr

def SysState.reset : SysState :=
  ⟨ClkState.reset, RstState.reset, PwrState.reset, ThmState.reset, CndState.reset, SecState.reset, HostIf.reset⟩

/-- The state of the module. -/
structure State where
  /-- Every register of BAR0 that stores a value, by byte offset (R11); unlisted: its reset value. -/
  regs : Tbl Word
  /-- Register values in the non-volatile store, by offset, and offsets whose write waits (R410). -/
  nv : Tbl Word
  nvDue : List Nat
  cells : Tbl CellState
  blocks : Tbl BlockState
  regions : Tbl RegionState
  engines : Tbl EngineState
  /-- Staging SRAM: middle layer × 768 MiB + byte offset (R16, R89). -/
  staging : Tbl Byte
  /-- Device memory by DPA (R102), and poisoned 64 B units by DPA div 64 (R99). -/
  mem : Tbl Byte
  poison : List Nat
  memStacks : Tbl StackState
  facets : Tbl FacetState
  loader : LoaderState
  banks : Tbl BankState
  qps : Tbl QpState
  slots : Tbl SlotState
  ses : SesState
  prism : PrismState
  groups : Tbl GroupDir
  guests : Tbl GuestState
  lines : Tbl LineState
  rings : Tbl RingState
  opt : OptState
  ports : Tbl PortState
  fab : FabState
  msf : MsfState
  sys : SysState
  /-- What the module has put on its interfaces, oldest first (log 3). -/
  out : List Output
  /-- Free values drawn (log 4). -/
  free : Nat
  /-- Commands that wait, first in, first out. -/
  pending : List Instr
  deriving DecidableEq, Repr

/-- The module right after reset: every register at its reset value, nothing bound, root not locked (R14,
R389). -/
def State.reset : State :=
  { regs := [], nv := [], nvDue := [], cells := [], blocks := [], regions := [], engines := [], staging := [],
    mem := [], poison := [], memStacks := [], facets := [], loader := LoaderState.reset, banks := [], qps := [], slots := [],
    ses := SesState.reset, prism := PrismState.reset, groups := [], guests := [], lines := [], rings := [], opt := OptState.reset, ports := [],
    fab := FabState.reset, msf := MsfState.reset, sys := SysState.reset, out := [], free := 0, pending := [] }

end Sys2Proof.Machine
end

