-- ==== Sys2Proof/Machine/Ops.lean ====
section
/-! DEFINITION. The operations shared by every family: registers, events, memories, free values, interrupt
levels and messages, the voiding and stopping of a facet. -/
namespace Sys2Proof.Machine

/-- What a unit's own meaning gives: every command of the manual ends in a next state. -/
abbrev Result := Host.Outcome State Fault Refusal

namespace State

/-! Registers. -/

/-- The stored value of a register. -/
def reg (s : State) (a : Nat) : Word := tget (resetValue a) s.regs a

def setReg (s : State) (a : Nat) (v : Word) : State := { s with regs := tset (resetValue a) s.regs a v }

/-- The value the hardware acts on: the reset value while the register's parity has failed (R479). -/
def hw (s : State) (a : Nat) : Word := if s.sys.host.failed.contains a then resetValue a else s.reg a

/-- Field [hi:lo] of a register. -/
def rf (s : State) (a hi lo : Nat) : Nat := fld (s.reg a) hi lo

def wf (s : State) (a hi lo v : Nat) : State := s.setReg a (setFld (s.reg a) hi lo v)

/-- The field counts n more, up to its top (saturating). -/
def addSat (s : State) (a hi lo n : Nat) : State :=
  s.wf a hi lo (satAdd (2 ^ (hi + 1 - lo) - 1) (s.rf a hi lo) n)

/-- A 32-bit count that saturates, and one that wraps. -/
def count (s : State) (a n : Nat) : State := s.addSat a 31 0 n
def countWrap (s : State) (a n : Nat) : State := s.setReg a (s.reg a + BitVec.ofNat 32 n)

/-- An event bit is set. -/
def raise (s : State) (evt i : Nat) : State := s.setReg evt (s.reg evt ||| bitW i)

/-- An event bit is set; the FIRST register takes v when no event was set (GLB_FIRST and its like). -/
def raiseFirst (s : State) (evt first i : Nat) (v : Nat) : State :=
  (if s.reg evt = 0 then s.setReg first (BitVec.ofNat 32 v) else s).raise evt i

/-! Units. -/

def cell (s : State) (k : Nat) : CellState := tget CellState.reset s.cells k
def setCell (s : State) (k : Nat) (c : CellState) : State := { s with cells := tset CellState.reset s.cells k c }
def block (s : State) (k : Nat) : BlockState := tget BlockState.reset s.blocks k
def setBlock (s : State) (k : Nat) (b : BlockState) : State := { s with blocks := tset BlockState.reset s.blocks k b }
def region (s : State) (r : Nat) : RegionState := tget RegionState.reset s.regions r
def setRegion (s : State) (r : Nat) (x : RegionState) : State :=
  { s with regions := tset RegionState.reset s.regions r x }
def engine (s : State) (e : Nat) : EngineState := tget EngineState.reset s.engines e
def setEngine (s : State) (e : Nat) (x : EngineState) : State :=
  { s with engines := tset EngineState.reset s.engines e x }
def stack (s : State) (m : Nat) : StackState := tget StackState.reset s.memStacks m
def setStack (s : State) (m : Nat) (x : StackState) : State := { s with memStacks := tset StackState.reset s.memStacks m x }
def facet (s : State) (f : Nat) : FacetState := tget FacetState.reset s.facets f
def setFacet (s : State) (f : Nat) (x : FacetState) : State := { s with facets := tset FacetState.reset s.facets f x }
def bank (s : State) (b : Nat) : BankState := tget BankState.reset s.banks b
def setBank (s : State) (b : Nat) (x : BankState) : State := { s with banks := tset BankState.reset s.banks b x }
def qp (s : State) (n : Nat) : QpState := tget QpState.reset s.qps n
def setQp (s : State) (n : Nat) (x : QpState) : State := { s with qps := tset QpState.reset s.qps n x }
def slot (s : State) (n : Nat) : SlotState := tget SlotState.reset s.slots n
def setSlot (s : State) (n : Nat) (x : SlotState) : State := { s with slots := tset SlotState.reset s.slots n x }
def group (s : State) (k : Nat) : GroupDir := tget GroupDir.reset s.groups k
def setGroup (s : State) (k : Nat) (x : GroupDir) : State := { s with groups := tset GroupDir.reset s.groups k x }
def guest (s : State) (g : Nat) : GuestState := tget GuestState.reset s.guests g
def setGuest (s : State) (g : Nat) (x : GuestState) : State := { s with guests := tset GuestState.reset s.guests g x }
def line (s : State) (k : Nat) : LineState := tget LineState.reset s.lines k
def setLine (s : State) (k : Nat) (x : LineState) : State := { s with lines := tset LineState.reset s.lines k x }
def ring (s : State) (k : Nat) : RingState := tget RingState.reset s.rings k
def setRing (s : State) (k : Nat) (x : RingState) : State := { s with rings := tset RingState.reset s.rings k x }
def port (s : State) (p : Nat) : PortState := tget PortState.reset s.ports p
def setPort (s : State) (p : Nat) (x : PortState) : State := { s with ports := tset PortState.reset s.ports p x }

def emit (s : State) (o : Output) : State := { s with out := s.out ++ [o] }

/-- Device time in ticks, beats and frames (R9, R377). -/
def dt (s : State) : Nat := s.sys.clk.dt
def beat (s : State) : Nat := s.dt / 256
def devFrame (s : State) : Nat := s.beat / 4096

/-- A free 32-bit value (log 4): the value and the state with the counter advanced. -/
def freeWord (s : State) : Word := Config.freeWord s.free
def useFree (s : State) (n : Nat) : State := { s with free := s.free + n }

/-! Memories. -/

def memByte (s : State) (a : Nat) : Byte := tget 0 s.mem a
def readMem (s : State) (a n : Nat) : Bytes := (List.range n).map (fun i => s.memByte (a + i))
def readLe (s : State) (a n : Nat) : Nat := leNat (s.readMem a n)

end State

/-- Bytes written into a byte table from address a on. -/
def putBytes : Tbl Byte → Nat → Bytes → Tbl Byte
  | t, _, [] => t
  | t, a, b :: r => putBytes (tset 0 t a b) (a + 1) r

namespace State

def writeMem (s : State) (a : Nat) (b : Bytes) : State := { s with mem := putBytes s.mem a b }
def readStaging (s : State) (a n : Nat) : Bytes := (List.range n).map (fun i => tget 0 s.staging (a + i))
def writeStaging (s : State) (a : Nat) (b : Bytes) : State := { s with staging := putBytes s.staging a b }

/-- Whether a 64 B unit that the range touches is poisoned (R99). -/
def poisoned (s : State) (a n : Nat) : Bool := s.poison.any (fun u => a / 64 ≤ u && u * 64 < a + n)
def addPoison (s : State) (u : Nat) : State := { s with poison := insertNat u s.poison }
def clearPoison (s : State) (lo hi : Nat) : State :=
  { s with poison := s.poison.filter (fun u => u < lo / 64 || hi ≤ u * 64) }

/-! Slices, regions, facets. -/

/-- A slice's size and state (R102, R107). -/
def sliceState (s : State) (n : Nat) : Nat := s.rf (Reg.SLICE_STAT n) 31 28
def sliceFacet (s : State) (n : Nat) : Nat := s.rf (Reg.SLICE_STAT n) 21 16

/-- A resource becomes idle now, with a mark of its own (R252). -/
def freed (s : State) (key mark : Nat) : State :=
  { s with loader := { s.loader with freed := tset 0 s.loader.freed key mark } }

/-- A slice enters a state; FACET reads 0 unless it is BOUND (R123), and the moment at which it is FREE is kept (R252). -/
def setSlice (s : State) (n st f : Nat) : State :=
  let s := if st = 0 then s.freed n s.dt else s
  (s.wf (Reg.SLICE_STAT n) 31 28 st).wf (Reg.SLICE_STAT n) 21 16 (if st = 1 then f else 0)

end State

/-- Slice number of an address (R102). -/
def sliceOf (a : Nat) : Nat := a / 2 ^ 34

namespace State

/-- The slice is mapped and BOUND to the facet (R31, R102). -/
def sliceBound (s : State) (f n : Nat) : Bool := n < 320 && s.sliceState n == 1 && s.sliceFacet n == f

/-- Every byte of the range lies in slices of the facet. -/
def inSlices (s : State) (f a n : Nat) : Bool :=
  n == 0 || (List.range (sliceOf (a + n - 1) + 1 - sliceOf a)).all (fun i => s.sliceBound f (sliceOf a + i))

/-- A range touches a stage area that is locked from a successful AREA stage until COMMIT or DISCARD (R247). -/
def areaLocked (s : State) (a n : Nat) : Bool :=
  (List.range 64).any (fun f => match (s.facet f).staged with
    | some x => x.source == 2 && a < x.addr + x.area && x.addr < a + n
    | none => false)

/-- A unit's own write to device memory, refused and logged where the stage area is locked (R247; log 31). -/
def unitWrite (s : State) (a : Nat) (b : Bytes) : State :=
  if s.areaLocked a b.length then s.raise Reg.MSF_EVT 0 else s.writeMem a b

def regionBound (s : State) (r : Nat) : Bool := bit (s.reg (Reg.REG_STAT r)) 23
def regionFacet (s : State) (r : Nat) : Nat := s.rf (Reg.REG_STAT r) 29 24
/-- 0 FULL, 1 HALF, 2 OFF (R154). -/
def regionPoint (s : State) (r : Nat) : Nat := s.rf (Reg.REG_STAT r) 22 21

/-- The facet states of R245. -/
def facetState (s : State) (f : Nat) : Nat := s.rf (Reg.FACET_STAT f) 31 29
def setFacetState (s : State) (f n : Nat) : State := s.wf (Reg.FACET_STAT f) 31 29 n
def facetBound (s : State) (f : Nat) : Bool := s.facetState f != 0
def jobTag (s : State) (f : Nat) : Nat := s.rf (Reg.FACET_STAT f) 15 0
def kcs (s : State) (f : Nat) : Kcs := (s.facet f).kcs

/-- A fault's facet voids its step in flight; a repair restart reads cell images again (R66, R443, R446). -/
def voidStep (s : State) (f : Nat) (repair : Bool) : State :=
  let x := s.facet f
  if x.inStep then s.setFacet f { x with void := true, repair := x.repair || repair } else s

/-- The facet is stopped: resources held, no frames (R245, R443). -/
def stopFacet (s : State) (f : Nat) : State :=
  if s.facetState f = 0 ∨ s.facetState f = 1 then s
  else
    let x := s.facet f
    (s.setFacet f { x with inStep := false, void := false, drain := 0, startDue := false, commit := none }).setFacetState f 5

/-! The non-volatile store (R410). -/

/-- The write inhibit is in force: below 39.0 V and not yet above 39.6 V, or the module shuts down. -/
def inhibited (s : State) : Bool := s.sys.pwr.inhibit || s.rf Reg.PWR_STAT 31 29 == 3

def nvCommit (s : State) (a : Nat) : State :=
  { s with nv := tset (resetValue a &&& nvMask a) s.nv a (s.reg a &&& nvMask a) }

/-- The register's non-volatile bits are committed, or wait and an event says so. -/
def nvWrite (s : State) (a evt i : Nat) : State :=
  if s.inhibited then ({ s with nvDue := insertNat a s.nvDue }).raise evt i else s.nvCommit a

/-- The same where no event is named. -/
def nvQuiet (s : State) (a : Nat) : State :=
  if s.inhibited then { s with nvDue := insertNat a s.nvDue } else s.nvCommit a

/-! Interrupt levels (R481, R485). -/

end State

/-- The event register of a source, where it has one (R485). -/
def srcEvt (n : Nat) : Option Nat :=
  if n < 15 then
    some ([Reg.GLB_EVT, Reg.RST_EVT, Reg.CLK_EVT, Reg.PWR_EVT, Reg.THM_EVT, Reg.IRQ_EVT, Reg.CFG_EVT,
      Reg.CND_EVT, Reg.SES_EVT, Reg.FAB_EVT, Reg.MSF_EVT, Reg.OPT_EVT, Reg.PBL_EVT, Reg.LPE_EVT,
      Reg.SEC_EVT].getD n 0)
  else if n < 16 then none
  else if n < 36 then some (Reg.MST_EVT (n - 16))
  else if n < 44 then some (Reg.EBW_EVT (n - 36))
  else if n < 64 then none
  else if n < 128 then some (Reg.REG_EVT (n - 64))
  else if n < 640 then some (Reg.BLK_EVT ((n - 128) / 8) ((n - 128) % 8))
  else none

namespace State

/-- The frozen bit of block or window i, 0–79 (R479, R487). -/
def frozen (s : State) (i : Nat) : Bool :=
  if i < 16 then bit (s.reg Reg.PAR_STAT) i
  else if i < 48 then bit (s.reg Reg.PAR_REG_LO) (i - 16)
  else if i < 80 then bit (s.reg Reg.PAR_REG_HI) (i - 48)
  else false

/-- The level of a source (R481). -/
def level (s : State) (n : Nat) : Bool :=
  match srcEvt n with
  | some a => s.reg a != 0
  | none => 640 ≤ n && n < 720 && s.frozen (n - 640)

def word32 (p : Nat → Bool) : Word :=
  BitVec.ofNat 32 ((List.range 32).foldl (fun a i => a + if p i then 2 ^ i else 0) 0)

def levelWord (s : State) (w : Nat) : Word := word32 (fun j => s.level (32 * w + j))
def pendView (s : State) (fast : Bool) (w : Nat) : Word :=
  let cls := s.hw (Reg.CLASS w)
  s.levelWord w &&& s.hw (Reg.CEN w) &&& ~~~(s.reg (Reg.INSVC w)) &&& (if fast then cls else ~~~cls)

/-- The summary of group g: a level with its host enable (R486). -/
def summary (s : State) (g : Nat) : Bool :=
  let hen := s.hw (Reg.HEN (g / 2))
  (List.range 16).any (fun i => bit hen (16 * (g % 2) + i) && s.level (16 * g + i))

def maskedVector (s : State) (v : Nat) : Bool := s.sys.host.funcMask || bit (s.reg (Reg.MSIX_TABLE v 3)) 0

/-- Vector v's message falls due (R469, R486): nothing while Enable is 0 or in D3hot; the PBA bit while it is
masked; else the message. -/
def msixDue (s : State) (v : Nat) : State :=
  if !s.sys.host.msixEnable || s.sys.host.d3 then s
  else if s.maskedVector v then s.setReg (Reg.MSIX_PBA (v / 32)) (s.reg (Reg.MSIX_PBA (v / 32)) ||| bitW (v % 32))
  else s.emit (.msix v)

/-- Whether some host enable is not at its reset value 0. -/
def anyHen (s : State) : Bool := s.regs.any (fun e => 0x500380 ≤ e.1 && e.1 < 0x500400)

/-- Messages for the groups whose summary rose from that of the state before (R486). -/
def messages (before t : State) : State :=
  if t.anyHen then
    (List.range 64).foldl (fun u g => if t.summary g && !before.summary g then u.msixDue g else u) t
  else t

end State

/-! Trims (R397 to R401). -/

/-- The data words of the copy with the higher SEQ. -/
def TrimRec.newest (r : TrimRec) : List Word := if r.seqA < r.seqB then r.dataB else r.dataA

namespace State

def setRst (s : State) (x : RstState) : State := { s with sys := { s.sys with rst := x } }

/-- A target's trims in force; a record that gives estimator coefficients sets them (R420). -/
def applyTrim (s : State) (target : Nat) (words : List Word) : State :=
  let s := s.setRst { s.sys.rst with active := tset [] s.sys.rst.active target words }
  match Config.trimCoef target words with
  | some (r, a, b) => { s with sys := { s.sys with thm := { s.sys.thm with coef := tset (500, 150) s.sys.thm.coef r (a, b) } } }
  | none => s

/-- The new values of every waiting target whose unit p names are applied (R401). -/
def applyTrims (s : State) (p : Nat → Bool) : State :=
  let due := s.sys.rst.waiting.filter (fun t => p (Config.trimUnit t))
  let s := s.setRst { s.sys.rst with waiting := s.sys.rst.waiting.filter (fun t => !p (Config.trimUnit t)) }
  due.foldl (fun u t => u.applyTrim t (tget TrimRec.empty u.sys.rst.records t).newest) s

end State

/-- The end of every command: the messages of summaries that rose, and the next state. -/
def finish (before t : State) : Result := .next (State.messages before t)

/-- Fold an effect over a list. -/
def forEach {α : Type} (l : List α) (s : State) (f : State → α → State) : State := l.foldl f s

end Sys2Proof.Machine
end

