-- ==== Sys2Proof/Machine/Irq.lean ====
section
/-! DEFINITION. The conductor interrupt controller and MSI-X (16): R481 to R489. -/
namespace Sys2Proof.Machine

/-- Sources that are always of the fast class (R485). -/
def fixedFast (w : Nat) : Word := if w = 0 then 0x20 else if w = 20 ∨ w = 21 then 0xFFFFFFFF else if w = 22 then 0xFFFF else 0

namespace State

def setHost (s : State) (x : HostIf) : State := { s with sys := { s.sys with host := x } }

def inService (s : State) (n : Nat) : Bool := bit (s.reg (Reg.INSVC (n / 32))) (n % 32)

/-- A source is pending in a bank (R482). -/
def pendingIn (s : State) (n : Nat) (fast : Bool) : Bool := bit (s.pendView fast (n / 32)) (n % 32)

/-- A source is in service in the bank in which it was claimed (R483, R484). -/
def servedIn (s : State) (n : Nat) (fast : Bool) : Bool := s.inService n && s.sys.host.fast.contains n == fast

/-- An event of the controller; the first since all were clear is kept (R488). -/
def irqEvent (s : State) (n : Nat) (fast : Bool) (i : Nat) : State :=
  s.raiseFirst Reg.IRQ_EVT Reg.IRQ_FIRST i (b2n fast * 2 ^ 26 + n * 2 ^ 16 + i)

/-- A claim write (R482, R483). -/
def claim (s : State) (n : Nat) (fast : Bool) : State :=
  if s.pendingIn n fast then
    let a := Reg.INSVC (n / 32)
    let s := s.setReg a (s.reg a ||| bitW (n % 32))
    if fast then s.setHost { s.sys.host with fast := insertNat n s.sys.host.fast } else s
  else s.irqEvent n fast 2

/-- A done write; one out of order is refused (R483). -/
def complete (s : State) (n : Nat) (fast : Bool) : State :=
  if !s.servedIn n fast then s.irqEvent n fast 1
  else if s.level n then s.irqEvent n fast 0
  else
    let a := Reg.INSVC (n / 32)
    let s := s.setReg a (s.reg a &&& ~~~(bitW (n % 32)))
    s.setHost { s.sys.host with fast := s.sys.host.fast.filter (· != n) }

/-- Sources in service. -/
def served (s : State) : Nat := sumNat ((List.range 1024).map (fun n => b2n (s.inService n)))

/-- IRQ_STAT (R488). -/
def irqStat (s : State) : Word :=
  let f := s.sys.host.fast.length
  BitVec.ofNat 32 ((s.served - f) * 2 ^ 16 + f)

/-- HSUM: summaries of groups 32 h on. -/
def hsum (s : State) (h : Nat) : Word := word32 (fun j => s.summary (32 * h + j))

/-- An end of interrupt for each vector of a set: the message goes again where the summary is still 1 (R486). -/
def endInterrupts (s : State) (vectors : Nat) : State :=
  forEach (List.range 64) s (fun t g => if vectors.testBit g && t.summary g then t.msixDue g else t)

/-- A vector that is no longer masked: a message that waited goes, if its summary is still 1. -/
def releaseVector (s : State) (v : Nat) : State :=
  let a := Reg.MSIX_PBA (v / 32)
  if s.maskedVector v || !bit (s.reg a) (v % 32) then s
  else
    let s := s.setReg a (s.reg a &&& ~~~(bitW (v % 32)))
    if s.summary v then s.msixDue v else s

/-- Unmasking a vector, clearing Function Mask, and setting MSI-X Enable (R486). -/
def unmask (s : State) : Unmask → State
  | .vector v =>
    let a := Reg.MSIX_TABLE v.val 3
    (s.setReg a (s.reg a &&& ~~~1)).releaseVector v.val
  | .function => forEach (List.range 64) (s.setHost { s.sys.host with funcMask := false }) (fun t v => t.releaseVector v)
  | .enable =>
    if s.sys.host.msixEnable then s
    else
      forEach (List.range 64) (s.setHost { s.sys.host with msixEnable := true }) (fun t v =>
        if !t.maskedVector v && t.summary v then t.msixDue v else t)

end State

/-- NCLAIM (R482). -/
def execNclaim (n : BitVec 10) (s : State) : Result := finish s (s.claim n.toNat false)

/-- NDONE (R483). -/
def execNdone (n : BitVec 10) (s : State) : Result := finish s (s.complete n.toNat false)

/-- FCLAIM (R482). -/
def execFclaim (n : BitVec 10) (s : State) : Result := finish s (s.claim n.toNat true)

/-- FDONE (R483). -/
def execFdone (n : BitVec 10) (s : State) : Result := finish s (s.complete n.toNat true)

/-- HEOI (R486). -/
def execHeoi (vectors : BitVec 64) (s : State) : Result := finish s (s.endInterrupts vectors.toNat)

/-- MSIX_UNMASK (R486). -/
def execMsixUnmask (u : Unmask) (s : State) : Result := finish s (s.unmask u)

end Sys2Proof.Machine
end

