-- ==== Sys2Proof/Machine/Float.lean ====
section
/-! DEFINITION. Number formats, rounding, conversions and the FP32 operations of the cell (R38 to R54, R501).
A number is held exactly; every rounding is one call of `roundTo`. -/
namespace Sys2Proof.Machine

/-- An exact value: (−1)^neg · m · 2^e, an infinity or NaN. -/
inductive FVal where
  | fin (neg : Bool) (m : Nat) (e : Int)
  | inf (neg : Bool)
  | nan
  deriving DecidableEq, Repr

/-- A floating-point format (R38): exponent bits, bias, fraction bits, largest finite encoding. -/
structure Fmt where
  ebits : Nat
  bias : Nat
  mbits : Nat
  top : Nat
  deriving DecidableEq, Repr

/-- The format of a code: 0 FP32, 1 BF16, 2 E4M3, 3 E5M2, 4 E2M1 (R38). -/
def fmtOf (code : Nat) : Fmt :=
  if code = 0 then ⟨8, 127, 23, 0x7F7FFFFF⟩
  else if code = 1 then ⟨8, 127, 7, 0x7F7F⟩
  else if code = 2 then ⟨4, 7, 3, 0x7E⟩
  else if code = 3 then ⟨5, 15, 2, 0x7B⟩
  else ⟨2, 1, 1, 0x7⟩

/-- Width in bits of a format code (R38). -/
def widthOf (code : Nat) : Nat :=
  if code = 0 then 32 else if code = 1 then 16 else if code = 2 then 8 else if code = 3 then 8
  else if code = 4 then 4 else if code = 5 then 8 else 32

def isFloat (code : Nat) : Bool := code ≤ 4

/-- Two's complement value of a w-bit field. -/
def sInt (w v : Nat) : Int := if v < 2 ^ (w - 1) then (v : Int) else (v : Int) - (2 : Int) ^ w

/-- The exact value of an encoding (R38). -/
def decodeF (code bits : Nat) : FVal :=
  if code = 5 then let x := sInt 8 (bits % 256); .fin (x < 0) x.natAbs 0
  else if code = 6 then let x := sInt 32 (bits % 2 ^ 32); .fin (x < 0) x.natAbs 0
  else
    let f := fmtOf code
    let frac := bits % 2 ^ f.mbits
    let ex := (bits / 2 ^ f.mbits) % 2 ^ f.ebits
    let neg := (bits / 2 ^ (f.mbits + f.ebits)) % 2 = 1
    if code = 2 ∧ ex = 15 ∧ frac = 7 then .nan
    else if (code = 0 ∨ code = 1 ∨ code = 3) ∧ ex = 2 ^ f.ebits - 1 then
      if frac = 0 then .inf neg else .nan
    else if ex = 0 then .fin neg frac (1 - (f.bias : Int) - f.mbits)
    else .fin neg (frac + 2 ^ f.mbits) ((ex : Int) - f.bias - f.mbits)

/-- m · 2^e rounded to an integer, ties to even (R41). -/
def rneInt (m : Nat) (e : Int) : Nat :=
  if 0 ≤ e then m <<< e.toNat
  else
    let s := (-e).toNat
    let q := m >>> s
    let r := m - (q <<< s)
    let half := 1 <<< (s - 1)
    if r > half ∨ (r = half ∧ q % 2 = 1) then q + 1 else q

/-- The magnitude m · 2^e rounded to a format, as its encoding without sign; it may pass the format's top. -/
def roundTo (f : Fmt) (m : Nat) (e : Int) : Nat :=
  if m = 0 then 0
  else
    let ex := (m.log2 : Int) + e
    let q := max ex (1 - (f.bias : Int)) - f.mbits
    let n := rneInt m (e - q)
    (q + f.mbits + f.bias - 1).toNat * 2 ^ f.mbits + n

def signBit (code : Nat) (neg : Bool) : Nat := if neg then 2 ^ (widthOf code - 1) else 0

/-- Canonical NaN of a format (R40); E2M1 has none and gives +0 (R42). -/
def canonNaN (code : Nat) : Nat :=
  if code = 0 then 0x7FC00000 else if code = 1 then 0x7FC0 else if code = 2 then 0x7F
  else if code = 3 then 0x7E else 0

def infEnc (code : Nat) : Nat := if code = 0 then 0x7F800000 else if code = 1 then 0x7F80 else 0x7C

/-- Two's complement encoding of a saturated integer, R42's INT8 column and R501's INT32. -/
def toIntSat (w : Nat) (neg : Bool) (n : Nat) : Nat × Flags :=
  let lim := if neg then 2 ^ (w - 1) else 2 ^ (w - 1) - 1
  let k := min n lim
  ((if neg then (2 ^ w - k) % 2 ^ w else k), if n > lim then Flags.SAT else Flags.none)

/-- An exact value rounded to a format code under the table of R42 and R501. -/
def encodeF (code : Nat) (sat : Bool) (v : FVal) : Nat × Flags :=
  if code = 5 ∨ code = 6 then
    let w := widthOf code
    match v with
    | .nan => (0, Flags.NV)
    | .inf neg => ((toIntSat w neg (2 ^ w)).1, Flags.SAT)
    | .fin neg m e => toIntSat w neg (rneInt m e)
  else
    let f := fmtOf code
    match v with
    | .nan => (canonNaN code, if code = 4 then Flags.NV else Flags.none)
    | .inf neg =>
      if code = 2 ∨ code = 4 then (signBit code neg + f.top, Flags.SAT)
      else (signBit code neg + infEnc code, Flags.none)
    | .fin neg m e =>
      let r := roundTo f m e
      if r ≤ f.top then (signBit code neg + r, Flags.none)
      else if code = 0 then (signBit code neg + infEnc code, Flags.OF)
      else if code = 2 ∨ code = 4 ∨ sat then (signBit code neg + f.top, Flags.SAT)
      else (signBit code neg + infEnc code, Flags.OF)

/-- A value times 2^k, exactly. -/
def FVal.scale (k : Int) : FVal → FVal
  | .fin n m e => .fin n m (e + k)
  | v => v

/-- The conversion of one element from format fa to fd with shift s and CTL.SAT (R42 to R44, R501). -/
def convert (fa fd : Nat) (s : Nat) (sat : Bool) (bits : Nat) : Nat × Flags :=
  if fa = fd then (bits % 2 ^ widthOf fa, Flags.none)
  else
    let v := decodeF fa bits
    let v := if fd = 5 ∨ (fd = 6 ∧ isFloat fa) then v.scale (-(s : Int)) else v
    encodeF fd sat v

/-- The exact product; the flag says that a NaN arose from operands that were not NaN (R46). -/
def mulV (a b : FVal) : FVal × Bool :=
  match a, b with
  | .nan, _ => (.nan, false)
  | _, .nan => (.nan, false)
  | .inf x, .inf y => (.inf (x != y), false)
  | .inf x, .fin y m _ => if m = 0 then (.nan, true) else (.inf (x != y), false)
  | .fin y m _, .inf x => if m = 0 then (.nan, true) else (.inf (x != y), false)
  | .fin x m e, .fin y n k => (.fin (x != y) (m * n) (e + k), false)

/-- The exact sum, with the zero sign of R41. -/
def addV (a b : FVal) : FVal × Bool :=
  match a, b with
  | .nan, _ => (.nan, false)
  | _, .nan => (.nan, false)
  | .inf x, .inf y => if x = y then (.inf x, false) else (.nan, true)
  | .inf x, .fin .. => (.inf x, false)
  | .fin .., .inf y => (.inf y, false)
  | .fin x m e, .fin y n k =>
    let q := min e k
    let p : Int := (m <<< (e - q).toNat : Nat)
    let r : Int := (n <<< (k - q).toNat : Nat)
    let t := (if x then -p else p) + (if y then -r else r)
    (.fin (if t = 0 then x && y else decide (t < 0)) t.natAbs q, false)

def negV : FVal → FVal
  | .fin n m e => .fin (!n) m e
  | .inf n => .inf (!n)
  | .nan => .nan

/-- One rounding to FP32; an overflow is ±Infinity with OF (R42). -/
def toFp32 (v : FVal × Bool) : Nat × Flags :=
  let r := encodeF 0 false v.1
  (r.1, r.2.or ⟨v.2, false, false⟩)

def fp (bits : Nat) : FVal := decodeF 0 bits

/-- d ← a + b, a − b, a × b, each with one rounding (R51). -/
def fadd (a b : Nat) : Nat × Flags := toFp32 (addV (fp a) (fp b))
def fsub (a b : Nat) : Nat × Flags := toFp32 (addV (fp a) (negV (fp b)))
def fmul (a b : Nat) : Nat × Flags := toFp32 (mulV (fp a) (fp b))

/-- a × b + d with a single rounding (R51). -/
def ffma (a b d : Nat) : Nat × Flags :=
  let p := mulV (fp a) (fp b)
  let s := addV p.1 (fp d)
  toFp32 (s.1, p.2 || s.2)

/-- Whether the FP32 number a is below b; −0 is below +0 (R51). Neither is NaN. -/
def fltLt (a b : Nat) : Bool :=
  let key (x : Nat) : Int := if x ≥ 2 ^ 31 then -((x - 2 ^ 31 : Nat) : Int) - 1 else x
  key a < key b

def isNaN32 (a : Nat) : Bool := fp a == .nan

/-- VMAX and VMIN: a NaN operand gives the canonical NaN (R51). -/
def fmax (a b : Nat) : Nat × Flags :=
  if isNaN32 a || isNaN32 b then (canonNaN 0, Flags.none) else ((if fltLt a b then b else a), Flags.none)

def fmin (a b : Nat) : Nat × Flags :=
  if isNaN32 a || isNaN32 b then (canonNaN 0, Flags.none) else ((if fltLt b a then b else a), Flags.none)

/-- Newton's iteration for the integer square root, from an estimate not below it. -/
def isqrtLoop (n : Nat) : Nat → Nat → Nat
  | 0, x => x
  | k + 1, x => let y := (x + n / x) / 2; if y < x then isqrtLoop n k y else x

/-- The integer square root. -/
def isqrt (n : Nat) : Nat :=
  if n = 0 then 0 else isqrtLoop n (n.log2 + 2) (2 ^ (n.log2 / 2 + 1))

/-- The working precision of VEXP2 and VLOG2, in bits (log 12). -/
def tpBits : Nat := 160

/-- 2^f for a fraction f = g / 2^k, g < 2^k, in units of 2^−tpBits, rounded down: the product over the bits
of g of 2^(2^−i), each a square root of the one before. -/
def exp2Frac : Nat → Nat → Nat → Nat → Nat
  | 0, _, _, acc => acc
  | k + 1, g, root, acc =>
    let r := isqrt (root <<< tpBits)
    exp2Frac k g r (if g.testBit k then (acc * r) >>> tpBits else acc)

/-- 2^x, correctly rounded (R52). A non-integer x has an irrational power, so the value lies strictly above
its rounding down, which the last bit records. -/
def fexp2 (a : Nat) : Nat × Flags :=
  match fp a with
  | .nan => (canonNaN 0, Flags.none)
  | .inf true => (0, Flags.none)
  | .inf false => (infEnc 0, Flags.none)
  | .fin neg m e =>
    if m = 0 then (0x3F800000, Flags.none)
    else if (m.log2 : Int) + e ≥ 9 then (if neg then (0, Flags.none) else (infEnc 0, Flags.OF))
    else if (m.log2 : Int) + e < -27 then (0x3F800000, Flags.none)
    else
      let k := (-e).toNat
      let x : Int := if neg then -((m <<< e.toNat : Nat) : Int) else ((m <<< e.toNat : Nat) : Int)
      let n := x / (2 ^ k : Nat)
      let g := (x % (2 ^ k : Nat)).toNat
      if g = 0 then toFp32 (.fin false 1 n, false)
      else
        let v := exp2Frac k g (2 <<< tpBits) (1 <<< tpBits)
        toFp32 (.fin false (2 * v + 1) (n - tpBits - 1), false)

/-- The first fraction bits of log2 t, t in [1, 2) in units of 2^−256, by repeated squaring. -/
def log2Frac : Nat → Nat → Nat → Nat
  | 0, _, acc => acc
  | k + 1, t, acc =>
    let s := (t * t) >>> 256
    if s ≥ 2 <<< 256 then log2Frac k (s / 2) (2 * acc + 1) else log2Frac k s (2 * acc)

/-- log2 x, correctly rounded (R52). -/
def flog2 (a : Nat) : Nat × Flags :=
  match fp a with
  | .nan => (canonNaN 0, Flags.none)
  | .inf true => (canonNaN 0, Flags.NV)
  | .inf false => (infEnc 0, Flags.none)
  | .fin neg m e =>
    if m = 0 then (signBit 0 true + infEnc 0, Flags.none)
    else if neg then (canonNaN 0, Flags.NV)
    else
      let ex := (m.log2 : Int) + e
      if m = 2 ^ m.log2 then toFp32 (.fin (ex < 0) ex.natAbs 0, false)
      else
        let r := log2Frac 120 (m <<< (256 - m.log2)) 0
        let y : Int := ex * (2 ^ 120 : Nat) + r
        if 0 ≤ y then toFp32 (.fin false (2 * y.natAbs + 1) (-121), false)
        else toFp32 (.fin true (2 * (y.natAbs - 1) + 1) (-121), false)

/-- 1/x, correctly rounded (R52). -/
def frcp (a : Nat) : Nat × Flags :=
  match fp a with
  | .nan => (canonNaN 0, Flags.none)
  | .inf neg => (signBit 0 neg, Flags.none)
  | .fin neg m e =>
    if m = 0 then (signBit 0 neg + infEnc 0, Flags.none)
    else
      let q := (1 <<< 64) / m
      toFp32 (.fin neg (2 * q + b2n (q * m != 1 <<< 64)) (-e - 65), false)

/-- 1/√x, correctly rounded (R52). -/
def frsq (a : Nat) : Nat × Flags :=
  match fp a with
  | .nan => (canonNaN 0, Flags.none)
  | .inf true => (canonNaN 0, Flags.NV)
  | .inf false => (0, Flags.none)
  | .fin neg m e =>
    if m = 0 then (signBit 0 neg + infEnc 0, Flags.none)
    else if neg then (canonNaN 0, Flags.NV)
    else
      let m' := if e % 2 = 0 then m else 2 * m
      let e' := if e % 2 = 0 then e else e - 1
      let n := 1 <<< 160
      let q := isqrt (n / m')
      toFp32 (.fin false (2 * q + b2n (q * q * m' != n)) (-(e' / 2) - 81), false)

/-- One level of the pairwise tree (R53). -/
def pairUp (op : Nat → Nat → Nat × Flags) : List Nat → List (Nat × Flags)
  | a :: b :: t => op a b :: pairUp op t
  | _ => []

/-- The fixed tree of R53 over a list of 2^n lanes. -/
def treeReduce (op : Nat → Nat → Nat × Flags) : Nat → List Nat → Flags → Nat × Flags
  | 0, l, f => (l.headD 0, f)
  | n + 1, l, f => let r := gather (pairUp op l); treeReduce op n r.1 (f.or r.2)

/-- The exact sum of one group of products with R46's special cases, and the NV of NaNs that arise. -/
def groupSum (ps : List (FVal × Bool)) : FVal × Bool :=
  let nv := ps.any (·.2)
  if ps.any (fun p => p.1 == .nan) then (.nan, nv)
  else if ps.any (fun p => p.1 == .inf true) && ps.any (fun p => p.1 == .inf false) then (.nan, true)
  else
    match ps with
    | [] => (.fin false 0 0, nv)
    | p :: t => (t.foldl (fun a x => (addV a x.1).1) p.1, nv)

/-- acc ← RNE(acc + S) (R46). -/
def accAdd (acc : Nat) (s : FVal × Bool) : Nat × Flags :=
  let r := addV (fp acc) s.1
  let o := encodeF 0 false r.1
  (o.1, o.2.or ⟨s.2 || r.2, false, false⟩)

/-- The INT32 accumulator plus an exact sum, saturated (R47). -/
def accAddInt (acc : Nat) (s : Int) : Nat × Flags :=
  let t := sInt 32 acc + s
  toIntSat 32 (t < 0) t.natAbs

end Sys2Proof.Machine
end

