-- ==== Sys2Proof/Machine/Packets.lean ====
section
/-! DEFINITION. Packets shared by every unit that sends or takes them: the header (R319), the operations table
(R321), route entries (R322), endpoints, egress and credits (R325, R326, R339), marked flows (R330) and RETURN
(R341). -/
namespace Sys2Proof.Machine

/-- The header without HCRC as a number (R319). -/
def headerNat (p : Packet) : Nat :=
  p.dst.toNat + p.src.toNat * 2 ^ 18 + b2n p.marked * 2 ^ 36 + p.chan.toNat * 2 ^ 37 + p.op.toNat * 2 ^ 39 +
  p.len.toNat * 2 ^ 44 + p.seq.toNat * 2 ^ 51 + b2n p.ce * 2 ^ 67 + b2n p.echo * 2 ^ 68 + b2n p.last * 2 ^ 69 +
  b2n p.fence * 2 ^ 70 + b2n p.mc * 2 ^ 71 + p.epoch.toNat * 2 ^ 72 + p.jobTag.toNat * 2 ^ 74 +
  b2n p.dl * 2 ^ 90 + p.addr.toNat * 2 ^ 91

def headerBytes15 (p : Packet) : Bytes := leBytes 15 (headerNat p)

/-- The HCRC the header should carry (R319). -/
def hcrcOf (p : Packet) : Byte := crc8 (headerBytes15 p)

def hcrcOk (p : Packet) : Bool := p.hcrc == hcrcOf p

def sealHeader (p : Packet) : Packet := { p with hcrc := hcrcOf p }

/-- The header's 16 bytes. -/
def headerBytes (p : Packet) : Bytes := headerBytes15 p ++ [p.hcrc]

/-- Whether operation, class, channel and length match a row of the operations table (R321). -/
def wellFormedOp (p : Packet) : Bool :=
  let o := p.op.toNat
  let c := p.chan.toNat
  let one := p.len.toNat == 0
  if o = 1 then !p.marked || c == 0 || c == 1
  else if !p.marked then false
  else if o = 2 ∨ o = 3 ∨ o = 4 ∨ o = 7 then c == 0 && one
  else if o = 5 then c == 0 && p.len.toNat == 2
  else if o = 6 then c == 0
  else if o = 8 ∨ o = 9 then c == 1
  else if o = 0x10 then c == 2
  else if o = 0x11 ∨ o = 0x12 ∨ o = 0x13 ∨ o = 0x15 then c == 2 && one
  else if o = 0x14 then one && c != 3
  else false

/-- Bytes of a packet in a buffer: the header counts as one unit of 64 B (R326). -/
def packetUnits (p : Packet) : Nat := p.len.toNat + 2

/-- The buffer of a packet on a link: marked channel c on VC0 or VC1, or the scheduled pool (R326). -/
def bufferOf (p : Packet) : Nat := if p.marked then 2 * p.chan.toNat + b2n p.dl else 6 + p.chan.toNat

/-- Units of a port's buffer at the peer: 192 KiB for a virtual channel, 896 KiB for the four pools together. -/
def bufferSize (b : Nat) : Nat := if b < 6 then 3072 else 14336

/-- Units that the sender may use of buffer b: its credits, and for a pool what the four pools leave of the space
that they share (R326). -/
def creditFree (x : PortState) (b : Nat) : Nat :=
  if b < 6 then tget 0 x.credit b
  else min (tget 0 x.credit b) (sumNat ((List.range 4).map (fun i => tget 0 x.credit (6 + i))) - 3 * 14336)

def flowOf (p : Packet) : FlowId := ⟨p.src, p.dst, p.marked, p.chan⟩

/-- The key of a flow. -/
def flowKey (f : FlowId) : Nat :=
  f.src.toNat + f.dst.toNat * 2 ^ 18 + b2n f.marked * 2 ^ 36 + f.chan.toNat * 2 ^ 37

namespace State

/-- Route entry fields (R322). -/
def route (s : State) (eid : Nat) : Nat := tget 0 s.fab.routes eid
def setRoute (s : State) (eid v : Nat) : State := { s with fab := { s.fab with routes := tset 0 s.fab.routes eid v } }
def routeValid (s : State) (eid : Nat) : Bool := (s.route eid).testBit 31
def routeLocal (s : State) (eid : Nat) : Bool := (s.route eid).testBit 30
def routeEp (s : State) (eid : Nat) : Nat := nbits (s.route eid) 21 16
def routeEpoch (s : State) (eid : Nat) : Nat := nbits (s.route eid) 27 26

/-- The facet whose bound stream holds an endpoint. To what arrives, a facet that is being unbound by force is unbound
already (R254). -/
def epFacet (s : State) (ep : Nat) : Option Nat :=
  (List.range 64).find? (fun f => s.facetBound f && !(s.facet f).forced && (s.kcs f).table.eps.contains ep)

/-- The facet that holds an endpoint until its unbind takes effect (R29, R254). -/
def epHolder (s : State) (ep : Nat) : Option Nat :=
  (List.range 64).find? (fun f => s.facetBound f && (s.kcs f).table.eps.contains ep)

/-- The key region that holds an endpoint (R359). -/
def epKey (s : State) (ep : Nat) : Option Nat :=
  (List.range 8).find? (fun k => match tget none s.msf.keys k with
    | some r => r.ep == ep
    | none => false)

/-- The EID of a facet's endpoint (R242). -/
def eidOf (s : State) (f ep : Nat) : Nat :=
  let t := (s.kcs f).table.eps
  (s.kcs f).eids.getD (t.findIdx (· == ep)) 0

/-- Whether a port's transmit direction carries packets: active or sleeping (R302, R318). -/
def portUp (s : State) (p : Nat) : Bool := 2 ≤ s.rf (Reg.PORT_STAT p) 31 29

/-- A fabric event (R344): FAB_FIRST takes the facet and the port. -/
def fabEvent (s : State) (f port i : Nat) : State :=
  s.raiseFirst Reg.FAB_EVT Reg.FAB_FIRST i (f * 2 ^ 26 + port * 2 ^ 8 + i)

/-- The facet whose endpoint a local EID names. -/
def eidFacet (s : State) (eid : Nat) : Option Nat :=
  if s.routeLocal eid then s.epFacet (s.routeEp eid) else none

/-! The session engine's names for facets, pairs and slots. -/

def session (s : State) (f : Nat) : Option SessionRec := if s.facetBound f then (s.kcs f).session else none

/-- The facet whose queue-pair range holds n (R194). -/
def qpFacet (s : State) (n : Nat) : Option Nat :=
  (List.range 64).find? (fun f => match s.session f with
    | some x => x.qbase ≤ n && n < x.qbase + x.qn
    | none => false)

/-- Physical slot of facet-local slot q, and its state (R203). -/
def slotOf (s : State) (f q : Nat) : Nat := (s.kcs f).table.slots.getD q 0
def slotState (s : State) (p : Nat) : Nat := s.rf (Reg.SLOT_STAT p) 30 28
def setSlotState (s : State) (p st : Nat) : State := s.wf (Reg.SLOT_STAT p) 30 28 st
def slotCount (s : State) (f : Nat) : Nat := (s.kcs f).table.slots.length

/-- An event of the engine (SES_EVT, SES_FIRST). -/
def sesEvent (s : State) (f n i : Nat) : State :=
  s.raiseFirst Reg.SES_EVT Reg.SES_FIRST i (f * 2 ^ 26 + i * 2 ^ 22 + n % 2 ^ 18)

/-- The queue pair whose reply ring or notification word a packet of facet f writes (R216, R218). -/
def replyPair (s : State) (f : Nat) (p : Packet) : Option Nat :=
  let a := p.addr.toNat * 64
  let hits (r : ReplyRing) : Bool := r.eid == p.dst.toNat &&
    (r.addr % 2 ^ 35 ≤ a && a < r.addr % 2 ^ 35 + 128 * 2 ^ r.log2 || a == r.notify % 2 ^ 35)
  match s.session f with
  | none => none
  | some x =>
    if p.op ≠ 1 ∨ !p.marked then none
    else (s.qps.find? (fun e => x.qbase ≤ e.1 && e.1 < x.qbase + x.qn && (e.2.ring.any hits || e.2.named.any hits))).map (·.1)

/-- A queue pair whose reply or notification is undeliverable (R219): it enters ERROR, its request and an OPEN of it
that waits end, and its slot closes. A step in flight keeps the slot's input (R210). -/
def notifyFails (s : State) (f n : Nat) : State :=
  let q := s.qp n
  let s := s.setQp n { q with error := true, req := none, closing := none, entries := [], notify := [] }
  let s := { s with ses := { s.ses with opens := s.ses.opens.filter (fun o => o.qp != n) } }
  let s := match q.slot with
    | some p => s.setSlotState p 5
    | none => s
  s.sesEvent f n 6

/-- A packet of this module is lost, abandoned or returned: a reply or notification fails its queue pair (R219). -/
def replyFails (s : State) (p : Packet) : State :=
  match s.eidFacet p.src.toNat with
  | some f => match s.replyPair f p with
    | some n => if (s.qp n).error then s else s.notifyFails f n
    | none => s
  | none => s

/-- Units queued for one buffer at a port's egress. -/
def egressFill (s : State) (p b : Nat) : Nat :=
  sumNat (((s.port p).queue.filter (fun q => bufferOf q == b)).map packetUnits)

/-- A packet joins the egress of a port; a marked one takes CE where the virtual channel holds more than
MARK_TH (R339). -/
def enqueue (s : State) (p : Nat) (q : Packet) : State :=
  let th := fld (s.hw Reg.FAB_CTL) 11 0
  let mark := q.marked && th * 1024 < s.egressFill p (bufferOf q) * 64
  let q' := if mark && !q.ce then sealHeader { q with ce := true } else q
  let s := if mark then s.count (Reg.PFAB_MARK p) 1 else s
  let x := s.port p
  (s.setPort p { x with queue := x.queue ++ [q'] }).emit (.forward p q')

/-- An entry lets a packet choose among ports (R325). -/
def adaptiveAt (e : Nat) (q : Packet) : Bool := e.testBit 29 && q.marked && !q.dl
def adaptive (s : State) (q : Packet) : Bool := adaptiveAt (s.route q.dst.toNat) q

/-- The port that a packet leaves on under an entry (R322, R325): PORT, or with ADAPT and DL = 0 the port of AMASK that is up
with the most free credits on VC0 that cover the packet, the lowest of equals; none while no port is eligible. -/
def choosePort (s : State) (e : Nat) (q : Packet) : Option Nat :=
  if adaptiveAt e q then
    let ok := (List.range 32).filter (fun p => e.testBit (32 + p) && s.portUp p &&
      packetUnits q ≤ creditFree (s.port p) (2 * q.chan.toNat))
    ok.foldl (fun b p => match b with
      | none => some p
      | some o => if creditFree (s.port o) (2 * q.chan.toNat) < creditFree (s.port p) (2 * q.chan.toNat)
          then some p else some o) none
  else some (e % 32)

/-- Why a packet cannot leave under an entry: NO_ROUTE, or DOWN (R323, R341). -/
def entryBad (s : State) (e : Nat) (q : Packet) : Option Nat :=
  if !e.testBit 31 then some 0x03
  else if !adaptiveAt e q && !s.portUp (e % 32) then some 0x04
  else none
def egressBad (s : State) (q : Packet) : Option Nat := s.entryBad (s.route q.dst.toNat) q

/-- A packet joins the port that an entry gives it, or waits while no adaptive port is eligible (R325). -/
def leave (s : State) (e : Nat) (q : Packet) : State :=
  match s.choosePort e q with
  | some p => s.enqueue p q
  | none => { s with fab := { s.fab with adapt := s.fab.adapt ++ [q] } }

/-- The change of an EID's entry behind which its packets wait (R337). -/
def moveOf (s : State) (eid : Nat) : Option Nat := s.fab.moves.findIdx? (fun m => m.eid == eid && m.entry.isNone)

/-- A packet goes to the egress of its port. It waits while packets queued for the ports that its entry named before a
change have not left (R337). -/
def egress (s : State) (q : Packet) : State :=
  match s.moveOf q.dst.toNat with
  | some i => { s with fab := { s.fab with moves := s.fab.moves.modify i (fun m => { m with waiting := m.waiting ++ [q] }) } }
  | none => s.leave (s.route q.dst.toNat) q

def sendFlow (s : State) (k : Nat) : Option SendFlow := (s.fab.send.find? (fun e => e.1 == k)).map (·.2)

def putFlow (s : State) (x : SendFlow) : State :=
  { s with fab := { s.fab with send := tput (flowKey x.id) x s.fab.send } }

/-- A refused RSP packet is discarded and counted; its source's retry settles it (R341). -/
def refuseRsp (s : State) : State := { s with fab := { s.fab with refused := s.fab.refused + 1 } }

/-- A packet of this module that cannot leave comes back at once with a status (R323, R341, R344), and settles at the next
tick. -/
def bounced (s : State) (q : Packet) (status : Nat) : State :=
  if q.chan = 2 then s.refuseRsp
  else
    let f := s.eidFacet q.src.toNat
    let s := if status = 3 then s.fabEvent (f.getD 0) 0 3 else s
    let s := match f with
      | some g => s.count (Reg.FCNT_RET g) 1
      | none => s
    let s := (s.fabEvent (f.getD 0) 0 0).replyFails q
    { s with fab := { s.fab with back := s.fab.back ++ [q] } }

/-- A packet of this module goes out: through the Prism to a LOCAL endpoint, else to its port's egress. -/
def sendOut (s : State) (q : Packet) : State :=
  let q := sealHeader q
  if s.routeLocal q.dst.toNat then { s with fab := { s.fab with home := s.fab.home ++ [q] } }.emit (.packet q)
  else match s.egressBad q with
    | some status => s.bounced q status
    | none => (s.egress q).emit (.packet q)

/-- W_INIT, W_MIN, W_MAX and AI in bytes (R340, R344). -/
def wInit (s : State) : Nat := fld (s.hw Reg.FAB_CC1) 15 0 * 1024
def wMax (s : State) : Nat := fld (s.hw Reg.FAB_CC1) 31 16 * 1024
def wMin (s : State) : Nat := max (fld (s.hw Reg.FAB_CC2) 31 16) 0x81 * 64
def wStep (s : State) : Nat := fld (s.hw Reg.FAB_CC2) 15 0 * 64

def newFlow (s : State) (f : FlowId) : SendFlow :=
  { id := f, nextSeq := 0, unacked := [], w := s.wInit, hold := 0, grow := 0, lastSent := s.dt, tag := 0, epochFirst := 0,
    epoch := s.routeEpoch f.dst.toNat, tails := [], waiting := [] }

end State

def packetBytes (p : Packet) : Nat := (p.len.toNat + 1) * 64 + 16

def flightBytes (x : SendFlow) : Nat := sumNat (x.unacked.map (fun u => packetBytes u.packet))

/-- The window lets a marked packet go (R330, R340). -/
def windowOpen (x : SendFlow) (p : Packet) : Bool :=
  x.unacked.length < 1024 && flightBytes x + packetBytes p ≤ x.w

/-- The first copy to a flow without a SEQ takes it (R338). -/
def McState.number (m : McState) (k seq : Nat) : McState :=
  match m.targets.findIdx? (fun t => t.key == k && t.seq.isNone) with
  | some i => { m with targets := m.targets.modify i (fun t => { t with seq := some seq }) }
  | none => m

namespace State

/-- A copy of a multicast has its SEQ (R338). A flow sends its copies in the order of their multicasts. -/
def mcNumber (s : State) (k seq : Nat) : State :=
  match s.fab.mcasts.findIdx? (fun m => m.targets.any (fun t => t.key == k && t.seq.isNone)) with
  | some i => { s with fab := { s.fab with mcasts := s.fab.mcasts.modify i (fun m => m.number k seq) } }
  | none => s

/-- A flow sends one packet: its SEQ and EPOCH, and, in the marked class, its place among the unacknowledged. -/
def flowSend (s : State) (x : SendFlow) (p : Packet) : State :=
  let q := { p with seq := BitVec.ofNat 16 x.nextSeq, epoch := BitVec.ofNat 2 x.epoch }
  let u := if p.marked then x.unacked ++ [⟨x.nextSeq, q, s.dt, 0⟩] else x.unacked
  let s := if p.mc ∧ p.marked then s.mcNumber (flowKey x.id) x.nextSeq else s
  (s.putFlow { x with nextSeq := (x.nextSeq + 1) % 65536, unacked := u, lastSent := s.dt, tag := p.jobTag.toNat }).sendOut q

/-- A packet of a flow waits for its window, or goes (R330, R340). -/
def flowPut (s : State) (x : SendFlow) (p : Packet) : State :=
  if p.marked && (!x.waiting.isEmpty || !windowOpen x p) then s.putFlow { x with waiting := x.waiting ++ [p] }
  else s.flowSend x p

/-- A packet enters its flow, or waits in its unit while no flow can be created (R330). -/
def flowEnter (s : State) (p : Packet) : State :=
  match s.sendFlow (flowKey (flowOf p)) with
  | none =>
    if s.fab.send.length < 16384 then s.flowPut (s.newFlow (flowOf p)) p
    else { s with fab := { s.fab with blocked := s.fab.blocked ++ [p] } }
  | some x => s.flowPut x p

/-- Packets that wait for a flow's window go, as far as it allows. -/
def flowAdvance (s : State) (k : Nat) : Nat → State
  | 0 => s
  | n + 1 =>
    match s.sendFlow k with
    | none => s
    | some x => match x.waiting with
      | [] => s
      | p :: r => if windowOpen x p then (s.flowSend { x with waiting := r } p).flowAdvance k n else s

/-- A fence covers what an endpoint sends to its destination, or to all (R336). -/
def fenceMeets (s : State) (x : FenceState) (src dst : Nat) : Bool :=
  s.routeLocal src && s.routeEp src == x.ep && (match x.dst with
    | none => true
    | some d => d == dst)

/-- A packet waits behind the last of the n oldest fences that covers it, or enters its flow (R336). -/
def sendBehind (s : State) (n : Nat) (p : Packet) : State :=
  match ((s.fab.fences.take n).zipIdx.reverse.find? (fun e => s.fenceMeets e.1 p.src.toNat p.dst.toNat)).map (·.2) with
  | some i =>
    { s with fab := { s.fab with fences := s.fab.fences.modify i (fun x => { x with after := x.after ++ [p] }) } }
  | none => s.flowEnter p

/-- A READ or ATOMIC that an endpoint sends, and a message that asks for a DONE, have an answer out (R328, R349, R358). -/
def expectAnswer (s : State) (p : Packet) : State :=
  let b := p.payload
  let o := p.op.toNat
  if s.routeLocal p.src.toNat ∧ (o = 2 ∨ o = 3 ∨ (o = 6 ∧ byteAt b 12 % 2 = 1)) then
    let r : RTag := ⟨s.routeEp p.src.toNat, leAt b 0 4, p.jobTag.toNat, if o = 6 then 2 ^ 29 else leAt b 4 4, o == 3⟩
    { s with msf := { s.msf with rtags := s.msf.rtags ++ [r] } }
  else s

/-- A request that came back or was abandoned has no answer out any more. -/
def forgetAnswer (s : State) (p : Packet) : State :=
  let o := p.op.toNat
  if o = 2 ∨ o = 3 ∨ o = 6 then
    { s with msf := { s.msf with rtags := s.msf.rtags.eraseP (fun r =>
        r.ep == s.routeEp p.src.toNat && r.rtag == leAt p.payload 0 4 && r.tag == p.jobTag.toNat) } }
  else s

/-- A unit sends a packet. Packets of an endpoint under a fence for the destination wait behind it (R336). -/
def unitSend (s : State) (p : Packet) : State := (s.expectAnswer p).sendBehind s.fab.fences.length p

/-- The job tag that facet f sends with to an EID (R357). -/
def tagFor (s : State) (f eid : Nat) : Nat :=
  let hit := (List.range 16).findSome? (fun i =>
    let e := tget 0 s.msf.xlt (f * 16 + i)
    let lo := e % 2 ^ 18
    if lo ≤ eid ∧ eid < lo + nbits e 30 18 then some (e / 2 ^ 31) else none)
  hit.getD (s.jobTag f)

end State

/-- A fresh packet of this module: no marks, its payload cut into LEN + 1 units. -/
def mkPacket (dst src : Nat) (chan op : Nat) (tag : Nat) (addr : Nat) (last : Bool) (payload : Bytes) : Packet :=
  { dst := BitVec.ofNat 18 dst, src := BitVec.ofNat 18 src, marked := true, chan := BitVec.ofNat 2 chan,
    op := BitVec.ofNat 5 op, len := BitVec.ofNat 7 (ceilDiv payload.length 64 - 1), seq := 0, ce := false,
    echo := false, last := last, fence := false, mc := false, epoch := 0, jobTag := BitVec.ofNat 16 tag,
    dl := false, addr := BitVec.ofNat 29 addr, hcrc := 0, payload := payload }

/-- An answer on RSP to a packet, with its tag (R341). -/
def answer (p : Packet) (op : Nat) (payload : Bytes) : Packet :=
  mkPacket p.src.toNat p.dst.toNat 2 op p.jobTag.toNat 0 false payload

namespace State

/-- A REQ or FWD packet is refused with a RETURN (R341): the original header, the status, zeros. -/
def returnPacket (s : State) (p : Packet) (status : Nat) : State :=
  s.unitSend (answer p 0x13 (padTo 64 (headerBytes p ++ [BitVec.ofNat 8 status])))

/-- ACK, TAIL and TAIL_ACK take no SEQ of their flow (log 28). -/
def hasSeq (p : Packet) : Bool := p.op != 0x12 && p.op != 0x14 && p.op != 0x15

/-- A refused RSP packet is reported in the ACK of its flow (R331, R341), unless it has no SEQ to report; other packets by a
RETURN. -/
def refusePacket (s : State) (p : Packet) (status : Nat) : State :=
  if p.chan = 2 then
    if !hasSeq p then s.refuseRsp else match s.fab.recv.find? (fun e => e.1 == flowKey (flowOf p)) with
    | some e =>
      let x := { e.2 with naks := e.2.naks ++ [(p.seq.toNat, status)] }
      { s with fab := { s.fab with recv := tput e.1 x s.fab.recv } }
    | none => s.refuseRsp
  else s.returnPacket p status

/-- A memory event (R368): MSF_FIRST takes the facet and the agent, endpoint or key region. -/
def msfEvent (s : State) (f idx i : Nat) : State :=
  s.raiseFirst Reg.MSF_EVT Reg.MSF_FIRST i (f * 2 ^ 26 + idx * 2 ^ 8 + i)

def keyRegion (s : State) (k : Nat) : Option KeyRegion := tget none s.msf.keys k

/-- Key region k closes; its endpoint's entry keeps LOCAL (R361). -/
def closeKey (s : State) (k : Nat) : State :=
  { s with msf := { s.msf with keys := s.msf.keys.filter (fun e => e.1 != k) } }

/-- Key regions whose facet leaves HELD or STOPPED close (R361). -/
def closeKeys (s : State) (f : Nat) : State :=
  { s with msf := { s.msf with keys := s.msf.keys.filter (fun e => match e.2 with
      | some r => r.facet != f
      | none => true) } }

/-- A packet with the wrong key is refused; the sixteenth closes the region (R360). -/
def wrongKey (s : State) (k : Nat) (r : KeyRegion) (p : Packet) : State :=
  let s := (s.msfEvent r.facet k 2).refusePacket p 0x14
  if 15 ≤ r.wrong then (s.closeKey k).msfEvent r.facet k 3
  else { s with msf := { s.msf with keys := tput k (some { r with wrong := r.wrong + 1 }) s.msf.keys } }

/-- Reorder slots in use (R334). -/
def slotsUsed (s : State) : Nat := sumNat (s.fab.recv.map (fun e => e.2.held.length))

/-- FAB_ROB shows the slots in use and their peak (R344). -/
def showRob (s : State) : State :=
  let n := s.slotsUsed
  (s.wf Reg.FAB_ROB 10 0 n).wf Reg.FAB_ROB 26 16 (max (s.rf Reg.FAB_ROB 26 16) n)

/-- An EID's entry becomes that of an endpoint of this module; a change that waited is dropped with the old one (R323). -/
def takeEid (s : State) (eid ep : Nat) : State :=
  let s := { s with fab := { s.fab with pendRoutes := s.fab.pendRoutes.filter (fun e => e.1 != eid) } }
  s.setRoute eid (2 ^ 31 + 2 ^ 30 + ep * 2 ^ 16 + s.routeEpoch eid * 2 ^ 26)

/-- The send flows of an EID, and what waits to enter them, are dropped. -/
def dropSends (s : State) (eid : Nat) : State :=
  { s with fab := { s.fab with
    send := s.fab.send.filter (fun e => e.2.id.src.toNat != eid), blocked := s.fab.blocked.filter (fun p => p.src.toNat != eid)
    linger := s.fab.linger.filter (fun e => e.1 != eid) } }

/-- The flows of endpoints that are unbound are dropped, their fences complete with an error, and LAST packets held for
them are returned with UNBOUND (R343). The flows of a session endpoint, which has its last entries to send, stay for 1 ms
(R222). -/
def dropFlows (s : State) (f : Nat) (eps eids : List Nat) (session : Option Nat) : State :=
  let hit := s.fab.fences.filter (fun x => eps.contains x.ep)
  let held := (s.fab.recv.filter (fun e => eids.contains e.2.id.dst.toNat)).flatMap (fun e => e.2.held)
  let s := { s with msf := { s.msf with rtags := s.msf.rtags.filter (fun r => !eps.contains r.ep) } }
  let s := { s with fab := { s.fab with
    fences := s.fab.fences.filter (fun x => !eps.contains x.ep)
    mcasts := s.fab.mcasts.filter (fun m => m.facet != f || !eids.any (fun e => m.targets.any (fun l => l.key % 2 ^ 18 == e)))
    mcWait := s.fab.mcWait.filter (fun w => w.facet != f || !eps.contains w.ep)
    recv := s.fab.recv.map (fun e => if eids.contains e.2.id.dst.toNat then (e.1, { e.2 with held := [] }) else e) } }
  let s := forEach eids s (fun t e =>
    if session = some e then { t with fab := { t.fab with linger := tput e (t.dt + 1800000) t.fab.linger } } else t.dropSends e)
  let s := (forEach held s (fun t h => t.refusePacket h.packet 0x01)).showRob
  if hit.isEmpty then s else s.fabEvent f 0 7

end State
end Sys2Proof.Machine
end

