-- ==== Sys2Proof/Machine/Session.lean ====
section
/-! DEFINITION. The session engine (07): doorbells, descriptors, slots, the step table, sampling, replies, and
the commit of a step. -/
namespace Sys2Proof.Machine

/-- The descriptor's SEQ, OPC and CONTEXT (R198). -/
def dSeq (d : Bytes) : Nat := leAt d 0 4
def dOpc (d : Bytes) : Nat := byteAt d 4
def dMaxNew (d : Bytes) : Nat := leAt d 8 4
def dNPrompt (d : Bytes) : Nat := leAt d 48 4
def dPrompt (d : Bytes) : Nat := leAt d 40 8

/-- A normal FP32 number above 0. -/
def normalPos (x : Nat) : Bool := 0x00800000 ≤ x && x < 0x7F800000

/-- The descriptor keeps the table of R198 for its opcode. -/
def descOk (s : State) (f : Nat) (d : Bytes) : Bool :=
  let z (a n : Nat) := allZero (sub d a n)
  z 22 2 && z 113 3 && z 124 4 &&
  (if dOpc d = 1 then
     z 5 27 && z 40 60 && leAt d 100 4 < 2 ^ 18 && leAt d 104 8 % 128 == 0 && 4 ≤ byteAt d 112 &&
     byteAt d 112 ≤ 12 && leAt d 116 8 % 64 == 0
   else if dOpc d = 2 then
     z 100 28 && byteAt d 5 ≤ 1 && byteAt d 6 ≤ 4 && byteAt d 7 ≤ 24 && dMaxNew d ≤ 2 ^ 24 &&
     (leAt d 12 4 == 0 || normalPos (leAt d 12 4)) && normalPos (leAt d 16 4) && leAt d 16 4 ≤ 0x3F800000 &&
     leAt d 20 2 ≤ 4096 && dNPrompt d ≤ 2 ^ 24 && dPrompt d % 4 == 0 &&
     (if dPrompt d = 0 then dNPrompt d ≤ 8 else dPrompt d < 2 ^ 43 && s.inSlices f (dPrompt d) (4 * dNPrompt d))
   else if dOpc d = 3 ∨ dOpc d = 4 then z 5 27 && z 40 88
   else false)

/-- Stop and inline tokens are below V (R196). -/
def descTokens (v : Nat) (d : Bytes) : Bool :=
  dOpc d != 2 ||
  ((List.range (byteAt d 6)).all (fun i => leAt d (52 + 4 * i) 4 < v) &&
   (dPrompt d != 0 || (List.range (dNPrompt d)).all (fun i => leAt d (68 + 4 * i) 4 < v)))

/-- Prompt token i of a request (R198). -/
def promptToken (s : State) (d : Bytes) (i : Nat) : Nat :=
  if dPrompt d = 0 then leAt d (68 + 4 * i) 4 else s.readLe (dPrompt d + 4 * i) 4

/-- The local block index that position p needs (R160). -/
def localIndex (g : GroupRec) (p : Nat) : Nat :=
  let i := 2 ^ g.ilog2
  (p / 128) / (i * g.g) * i + (p / 128) % i

namespace State

/-- Whether position p would pass the member's blocks (R161). -/
def beyond (s : State) (f p : Nat) : Bool :=
  match (s.kcs f).group with
  | some g => g.nb ≤ localIndex g p
  | none => false

/-- Whether facet-local slot q is homed here (R157). -/
def homedHere (s : State) (f q : Nat) : Bool :=
  match (s.kcs f).group with
  | some g => g.home.getD q 0 == g.rank
  | none => true

end State

/-! Replies (R216 to R220). -/

/-- Status codes of 0x10 and above are errors (R220). -/
def isError (st : Nat) : Bool := 0x10 ≤ st

def ringOfDesc (d : Bytes) : ReplyRing := ⟨leAt d 100 4 % 2 ^ 18, leAt d 104 8, byteAt d 112, leAt d 116 8⟩

/-- Tokens that an entry holds before it is written (R217). -/
def entryCap (d : Bytes) : Nat := if byteAt d 7 = 0 then 24 else byteAt d 7

/-- A reply entry with its PHASE (R216): every status but RUNNING is final (R220). -/
def ReplyEntry.bytes (e : ReplyEntry) (phase : Nat) : Bytes :=
  let flags := phase + 2 * b2n (e.status != 0) + 4 * b2n e.stopped
  sub e.desc 0 4 ++ leBytes 4 e.pos ++ leBytes 1 e.status ++ leBytes 1 e.tokens.length ++ leBytes 1 flags ++
  leBytes 1 e.slot ++ leBytes 4 e.made ++ sub e.desc 32 8 ++ leBytes 2 e.head ++ zeros 6 ++
  padTo 96 (e.tokens.flatMap (leBytes 4))

/-- No entry of the ring is free (R217). -/
def ringFull (q : QpState) (r : ReplyRing) : Bool := 2 ^ r.log2 ≤ (q.pqTail + 65536 - q.pqHead) % 65536

namespace State

/-- The EID of a facet's session endpoint. -/
def sessionEid (s : State) (f : Nat) : Nat :=
  match s.session f with
  | some x => (s.kcs f).eids.getD x.ep 0
  | none => 0

/-- A reply entry goes out in the marked class and PQ_TAIL advances; a notification falls due. -/
def writeEntry (s : State) (f n : Nat) (e : ReplyEntry) : State :=
  let q := s.qp n
  let r := e.ring
  let a := r.addr + (q.pqTail % 2 ^ r.log2) * 128
  let s := s.setQp n { q with
    pqTail := (q.pqTail + 1) % 65536, notify := if q.notify.contains r then q.notify else q.notify ++ [r]
    lastStatus := if e.status = 0 then q.lastStatus else e.status }
  s.unitSend (mkPacket r.eid (s.sessionEid f) 0 0x01 (s.tagFor f r.eid) (a / 64) false (e.bytes (1 - (q.pqTail / 2 ^ r.log2) % 2)))

/-- An entry is written, or waits behind those that the ring has no room for (R217). -/
def reply (s : State) (f n : Nat) (e : ReplyEntry) : State :=
  let q := s.qp n
  if q.entries = [] ∧ ringFull q e.ring = false then s.writeEntry f n e else s.setQp n { q with entries := q.entries ++ [e] }

/-- Entries that waited are written as far as the ring has room. -/
def flushEntries (s : State) (f n : Nat) : State :=
  let q := s.qp n
  forEach q.entries (s.setQp n { q with entries := [] }) (fun t e => t.reply f n e)

/-- The notifications of a queue pair go out, behind its entries (R218): queue pair, PQ_TAIL, RQ_HEAD. -/
def notifyPair (s : State) (f n : Nat) : State :=
  let q := s.qp n
  if q.notify = [] then s
  else
    forEach q.notify (s.setQp n { q with notify := [] }) (fun t r =>
      t.unitSend (mkPacket r.eid (t.sessionEid f) 0 0x01 (t.tagFor f r.eid) (r.notify / 64) true
        (padTo 64 (leBytes 4 n ++ leBytes 2 q.pqTail ++ leBytes 2 q.rqHead))))

/-- The queue pairs of facet f that the engine keeps something of. -/
def pairsOf (s : State) (f : Nat) : List Nat :=
  match s.session f with
  | some x => (s.qps.map (·.1)).filter (fun n => x.qbase ≤ n && n < x.qbase + x.qn)
  | none => []

/-- The notifications that fall due in a facet. -/
def notifyAll (s : State) (f : Nat) : State := forEach (s.pairsOf f) s (fun t n => t.notifyPair f n)

/-- The entries of one boundary, read by several commands, are announced together (R218; log 32). -/
def notifyLate (s : State) : State :=
  if s.qps.any (fun e => e.2.notify != []) then forEach (List.range 64) s (fun t f => t.notifyAll f) else s

/-- Facet-local slot number shown in replies. -/
def localSlot (s : State) (p : Option Nat) : Nat :=
  match p with
  | some k => s.rf (Reg.SLOT_STAT k) 21 16
  | none => 0xFF

/-- The sequence length that an entry without tokens shows. -/
def seqLen (s : State) (p : Option Nat) : Nat :=
  match p with
  | some k => (s.slot k).pos + b2n (s.slot k).pend.isSome
  | none => 0

/-- A request ends with an error: SES_ERR counts it (R224). -/
def countFailed (s : State) (f st : Nat) : State := if isError st then s.addSat (Reg.SES_ERR f) 15 0 1 else s

/-- A request without tokens ends at once on ring r (OPEN, CLOSE, and what never ran). -/
def replyOnce (s : State) (f n : Nat) (r : ReplyRing) (d : Bytes) (head st : Nat) : State :=
  let p := (s.qp n).slot
  (s.countFailed f st).reply f n ⟨r, d, s.seqLen p, st, false, s.localSlot p, 0, head, []⟩

/-- An OPEN ends without a slot, on the ring that it names (R206). -/
def replyOpen (s : State) (f n : Nat) (d : Bytes) (head st : Nat) : State :=
  let r := ringOfDesc d
  let q := s.qp n
  (s.setQp n { q with named := if q.ring = some r then q.named else some r }).replyOnce f n r d head st

/-- A descriptor's request ends with an error before it ran: on the queue pair's ring, or, for an OPEN, the
ring it names; without a ring it is dropped and counted in NO_RING (R206). -/
def replyError (s : State) (f n : Nat) (d : Bytes) (st : Nat) : State :=
  let s := if st = 0x12 ∨ st = 0x13 ∨ st = 0x18 then s.sesEvent f n 1 else s
  let q := s.qp n
  if dOpc d = 1 ∧ st ≠ 0x13 then s.replyOpen f n d q.rqHead st
  else match q.ring with
    | some r => s.replyOnce f n r d q.rqHead st
    | none => s.sesEvent f n 9

/-- A token is one of the request's stop tokens, or EOS (R214, R216). -/
def isStop (s : State) (f : Nat) (d : Bytes) (tok : Nat) : Bool :=
  (List.range (byteAt d 6)).any (fun i => leAt d (52 + 4 * i) 4 == tok) || (s.session f).any (fun y => y.eos == tok)

/-- The entry of a running request with what it holds. -/
def entryNow (s : State) (f n : Nat) (x : Request) (r : ReplyRing) (st : Nat) : ReplyEntry :=
  let p := (s.qp n).slot
  ⟨r, x.desc, if x.tokens = [] then s.seqLen p else x.tokPos, st, x.tokens.getLast?.any (s.isStop f x.desc), s.localSlot p, x.made, x.head, x.tokens⟩

/-- The running request's tokens are written when the entry is full of them and the ring has room (R217). -/
def pushTokens (s : State) (f n : Nat) : State :=
  let q := s.qp n
  match q.req, q.ring with
  | some x, some r =>
    if entryCap x.desc ≤ x.tokens.length ∧ q.entries = [] ∧ ringFull q r = false then
      let e := s.entryNow f n x r 0
      (s.setQp n { q with req := some { x with tokens := [] } }).writeEntry f n e
    else s
  | _, _ => s

/-- The running request ends (R214, R217): its final entry, which may have to wait, and its event. -/
def endRequest (s : State) (f n st : Nat) : State :=
  let s := if st = 0x16 then s.sesEvent f n 3 else if st = 0x17 then s.sesEvent f n 5
    else if st = 0x18 then s.sesEvent f n 1 else s
  let q := s.qp n
  match q.req, q.ring with
  | some x, some r =>
    let e := s.entryNow f n x r st
    ((s.setQp n { q with req := none }).countFailed f st).reply f n e
  | some _, none => s.setQp n { q with req := none }
  | none, _ => s

/-- A slot whose request has ended: IDLE, or CLOSING where a CLOSE was read behind a CANCEL (R221), and where the pair's
last entry proved undeliverable (R219). -/
def settleSlot (s : State) (p n : Nat) : State :=
  s.setSlotState p (if (s.qp n).closing.isSome || s.slotState p == 5 then 5 else 1)

/-- A slot becomes FREE, and no sample of it is owed; a CLOSED reply that is due is written (R204, R225). -/
def freeSlot (s : State) (f p : Nat) : State :=
  let n := s.rf (Reg.SLOT_QP p) 17 0
  let q := s.qp n
  let s := match q.closing, q.ring with
    | some d, some r => s.replyOnce f n r d.1 d.2 0x05
    | _, _ => s
  let s := s.setQp n { s.qp n with slot := none, closing := none }
  let s := { s with ses := { s.ses with sampling := s.ses.sampling.filter (fun e => s.slotOf e.1 e.2 != p) } }
  ((s.setSlot p SlotState.reset).setSlotState p 0).setReg (Reg.SLOT_QP p) 0

/-- The sequence is full: its request ends and its slot becomes FREE (R161, R214). -/
def contextFull (s : State) (f p n : Nat) : State := (s.endRequest f n 0x10).freeSlot f p

/-- CLOSING slots of a facet become FREE (R204). -/
def freeClosing (s : State) (f : Nat) : State :=
  forEach (s.kcs f).table.slots s (fun t p => if t.slotState p = 5 then t.freeSlot f p else t)

/-! Descriptors (R205, R206). -/

/-- The DPA of the next entry of a request ring (R195). -/
def ringEntry (s : State) (f n idx : Nat) : Nat :=
  match s.session f with
  | some x => x.rqbase + ((n - x.qbase) * 2 ^ x.rqlog2 + idx % 2 ^ x.rqlog2) * 128
  | none => 0

/-- A facet-local slot that is FREE and homed here, the lowest. -/
def freeSlotOf (s : State) (f : Nat) : Option Nat :=
  (List.range (s.slotCount f)).find? (fun q => s.homedHere f q && s.slotState (s.slotOf f q) == 0)

/-- An OPEN binds a slot (R206). -/
def bindSlot (s : State) (f n q : Nat) (d : Bytes) (head : Nat) : State :=
  let p := s.slotOf f q
  let s := ((s.setSlot p SlotState.reset).setSlotState p 1).wf (Reg.SLOT_QP p) 17 0 n
  let s := s.setQp n { s.qp n with slot := some p, ring := some (ringOfDesc d), pqHead := 0, pqTail := 0 }
  s.replyOnce f n (ringOfDesc d) d head 0x04

/-- One descriptor is read: RQ_HEAD advances, SES_REQ counts, SEQ and layout are checked (R198, R205). act runs
on a good descriptor. -/
def readDesc (s : State) (f n : Nat) (d : Bytes) (act : State → State) : State :=
  match s.session f with
  | none => s
  | some x =>
    let q := s.qp n
    let s := (s.setQp n { q with rqHead := (q.rqHead + 1) % 65536 }).countWrap (Reg.SES_REQ f) 1
    let s := { s with ses := { s.ses with
      readCount := s.ses.readCount + 1, served := tset 0 s.ses.served f (n + 1), turn := tset 0 s.ses.turn f (n + 1) } }
    if dSeq d ≠ q.seq then s.replyError f n d 0x13
    else
      let s := s.setQp n { s.qp n with seq := (q.seq + 1) % 2 ^ 32 }
      if !descOk s f d then s.replyError f n d 0x12
      else if !descTokens x.v d then s.replyError f n d 0x18
      else act s

/-- No request runs or waits on the pair (R205). -/
def quiet (s : State) (n : Nat) : Bool :=
  (s.qp n).req.isNone && (s.qp n).closing.isNone && s.ses.opens.all (fun o => o.qp != n)

/-- The descriptor of an opcode may be read now (R205, R221): a CANCEL at once, others when the request before has
ended; a CLOSE behind a CANCEL falls with the cancellation. -/
def mayAct (s : State) (n opc : Nat) : Bool :=
  opc == 3 || s.quiet n || (opc == 4 && (s.qp n).closing.isNone && (s.qp n).req.any (·.cancel))

/-- The pair has a descriptor that the engine may read now. -/
def readable (s : State) (f n : Nat) : Bool :=
  let q := s.qp n
  !q.error && q.rqHead != q.rqTail && s.mayAct n (s.memByte (s.ringEntry f n q.rqHead + 4)).toNat

/-- The pair that the engine serves next (R205): the one that it serves, and then the others in ascending order from
the one last served. -/
def nextPair (s : State) (f : Nat) : Option Nat :=
  let mine := (s.pairsOf f).filter (s.readable f)
  let now := tget 0 s.ses.turn f
  if now ≠ 0 ∧ mine.contains (now - 1) = true then some (now - 1)
  else match mine.find? (fun n => tget 0 s.ses.served f ≤ n) with
    | some n => some n
    | none => mine.head?

/-- The next descriptor of the queue pair is d, and the engine reads it now: at the facet's frame boundary, in the order
of service, and as one of the 1,024 of the frame (R205). -/
def mayRead (s : State) (f n : Nat) (d : Bytes) : Bool :=
  tget 0 s.ses.boundary f == s.dt + 1 && s.ses.readCount < 1024 && s.nextPair f == some n &&
  s.readMem (s.ringEntry f n (s.qp n).rqHead) 128 == d

/-- Waiting OPENs of a facet, oldest first, take slots that are FREE (R206, R221). -/
def serveOpens (s : State) (f : Nat) : State :=
  forEach (s.ses.opens.filter (fun o => o.facet == f)) s (fun t o =>
    match t.freeSlotOf f with
    | some q =>
      { t with ses := { t.ses with opens := t.ses.opens.filter (fun x => x.qp != o.qp) } }.bindSlot f o.qp q o.desc o.head
    | none => t)

/-- OPEN (R206): it takes a slot behind the OPENs that wait, or waits. -/
def actOpen (s : State) (f n : Nat) (d : Bytes) : State :=
  if (s.qp n).slot.isSome then s.replyError f n d 0x14
  else
    let w := match s.session f with
      | some x => x.admitWait
      | none => 0
    let head := (s.qp n).rqHead
    { s with ses := { s.ses with opens := s.ses.opens ++ [({ facet := f, qp := n, desc := d, left := w, head := head } : OpenWait)] } }.serveOpens f

def actAppend (s : State) (f n : Nat) (d : Bytes) : State :=
  match (s.qp n).slot with
  | none => s.replyError f n d 0x15
  | some p =>
    if s.slotState p ≠ 1 ∨ ((s.slot p).pend.isNone ∧ dNPrompt d = 0) then s.replyError f n d 0x14
    else
      let s := s.setQp n { s.qp n with req := some ⟨d, (s.qp n).rqHead, 0, 0, [], 0, false⟩ }
      s.setSlotState p (if dNPrompt d = 0 then 3 else 2)

/-- A slot's sample is owed (R211). -/
def owes (s : State) (f q : Nat) : Bool := s.ses.sampling.contains (f, q)

/-- The running request is cancelled: at once where its slot is in no step in flight, else at the step's commit
(R206, R221). A request that has ended, be it that its entry waits, is not. -/
def actCancel (s : State) (f n : Nat) : State :=
  let q := s.qp n
  match q.req with
  | some x =>
    match q.slot with
    | some p =>
      if (s.slot p).input.isSome || s.owes f (s.localSlot (some p)) then s.setQp n { q with req := some { x with cancel := true } }
      else (s.endRequest f n 0x06).settleSlot p n
    | none => s.endRequest f n 0x06
  | none =>
    match s.ses.opens.find? (fun o => o.qp == n) with
    | some o =>
      let s := { s with ses := { s.ses with opens := s.ses.opens.filter (fun o => o.qp != n) } }
      s.replyOpen f n o.desc o.head 0x06
    | none => s

/-- CLOSE (R204, R206, R221). -/
def actClose (s : State) (f n : Nat) (d : Bytes) : State :=
  match (s.qp n).slot with
  | none => s.replyError f n d 0x15
  | some p =>
    let q := s.qp n
    let s := s.setQp n { q with closing := some (d, q.rqHead) }
    if q.req.isSome then s else s.setSlotState p 5

/-- An OPEN that has waited ADMIT_WAIT frames ends with NO_SLOT (R206). -/
def openExpires (s : State) (n : Nat) : State :=
  match s.ses.opens.find? (fun o => o.qp == n && o.left == 0) with
  | none => s
  | some o =>
    let s := { s with ses := { s.ses with opens := s.ses.opens.filter (fun o => o.qp != n) } }
    (s.sesEvent o.facet n 2).replyOpen o.facet n o.desc o.head 0x11

/-! Doorbells (R200 to R202). -/

end State

/-- The value furthest ahead of a counter. -/
def furthest (from_ : Nat) (l : List Nat) : Nat :=
  l.foldl (fun a b => if (a + 65536 - from_) % 65536 < (b + 65536 - from_) % 65536 then b else a) from_

namespace State

/-- A doorbell's RQ_TAIL, and its PQ_HEAD, are valid (R202). -/
def tailValid (q : QpState) (log2 : Nat) (b : Nat × Nat) : Bool :=
  (b.1 + 65536 - q.rqTail) % 65536 < 32768 && (b.1 + 65536 - q.rqHead) % 65536 ≤ 2 ^ log2
def headValid (q : QpState) (b : Nat × Nat) : Bool :=
  match q.ring with
  | some r => (b.2 + 65536 - q.pqHead) % 65536 < 32768 && (q.pqTail + 65536 - b.2) % 65536 ≤ 2 ^ r.log2
  | none => b.2 == q.pqHead

/-- A queue pair takes the doorbells of a frame boundary: the furthest valid values (R202). -/
def takeBells (s : State) (f n : Nat) : State :=
  match s.session f with
  | none => s
  | some x =>
    let q := s.qp n
    let s := s.setQp n { q with
      bells := []
      rqTail := furthest q.rqTail ((q.bells.filter (tailValid q x.rqlog2)).map (·.1))
      pqHead := furthest q.pqHead ((q.bells.filter (headValid q)).map (·.2)) }
    if q.bells.all (fun b => tailValid q x.rqlog2 b && headValid q b) then s else s.sesEvent f n 0

/-- Something that the pair has to write finds no free entry (R217). -/
def pairBlocked (q : QpState) : Bool :=
  q.entries != [] || (match q.req, q.ring with
    | some x, some r => entryCap x.desc ≤ x.tokens.length && ringFull q r
    | _, _ => false)

/-- A free entry lets waiting entries be written, and a slot in REPLY_WAIT go on (R217). -/
def unblock (s : State) (f n : Nat) : State :=
  let s := (s.flushEntries f n).pushTokens f n
  let q := s.qp n
  if pairBlocked q then s
  else match q.req, q.slot with
    | some x, some p =>
      if s.slotState p = 4 then
        (s.setSlot p { s.slot p with waited := 0 }).setSlotState p (if x.fed < dNPrompt x.desc then 2 else 3)
      else s
    | _, _ => s

/-- A queue-pair reset (R225). QP_VIEW keeps the STATUS of the last final entry. -/
def resetQp (s : State) (n : Nat) : State :=
  let q := s.qp n
  let s := match q.slot with
    | some p => s.setSlotState p 5
    | none => s
  let s := { s with ses := { s.ses with opens := s.ses.opens.filter (fun o => o.qp != n) } }
  let s := s.setQp n { QpState.reset with slot := q.slot, lastStatus := q.lastStatus }
  if s.rf Reg.QP_RESET 17 0 = n then s.wf Reg.QP_RESET 31 31 0 else s

/-- The engine's work at a frame boundary of a facet (R202, R205, R225): resets, doorbells, frames of waiting
OPENs and of REPLY_WAIT, slots that become FREE in a facet without steps. Descriptors are read from now on. -/
def frameBoundary (s : State) (f : Nat) : State :=
  if (s.session f).isNone then s
  else
    let s := s.notifyAll f
    let s := forEach ((s.pairsOf f).filter (fun n => (s.qp n).resetDue)) s (fun t n => t.resetQp n)
    let s := forEach ((s.pairsOf f).filter (fun n => (s.qp n).bells != [])) s (fun t n =>
      if (t.qp n).error then t.setQp n { t.qp n with bells := [] } else (t.takeBells f n).unblock f n)
    let st := s.facetState f
    let s := if st = 2 ∨ st = 5 ∨ (st = 4 ∧ !(s.facet f).inStep) then s.freeClosing f else s
    let s := forEach (s.ses.opens.filter (fun o => o.facet == f && o.left == 0)) s (fun t o => t.openExpires o.qp)
    let s := { s with ses := { s.ses with
      opens := s.ses.opens.map (fun (o : OpenWait) => if o.facet = f then { o with left := o.left - 1 } else o)
      turn := tset 0 s.ses.turn f 0, boundary := tset 0 s.ses.boundary f (s.dt + 1)
      readCount := if s.ses.readFrame = s.devFrame then s.ses.readCount else 0, readFrame := s.devFrame } }
    let s := s.serveOpens f
    forEach (s.kcs f).table.slots s (fun t p =>
      if t.slotState p = 4 then t.setSlot p { t.slot p with waited := (t.slot p).waited + 1 } else t)

/-! The step interface (R208 to R210). -/

/-- A token enters slot p, unless its position is beyond the group's blocks (R161, R209, R214): the position, the
token, and SAMPLE for the last known token of a request that has tokens to generate. -/
def feed (s : State) (f p n tok : Nat) (r : Request) (st : Nat) : State :=
  let x := s.slot p
  if s.beyond f x.pos then s.contextFull f p n
  else
    let last := r.fed = dNPrompt r.desc
    let s := s.setQp n { s.qp n with req := some r }
    (s.setSlot p { x with pend := none, input := some (x.pos, tok, last && r.made < dMaxNew r.desc) }).setSlotState p st

/-- The input of facet-local slot q for the step that begins (R209). A slot whose sample is still owed is EMPTY, and so
is one that pauses because its pair cannot write (R215, R217). -/
def chooseInput (s : State) (f q : Nat) : State :=
  let p := s.slotOf f q
  let x := s.slot p
  let st := s.slotState p
  let n := s.rf (Reg.SLOT_QP p) 17 0
  match (s.qp n).req with
  | none => s
  | some r =>
    if !(s.homedHere f q) ∨ (st ≠ 2 ∧ st ≠ 3) ∨ r.cancel then s
    else if s.owes f q then s.setSlot p { x with late := true }
    else if pairBlocked (s.qp n) then (s.setSlot p { x with waited := 0 }).setSlotState p 4
    else match x.pend with
      | some t => s.feed f p n t r (if r.fed < dNPrompt r.desc then 2 else 3)
      | none =>
        if r.fed < dNPrompt r.desc then
          let t := promptToken s r.desc r.fed
          let v := match s.session f with
            | some y => y.v
            | none => 0
          if v ≤ t then (s.endRequest f n 0x18).settleSlot p n
          else s.feed f p n t { r with fed := r.fed + 1 } st
        else s

/-- The step table of R208. -/
def stepTable (s : State) (f : Nat) : Bytes :=
  leBytes 4 (s.facet f).step ++ zeros 60 ++
  (List.range (s.slotCount f)).flatMap (fun q =>
    match (s.slot (s.slotOf f q)).input with
    | some (p, t, smp) => leBytes 4 p ++ leBytes 4 t ++ leBytes 1 (2 * b2n smp) ++ zeros 7
    | none => zeros 8 ++ leBytes 1 1 ++ zeros 7)

def writeStepTable (s : State) (f : Nat) : State :=
  match s.session f with
  | some x =>
    let a := x.stepin + ((s.facet f).step % 2) * (64 + 16 * s.slotCount f)
    s.unitWrite a (s.stepTable f)
  | none => s

/-- What a committed step does for facet-local slot q (R210, R213, R214): the position advances, a SAMPLE is owed, a
prompt alone ends, and so does a cancelled request. -/
def commitSlot (s : State) (f q : Nat) : State :=
  let p := s.slotOf f q
  let x := s.slot p
  let n := s.rf (Reg.SLOT_QP p) 17 0
  match x.input with
  | none => s
  | some (_, _, smp) =>
    let s := s.setSlot p { x with pos := x.pos + 1, input := none }
    match (s.qp n).req with
    | none => s
    | some r =>
      if smp then { s with ses := { s.ses with sampling := s.ses.sampling ++ [(f, q)] } }
      else if r.fed = dNPrompt r.desc ∧ dMaxNew r.desc = 0 then (s.endRequest f n 0x03).settleSlot p n
      else if r.cancel then (s.endRequest f n 0x06).settleSlot p n
      else s

/-- The step in flight commits (R210): slots, CLOSING slots, the step number, and the gap of R215. -/
def commitStep (s : State) (f : Nat) : State :=
  let s := forEach (List.range (s.slotCount f)) s (fun t q => t.commitSlot f q)
  let s := s.freeClosing f
  let gap := match s.session f with
    | some x => x.gap + 1
    | none => 1
  let x := s.facet f
  (s.setFacet f { x with inStep := false, step := (x.step + 1) % 2 ^ 32, gapLeft := gap, lastFrame := x.frames, voids := 0, badAddrs := [], badPrev := [] }).notifyAll f

end State

/-! Sampling (R211, R212). -/

/-- The counter-based generator: 24 bits (R212). -/
def genBits (seed pos : Nat) : Nat :=
  let m := 2 ^ 64
  let x := (seed + (pos + 1) * 0x9E3779B97F4A7C15) % m
  let x := ((x ^^^ (x >>> 30)) * 0xBF58476D1CE4E5B9) % m
  let x := ((x ^^^ (x >>> 27)) * 0x94D049BB133111EB) % m
  (x ^^^ (x >>> 31)) >>> 40

/-- Insertion of an (index, logit) pair in descending logit; equal logits keep index order. -/
def insertTop (a : Nat × Nat) : List (Nat × Nat) → List (Nat × Nat)
  | [] => [a]
  | b :: t => if fltLt b.2 a.2 && !(fp b.2 == fp a.2) then a :: b :: t else b :: insertTop a t

/-- The indices in descending logit, equal logits in ascending index. -/
def rankLogits (l : List (Nat × Nat)) : List (Nat × Nat) := l.foldl (fun acc a => insertTop a acc) []

/-- −0 and +0 rank as equal numbers; a NaN counts as −Infinity (R211). -/
def cleanLogit (z : Nat) : Nat := if isNaN32 z then 0xFF800000 else if z = 0x80000000 then 0 else z

/-- Running sums of FP32 numbers, each rounded (R211). -/
def cumSum : List Nat → Option Nat → List Nat
  | [], _ => []
  | e :: t, none => e :: cumSum t (some e)
  | e :: t, some a => let c := (fadd a e).1; c :: cumSum t (some c)

/-- The candidates c of a rank order, their running sums cum, and the limit of the kept ones (R211). -/
def sampleSums (ranked : List (Nat × Nat)) (temp topK topP : Nat) : List (Nat × Nat) × List Nat × Nat :=
  let c := ranked.take (if topK = 0 then 4096 else topK)
  let w := (frcp temp).1
  let m := (c.headD (0, 0)).2
  let cum := cumSum (c.map (fun x => (fexp2 (fmul (fsub x.2 m).1 w).1).1)) none
  (c, cum, (fmul topP (cum.getLastD 0)).1)

/-- The token that logits, temperature, TOP_K, TOP_P and the generator decide; none: every logit −Infinity. Where the
sums are no numbers (a logit of +Infinity, 0 times −Infinity) R211 states no token: open_ names a candidate, and the
second component says so (log 32). -/
def sampleToken (z : List Nat) (temp topK topP seed pos open_ : Nat) : Option (Nat × Bool) :=
  let z := z.map cleanLogit
  if z.all (· == 0xFF800000) then none
  else
    let ranked := rankLogits ((List.range z.length).zip z)
    if temp = 0 then some ((ranked.headD (0, 0)).1, false)
    else
      let (c, cum, lim) := sampleSums ranked temp topK topP
      if isNaN32 lim then some ((c.getD (open_ % c.length) (0, 0)).1, true)
      else
        let keep := min (1 + cum.findIdx (fun x => !fltLt x lim)) c.length
        let r := (fmul (fmul (encodeF 0 false (.fin false (genBits seed pos) 0)).1 0x33800000).1 (cum.getD (keep - 1) 0)).1
        let j := (cum.take keep).findIdx (fun x => fltLt r x)
        some ((c.getD (min j (keep - 1)) (0, 0)).1, false)

namespace State

/-- A token joins the reply (R214, R216). -/
def addToken (s : State) (n tok pos : Nat) : State :=
  let q := s.qp n
  match q.req with
  | some r =>
    let first := if r.tokens.isEmpty then pos else r.tokPos
    s.setQp n { q with req := some { r with tokens := r.tokens ++ [tok], tokPos := first, made := r.made + 1 } }
  | none => s

/-- A sample of facet-local slot q is ready: it enters the step that comes next, or, where that step has begun, that step
if it is on time; a late one has missed that step and is counted (R215). -/
def sampleLands (s : State) (f q : Nat) (onTime : Bool) : State :=
  let p := s.slotOf f q
  let n := s.rf (Reg.SLOT_QP p) 17 0
  let x := s.facet f
  let late := (s.slot p).late
  let s := s.setSlot p { s.slot p with late := false }
  if !late then s
  else if onTime ∧ x.inStep ∧ x.frame = 0 ∧ !x.void ∧ x.voids = 0 then (s.chooseInput f q).writeStepTable f
  else (s.addSat (Reg.SES_ERR f) 31 16 1).sesEvent f n 4

/-- Facet-local slot q is sampled by one of the four units, which take the slots in their order (R211, R213 to R215,
R217). -/
def sampleSlot (s : State) (f q : Nat) (onTime : Bool) : State :=
  let p := s.slotOf f q
  let n := s.rf (Reg.SLOT_QP p) 17 0
  if !(s.ses.sampling.take 4).contains (f, q) then s
  else
    let s := { s with ses := { s.ses with sampling := s.ses.sampling.erase (f, q) } }
    match s.session f, (s.qp n).req with
    | some y, some r =>
      let x := s.slot p
      let z := unpackWords (s.readMem (y.logits + q * y.v * 4) (y.v * 4)) y.v
      let nans := (z.filter isNaN32).length
      let s := if nans = 0 then s else (s.count (Reg.SES_NAN f) nans).sesEvent f n 3
      let d := r.desc
      match sampleToken z (leAt d 12 4) (leAt d 20 2) (leAt d 16 4) (leAt d 24 8) x.pos s.freeWord.toNat with
      | none => (s.endRequest f n 0x16).settleSlot p n
      | some (tok, drawn) =>
        let s := ((s.useFree (b2n drawn)).setSlot p { x with pend := some tok }).addToken n tok x.pos
        let stops := (List.range (byteAt d 6)).map (fun i => leAt d (52 + 4 * i) 4)
        let over_ (t : State) : State := if (t.qp n).closing.isSome then t.freeSlot f p else t.settleSlot p n
        if stops.contains tok || (tok == y.eos && byteAt d 5 == 0) then over_ (s.endRequest f n 0x01)
        else if r.made + 1 = dMaxNew d then over_ (s.endRequest f n 0x02)
        else if s.beyond f x.pos then s.contextFull f p n
        else if r.cancel then over_ (s.endRequest f n 0x06)
        else (s.pushTokens f n).sampleLands f q onTime
    | _, _ => s
where
  unpackWords (b : Bytes) (v : Nat) : List Nat := (List.range v).map (fun i => leAt b (4 * i) 4)

/-- No sample of a facet is owed any more. -/
def dropSamples (s : State) (f : Nat) : State :=
  { s with ses := { s.ses with sampling := s.ses.sampling.filter (fun e => e.1 != f) } }

/-- Every queue pair that holds a slot, runs a request or has unread descriptors gets an UNBOUND entry and a
notification; the facet's pairs are forgotten (R222). A pair that runs no request counts in no failure. -/
def unboundEntries (s : State) (f : Nat) : State :=
  match s.session f with
  | none => s
  | some _ =>
    let mine := s.pairsOf f
    let s := forEach mine s (fun t n =>
      let q := t.qp n
      if q.slot.isSome || q.req.isSome || q.rqHead != q.rqTail then
        match q.req, q.ring with
        | some _, some _ => t.endRequest f n 0x20
        | none, some g => t.reply f n ⟨g, zeros 128, t.seqLen q.slot, 0x20, false, t.localSlot q.slot, 0, q.rqHead, []⟩
        | _, none => t
      else t)
    let s := (s.notifyAll f).dropSamples f
    let s := { s with ses := { s.ses with opens := s.ses.opens.filter (fun o => o.facet != f) } }
    forEach mine s (fun t n => t.setQp n { QpState.reset with lastStatus := (t.qp n).lastStatus })

/-- Every running request of a facet ends with a status; slots become IDLE, or FREE (R221, R223). -/
def endAll (s : State) (f st : Nat) (free : Bool) : State :=
  let s := forEach (s.kcs f).table.slots (s.dropSamples f) (fun t p =>
    let n := t.rf (Reg.SLOT_QP p) 17 0
    let t := if t.slotState p != 0 && (t.qp n).req.isSome then t.endRequest f n st else t
    let t := t.setSlot p { t.slot p with input := none, late := false }
    if free then (if t.slotState p = 0 then t else t.freeSlot f p)
    else if t.slotState p = 2 ∨ t.slotState p = 3 ∨ t.slotState p = 4 then t.settleSlot p n else t)
  s.notifyAll f

/-- Firmware stops a facet: its running requests end with STEP_FAULT (R221, R384, R445). -/
def faultStop (s : State) (f : Nat) : State := (s.endAll f 0x22 false).stopFacet f

/-- The facet's group has lost a member: at the next frame boundary its requests end with GROUP_LOST, its slots become
FREE, and it stops (R190, R223). A shut-down that is ordered stops the facet there as well (R413). -/
def loseGroup (s : State) (f : Nat) : State :=
  if (s.facet f).lost then
    let s := (s.endAll f 0x21 true).sesEvent f 0 7
    (s.setFacet f { s.facet f with lost := false }).stopFacet f
  else if s.sys.pwr.ordered then s.faultStop f
  else s

/-- The endpoint's checks on a packet that must carry a facet's tag (R31, R504): the facet, or a refusal. -/
def acceptAt (s : State) (p : Packet) (k : Nat → State) : State :=
  if !s.routeLocal p.dst.toNat then s
  else match s.epFacet (s.routeEp p.dst.toNat) with
    | none => match s.epKey (s.routeEp p.dst.toNat) with
      | some k => (match s.keyRegion k with
        | some r => if p.jobTag.toNat ≠ r.key.toNat then s.wrongKey k r p
            else s.refusePacket p (if wellFormedOp p then 0x10 else 0x06)
        | none => s)
      | none => s.refusePacket p 0x01
    | some f =>
      if p.jobTag.toNat ≠ s.jobTag f then s.refusePacket p 0x02
      else if !wellFormedOp p then s.refusePacket p 0x06
      else k f

/-- A doorbell of a queue pair outside the facet's range, or with bytes 4–63 non-zero (R201). -/
def bellBad (s : State) (f n : Nat) (body : Bytes) : Bool :=
  match s.session f with
  | none => true
  | some x => n < x.qbase || x.qbase + x.qn ≤ n || !allZero (body.drop 4)

/-- A doorbell's values wait at the queue pair for the boundary (R202). -/
def ringBell (s : State) (n : Nat) (body : Bytes) : State :=
  s.setQp n { s.qp n with bells := (s.qp n).bells ++ [(leAt body 0 2, leAt body 2 2)] }

/-- A doorbell or ring message is refused and logged (R201). -/
def refuseBell (s : State) (f n : Nat) (p : Packet) : State := (s.sesEvent f n 0).refusePacket p 0x06

/-- A doorbell or ring message reaches the endpoint; one without the facet's tag is logged as well (R201). -/
def acceptBell (s : State) (p : Packet) (k : Nat → State) : State :=
  match s.eidFacet p.dst.toNat with
  | some f =>
    let t := s.acceptAt p k
    if p.jobTag.toNat ≠ s.jobTag f then t.sesEvent f p.addr.toNat 0 else t
  | none => s.acceptAt p k

/-- DOORBELL at its endpoint (R201, R202). -/
def doorbellAt (s : State) (p : Packet) : State :=
  s.acceptBell p (fun f =>
    let n := p.addr.toNat
    if s.bellBad f n p.payload then s.refuseBell f n p else s.ringBell n p.payload)

/-- RING_MSG at its endpoint (R200): the descriptor goes to entry (RQ_TAIL − 1), then the doorbell is applied. -/
def ringMsgAt (s : State) (p : Packet) : State :=
  s.acceptBell p (fun f =>
    let n := p.addr.toNat
    let body := sub p.payload 0 64
    if s.bellBad f n body then s.refuseBell f n p
    else (s.unitWrite (s.ringEntry f n ((leAt body 0 2 + 65535) % 65536)) (sub p.payload 64 128)).ringBell n body)

/-- The key of the position that runs a logical cell (R69). -/
def keyOf (s : State) (r b i : Nat) : Nat :=
  let a := s.rf (Reg.BLK_MAP r b) 20 16
  (r * 8 + b) * 17 + (if i < a then i else i + 1)

/-- The work tick at which the start of a step or a NEXTF counts as issued (R60). -/
def frameOrigin (s : State) (f : Nat) : Nat := if (s.kcs f).schedule.multi then 16 * 248 else 0

end State

/-- Work times counted from the start of a step n ticks later; what is over by then is dropped. -/
def CellState.rebase (c : CellState) (n : Nat) : CellState :=
  let times (t : Tbl Nat) : Tbl Nat := (t.map (fun e => (e.1, e.2 - n))).filter (fun e => e.2 != 0)
  { c with busy := times c.busy, bankBusy := times c.bankBusy,
           inflight := (c.inflight.filter (fun x => n < x.ready)).map (fun x => { x with ready := x.ready - n, done := x.done - n }),
           uses := (c.uses.filter (fun x => n < x.until_)).map (fun x => { x with until_ := x.until_ - n }) }

namespace State

/-- The cells that run a program start at index 0, with scale slots and counters cleared (R60, R502). Units that the
step before left occupied stay so where this step follows it in the next frame (R57, R61). -/
def startCells (s : State) (f : Nat) (follows : Bool) : State :=
  forEach (s.kcs f).cells s (fun t x =>
    if x.prog = 0xFFFF then t
    else
      let k := t.keyOf x.region x.block x.cell
      let c := t.cell k
      if c.mode = .faulted then t
      else
        let o := t.frameOrigin f
        let c := if follows then c.rebase ((s.kcs f).schedule.stepFrames * 248 * (if t.regionPoint x.region = 1 then 2048 else 4096))
          else { c with busy := [], bankBusy := [], inflight := [], uses := [] }
        t.setCell k { c with sc := [], lc := [], pc := 0, mode := .running, frame := 0, last := o, fx := o, endSeen := false, pend := none })

end State

/-! The commands. -/

/-- DOORBELL (R201, R202): the endpoint's checks, then the values are kept for the next frame boundary. -/
def execDoorbell (p : Packet) (s : State) : Result := finish s (s.doorbellAt p)

/-- RING_MSG (R200). -/
def execRingMsg (p : Packet) (s : State) : Result := finish s (s.ringMsgAt p)

/-- SESSION_FRAME_BOUNDARY (R25, R190, R202, R204, R205, R225). -/
def execSessionFrameBoundary (f : Fin 64) (s : State) : Result := finish s ((s.loseGroup f.val).frameBoundary f.val)

/-- A descriptor of the opcodes that p names is read and acted on (R205). -/
def State.readAs (s : State) (f n : Nat) (d : Bytes) (p : Nat → Bool) (act : State → State) : State :=
  if s.mayRead f n d && p (dOpc d) then s.readDesc f n d act else s

/-- OPEN (R206): a slot, or a wait of up to ADMIT_WAIT frames. A reserved opcode breaks the table (R198). -/
def execOpenq (f : Fin 64) (qp : BitVec 18) (d : Bytes) (s : State) : Result :=
  finish s (s.readAs f.val qp.toNat d (fun o => o != 2 && o != 3 && o != 4) (fun t => t.actOpen f.val qp.toNat d))

/-- APPEND (R206). -/
def execAppend (f : Fin 64) (qp : BitVec 18) (d : Bytes) (s : State) : Result :=
  finish s (s.readAs f.val qp.toNat d (fun o => o == 2) (fun t => t.actAppend f.val qp.toNat d))

/-- CANCEL (R205, R206): read as soon as it is announced. -/
def execCancel (f : Fin 64) (qp : BitVec 18) (d : Bytes) (s : State) : Result :=
  finish s (s.readAs f.val qp.toNat d (fun o => o == 3) (fun t => t.actCancel f.val qp.toNat))

/-- CLOSE (R204, R206, R221). -/
def execClose (f : Fin 64) (qp : BitVec 18) (d : Bytes) (s : State) : Result :=
  finish s (s.readAs f.val qp.toNat d (fun o => o == 4) (fun t => t.actClose f.val qp.toNat d))

/-- NO_SLOT (R206): a waiting OPEN ends after ADMIT_WAIT frames. -/
def execNoSlot (qp : BitVec 18) (s : State) : Result := finish s (s.openExpires qp.toNat)

/-- STEP_BEGIN (R208, R209, R502): the step's inputs, its table, and every cell at instruction index 0. -/
def execStepBegin (f : Fin 64) (s : State) : Result :=
  let x := s.facet f.val
  finish s (if s.facetState f.val = 3 ∧ !x.inStep ∧ x.gapLeft = 0 ∧ !x.mismatch then
    let s := forEach (List.range (s.slotCount f.val)) s (fun t q => t.chooseInput f.val q)
    let s := (s.writeStepTable f.val).notifyAll f.val
    let x := s.facet f.val
    let s := s.setFacet f.val { x with inStep := true, frame := 0, void := false, endMarked := false }
    s.startCells f.val (x.frames == x.lastFrame + 1)
  else s)

/-- SAMPLE (R211 to R215, R217, R218). -/
def execSample (f : Fin 64) (slot : Fin 64) (onTime : Bool) (s : State) : Result :=
  finish s ((s.sampleSlot f.val slot.val onTime).notifyAll f.val)

/-- REPLY_BLOCKED (R217): after 65,536 frames in REPLY_WAIT the request ends. -/
def execReplyBlocked (qp : BitVec 18) (s : State) : Result :=
  let n := qp.toNat
  finish s (match s.qpFacet n, (s.qp n).slot with
    | some f, some p =>
      if s.slotState p = 4 ∧ 65536 ≤ (s.slot p).waited then (s.endRequest f n 0x17).settleSlot p n else s
    | _, _ => s)

/-- NOTIFY_FAIL (R219): the pair enters ERROR, its request ends, its slot closes. -/
def execNotifyFail (qp : BitVec 18) (s : State) : Result :=
  finish s (match s.qpFacet qp.toNat with
    | none => s
    | some f => s.notifyFails f qp.toNat)

/-- QP_RESET (R225): GO reads 1 until the reset at the next frame boundary; a pair of no facet is reset at
once. -/
def State.cmdQpReset (qp : BitVec 18) (s : State) : State :=
  let n := qp.toNat
  let t := (s.wf Reg.QP_RESET 17 0 n).wf Reg.QP_RESET 31 31 1
  (if (s.qpFacet n).isSome then t.setQp n { s.qp n with resetDue := true } else t.resetQp n)

/-- The command QpReset. -/
def execQpReset (qp : BitVec 18) (s : State) : Result := finish s (s.cmdQpReset qp)

/-- GROUP_LOST (R190, R223): the facet stops at its next frame boundary, where its running requests end. -/
def execGroupLost (f : Fin 64) (s : State) : Result :=
  finish s (if s.facetBound f.val ∧ (s.kcs f.val).group.isSome then s.setFacet f.val { s.facet f.val with lost := true } else s)

end Sys2Proof.Machine
end

