-- ==== Sys2Proof/Machine/MemStack.lean ====
section
/-! DEFINITION. Memory stacks (04): the address map, slices, corrected and uncorrectable errors, map-outs,
temperature bands and wear counters. -/
namespace Sys2Proof.Machine

/-! The address map (R102 to R105). -/

def stackOf (dpa : Nat) : Nat := sliceOf dpa % 20

/-- The granule number within the slice. -/
def granule (dpa : Nat) : Nat := nbits dpa 33 8

/-- The channel of an address. -/
def channelOf (dpa : Nat) : Nat :=
  let g := granule dpa
  nbits g 5 0 ^^^ nbits g 11 6 ^^^ nbits g 17 12 ^^^ nbits g 23 18 ^^^ nbits g 25 24

/-- The channel address A. -/
def channelAddr (dpa : Nat) : Nat := sliceOf dpa / 20 * 2 ^ 28 + granule dpa / 64 * 2 ^ 8 + dpa % 256

def layerOf (dpa : Nat) : Nat := nbits (channelAddr dpa) 31 27
def bankOf (dpa : Nat) : Nat := nbits (channelAddr dpa) 11 8

/-- The slice that holds logical layer l of stack m (R103, R105). -/
def sliceOfLayer (m l : Nat) : Nat := l / 2 * 20 + m

namespace State

def stackOn (s : State) (m : Nat) : Bool := bit (s.reg (Reg.MST_STAT m)) 3

/-! Physical layers (R111). USE: 0 active, 1 free spare, 2 bank pool, 3 retired. -/

def layerUse (s : State) (m p : Nat) : Nat := s.rf (Reg.LAYER_STAT m p) 9 8
def layersWith (s : State) (m u : Nat) : List Nat := (List.range 34).filter (fun p => s.layerUse m p == u)
def poolUsed (s : State) (m p : Nat) : Nat := s.rf (Reg.LAYER_STAT m p) 22 16

/-- The physical layer of logical layer l. -/
def physicalOf (s : State) (m l : Nat) : Option Nat :=
  (List.range 34).find? (fun p => s.layerUse m p == 0 && s.rf (Reg.LAYER_STAT m p) 4 0 == l)

/-- SPARES and REMAPS of MST_STAT follow the maps. -/
def showMaps (s : State) (m : Nat) : State :=
  (s.wf (Reg.MST_STAT m) 17 16 (s.layersWith m 1).length).wf (Reg.MST_STAT m) 24 18 (s.stack m).remaps.length

/-- The layer a map-out copies into (R113): for a bank the pool, or the highest free spare made the pool; for a
layer the lowest free spare, or the pool while it holds no entries. A full remap table leaves a bank no spare that it
may use (DESIGN CHOICE, log 49). -/
def spareFor (s : State) (m : Nat) (bank : Bool) : Option Nat :=
  let free := s.layersWith m 1
  let pool := s.layersWith m 2
  if bank then
    if 64 ≤ (s.stack m).remaps.length then none
    else match pool with
      | p :: _ => some p
      | [] => free.getLast?
  else match free with
    | p :: _ => some p
    | [] => pool.find? (fun p => s.poolUsed m p == 0)

/-- A slice enters RETIRED. -/
def retireOut (s : State) (n : Nat) : State :=
  let m := n % 20
  let s := s.setStack m { s.stack m with retiring := (s.stack m).retiring.filter (· != n) }
  ((s.setSlice n 4 0).nvQuiet (Reg.SLICE_STAT n)).raise (Reg.MST_EVT m) 3

/-- A slice that leaves BOUND enters the state given, or RETIRED where its retirement waits (R113). -/
def leaveSlice (s : State) (n st : Nat) : State :=
  if (s.stack (n % 20)).retiring.contains n then s.retireOut n else s.setSlice n st 0

/-- A slice is retired, and the facet that holds it stops (R113, R443). -/
def retireNow (s : State) (n : Nat) : State :=
  let f := s.sliceFacet n
  let held := s.sliceState n == 1
  let s := s.retireOut n
  if held then s.faultStop f else s

/-- A failing layer or bank without a usable spare retires its slice at the next frame boundary of the facet that holds
it; a slice that no running facet holds is retired at once (R113; log 49). -/
def retireSlice (s : State) (m l : Nat) : State :=
  let n := sliceOfLayer m l
  let st := s.facetState (s.sliceFacet n)
  if s.sliceState n = 1 ∧ (st = 3 ∨ st = 4) then
    s.setStack m { s.stack m with retiring := insertNat n (s.stack m).retiring }
  else s.retireNow n

/-- Slices of facet f that are to be retired enter RETIRED at its frame boundary (R113). -/
def retireDue (s : State) (f : Nat) : State :=
  forEach (s.memStacks.flatMap (fun e => e.2.retiring)) s (fun t n =>
    if t.sliceState n = 1 ∧ t.sliceFacet n = f then t.retireNow n else t)

/-- A map-out starts to copy, or its slice is retired. -/
def beginCopy (s : State) (m : Nat) (x : MapOut) : State :=
  match s.spareFor m x.bank.isSome with
  | none => s.retireSlice m x.layer
  | some p =>
    let s := if x.bank.isSome ∧ s.layerUse m p = 1 then (s.wf (Reg.LAYER_STAT m p) 9 8 2).showMaps m else s
    let s := (s.wf (Reg.LAYER_STAT m p) 10 10 1).wf (Reg.MST_STAT m) 4 4 1
    s.setStack m { s.stack m with copy := some { x with dst := p } }

/-- The first map-out that waits begins while none runs and the stack is on. -/
def startCopy (s : State) (m : Nat) : State :=
  let x := s.stack m
  match x.copy, x.waiting with
  | none, w :: t => if s.stackOn m then (s.setStack m { x with waiting := t }).beginCopy m w else s
  | _, _ => s

/-- The map-outs that wait run one after the other, in order of trigger; one that retires a slice runs no copy
(R113, R115). -/
def nextCopy (s : State) (m : Nat) : State := forEach (s.stack m).waiting s (fun t _ => t.startCopy m)

/-- Map-outs of a stack that run, wait, or are in force for banks of layer l. -/
def banksOut (s : State) (m l : Nat) : Nat :=
  let x := s.stack m
  (x.remaps.filter (fun e => e.1 == l)).length +
  ((x.copy.toList ++ x.waiting).filter (fun w => w.layer == l && w.bank.isSome)).length

/-- A trigger changes nothing where its map-out runs, waits or is in force, or where the slice is retired or about to
be. A bank that the pool serves already stays there (DESIGN CHOICE, log 49). -/
def outKnown (s : State) (m l : Nat) (b : Option (Nat × Nat)) : Bool :=
  let x := s.stack m
  let n := sliceOfLayer m l
  s.sliceState n == 4 || x.retiring.contains n ||
  (x.copy.toList ++ x.waiting).any (fun w => w.layer == l && (w.bank.isNone || w.bank == b)) ||
  (match b with
   | some y => x.remaps.contains (l, y.1, y.2)
   | none => false)

def askMapOut (s : State) (m l : Nat) (b : Option (Nat × Nat)) : State :=
  if s.outKnown m l b then s
  else
    let x := s.stack m
    (s.setStack m { x with waiting := x.waiting ++ [⟨l, b, 0⟩] }).nextCopy m

/-- A bank map-out of the bank that holds an address; a fifth bank of one layer takes the layer (R112). -/
def mapOutBank (s : State) (dpa : Nat) : State :=
  let m := stackOf dpa
  let l := layerOf dpa
  let b := (channelOf dpa, bankOf dpa)
  if s.outKnown m l (some b) then s
  else if 4 ≤ s.banksOut m l then s.askMapOut m l none
  else s.askMapOut m l (some b)

/-- A uncorrectable error is found in a bank group of a layer; a fault in 16 bank groups takes the layer (R112). -/
def groupFault (s : State) (dpa : Nat) : State :=
  let m := stackOf dpa
  let l := layerOf dpa
  let x := s.stack m
  let g := insertNat (l * 64 + channelOf dpa) x.badGroups
  let s := s.setStack m { x with badGroups := g }
  if 16 ≤ (g.filter (fun e => e / 64 == l)).length then s.askMapOut m l none else s

/-- An uncorrectable error is found in a 64 B unit: it is poisoned, and counts when it was not (R99, R100). -/
def foundUe (s : State) (u : Nat) : State :=
  if s.poison.contains u then s
  else
    let m := stackOf (u * 64)
    (((s.addPoison u).count (Reg.UE_COUNT m) 1).raise (Reg.MST_EVT m) 1).groupFault (u * 64)

end State

/-- The key of an address that a step has met bad: a block of a decode engine (R94), or a poisoned line of a cell's load
(R68). -/
def metKey (line : Bool) (a : Nat) : Nat := 2 * a + b2n line

namespace State

/-- An address met bad in the first step after a restart, and in the run before it (R68, R94). -/
def metBefore (s : State) (f a : Nat) : Bool := (s.facet f).badPrev.contains a

def meet (s : State) (f a : Nat) : State :=
  s.setFacet f { s.facet f with badAddrs := insertNat a (s.facet f).badAddrs }

end State

/-- Ticks of 24 hours. -/
def dayTicks : Nat := 24 * 3600 * 1800000000

def bankKey (dpa : Nat) : Nat := (layerOf dpa * 64 + channelOf dpa) * 16 + bankOf dpa

namespace State

/-- A corrected error counts in its bank; more than 256 within 24 h start a map-out, and the bank's count begins
afresh (R112). -/
def correctedAt (s : State) (dpa : Nat) : State :=
  let m := stackOf dpa
  let s := s.count (Reg.CE_COUNT m) 1
  let x := s.stack m
  let errs := s.dt :: (tget [] x.errors (bankKey dpa)).filter (fun t => s.dt < t + dayTicks)
  let many := 256 < errs.length
  let s := s.setStack m { x with errors := tset [] x.errors (bankKey dpa) (if many then [] else errs) }
  if many then (s.raise (Reg.MST_EVT m) 0).mapOutBank dpa else s

/-- A read of the 64 B units from an address on meets errors: a corrected one is counted, and one that is first found
uncorrectable poisons its unit (R99, R123). -/
def readFinds (s : State) (dpa : Nat) (found : List ScrubFound) : State :=
  forEach found.zipIdx s (fun t e =>
    let a := dpa / 64 * 64 + 64 * e.2
    if 320 ≤ sliceOf a || !t.stackOn (stackOf a) then t
    else match e.1 with
    | .clean => t
    | .corrected => t.correctedAt a
    | .uncorrectable => t.foundUe (a / 64))

/-- A scrub's uncorrectable error starts a bank map-out, unless its layer is taken (R112). -/
def scrubUe (s : State) (dpa : Nat) : State := (s.foundUe (dpa / 64)).mapOutBank dpa

/-- The map switches to the copy (R114). A layer map-out frees the layer's bank entries. -/
def switchMap (s : State) (m : Nat) : State :=
  let x := s.stack m
  match x.copy with
  | none => s
  | some c =>
    let d := Reg.LAYER_STAT m c.dst
    let s := ((s.wf d 10 10 0).wf (Reg.MST_STAT m) 4 4 0).raise (Reg.MST_EVT m) 2
    let s := match c.bank with
      | some b =>
        (s.addSat d 22 16 1).setStack m { x with copy := none, remaps := x.remaps ++ [(c.layer, b.1, b.2)] }
      | none =>
        let gone := (x.remaps.filter (fun (e : Nat × Nat × Nat) => e.1 == c.layer)).length
        let s := match s.physicalOf m c.layer with
          | some p => (s.wf (Reg.LAYER_STAT m p) 9 8 3).wf (Reg.LAYER_STAT m p) 4 0 0
          | none => s
        let s := forEach ((s.layersWith m 2).filter (fun p => p != c.dst)) s (fun t p =>
          t.wf (Reg.LAYER_STAT m p) 22 16 (t.poolUsed m p - gone))
        ((s.wf d 9 8 0).wf d 4 0 c.layer).setStack m { x with
          copy := none, remaps := x.remaps.filter (fun (e : Nat × Nat × Nat) => e.1 != c.layer)
          badGroups := x.badGroups.filter (fun g => g / 64 != c.layer) }
    s.showMaps m

/-- The bytes of a stack's maps in the non-volatile store: the layers' words, then the remapped banks in order. The
manual gives them no layout (DESIGN CHOICE, log 49). -/
def mapsBytes (s : State) (m : Nat) : Bytes :=
  (List.range 34).flatMap (fun p => leBytes 4 (s.reg (Reg.LAYER_STAT m p) &&& nvMask (Reg.LAYER_STAT m p)).toNat) ++
  (s.stack m).remaps.flatMap (fun e => [BitVec.ofNat 8 e.1, BitVec.ofNat 8 e.2.1, BitVec.ofNat 8 e.2.2])

/-- Firmware commits a stack's maps with their check word (R111, R114). -/
def commitMaps (s : State) (m : Nat) : State :=
  let s := forEach (List.range 34) (s.nvCommit (Reg.MST_STAT m)) (fun t p => t.nvCommit (Reg.LAYER_STAT m p))
  s.setStack m { s.stack m with commitDue := false, remapsNv := (s.stack m).remaps, mapsCrc := crc32c (s.mapsBytes m) }

/-- A reset of chip reach applies the maps in the non-volatile store: a switch that was not committed is lost, and a
copy under way is abandoned (R111, R115). The bank error counts and the bad bank groups go with it (DESIGN CHOICE, log 49). -/
def loadMaps (s : State) (m : Nat) : State :=
  let load (t : State) (a : Nat) : State := t.setReg a ((resetValue a &&& ~~~(nvMask a)) ||| tget (resetValue a &&& nvMask a) t.nv a)
  let s := forEach (List.range 34) s (fun t p => load t (Reg.LAYER_STAT m p))
  let x := s.stack m
  (s.setStack m { x with remaps := x.remapsNv, copy := none, waiting := [], badGroups := [], errors := [] }).showMaps m

/-- The commit falls due: below 39.0 V it waits (R115). -/
def dueCommit (s : State) (m : Nat) : State :=
  if s.inhibited then
    (s.setStack m { s.stack m with commitDue := true }).raise (Reg.MST_EVT m) 6
  else s.commitMaps m

/-- A slice is released: it enters CLEARING, and a copy of it stops with its map switched (R108, R115). -/
def releaseSlice (s : State) (n : Nat) : State :=
  let m := n % 20
  let s := match (s.stack m).copy with
    | some c => if sliceOfLayer m c.layer = n then ((s.switchMap m).dueCommit m).nextCopy m else s
    | none => s
  if s.sliceState n = 4 ∨ s.sliceState n = 3 then s else s.leaveSlice n 2

/-- Every byte of a slice reads zero, and none is poisoned. -/
def wipeSlice (s : State) (n : Nat) : State :=
  { s with mem := s.mem.filter (fun e => sliceOf e.1 != n), poison := s.poison.filter (fun u => sliceOf (u * 64) != n) }

/-- A cleared slice holds zeros, and no poison (R107, R108). -/
def freeSlice (s : State) (n : Nat) : State := (s.wipeSlice n).setSlice n 0 0

end State

/-! Home agents (R352 to R356). -/

/-- The home agent of an address: global channel div 8 (R104, R352). -/
def homeOf (dpa : Nat) : Nat := (stackOf dpa * 64 + channelOf dpa) / 8

def homeQueue : Nat := 512

def HomeState.empty : HomeState := ⟨[], []⟩

namespace State

def home (s : State) (h : Nat) : HomeState := tget HomeState.empty s.msf.homes h

/-- An agent's state, with HA_STAT showing its queue, its open merge entries and the peak (R368). -/
def setHome (s : State) (h : Nat) (x : HomeState) : State :=
  let a := Reg.HA_STAT h
  let s := { s with msf := { s.msf with homes := tset HomeState.empty s.msf.homes h x } }
  let n := x.queue.length
  ((s.wf a 9 0 n).wf a 21 14 x.merges.length).wf a 31 22 (max (s.rf a 31 22) n)

/-- The open merge entries of the stores to a stack are lost with its slices (R367). -/
def dropMerges (s : State) (m : Nat) : State :=
  forEach ((s.msf.homes.map (·.1)).filter (fun h => h / 8 == m)) s (fun t h =>
    t.setHome h { t.home h with merges := (t.home h).merges.filter (fun e => stackOf (e.line * 128) != m) })

/-- A stack's domain goes off: slices OFFLINE, contents lost, facets that hold one stopped at once, a copy in
progress abandoned (R115, R119). -/
def stackOff (s : State) (m : Nat) : State :=
  let mine := (List.range 16).map (fun j => j * 20 + m)
  let hit := mine.filter (fun n => s.sliceState n == 1) |>.map (fun n => s.sliceFacet n)
  let s := forEach mine s (fun t n =>
    let t := t.wipeSlice n
    if t.sliceState n = 4 then t else t.leaveSlice n 3)
  let s := match (s.stack m).copy with
    | some c => (s.wf (Reg.LAYER_STAT m c.dst) 10 10 0).setStack m { s.stack m with copy := none }
    | none => s
  let s := ((s.dropMerges m).wf (Reg.MST_STAT m) 4 4 0).wf (Reg.MST_STAT m) 3 3 0
  forEach ((List.range 64).filter (fun f => hit.contains f)) s (fun t f => t.faultStop f)

/-- A stack's domain comes on: its slices pass through CLEARING, map-outs that waited run, and a layer in which channel
training finds a fault is mapped out (R112, R115, R119, R416). -/
def stackUp (s : State) (m : Nat) (badLayers : List Nat) : State :=
  let s := forEach ((List.range 16).map (fun j => j * 20 + m)) (s.wf (Reg.MST_STAT m) 3 3 1) (fun t n =>
    if t.sliceState n = 4 then t else t.setSlice n 2 0)
  forEach badLayers (s.nextCopy m) (fun t l => t.askMapOut m l none)

/-! Temperature (R116, R117, R120 to R122). -/

/-- W, the weighted count. -/
def wearOf (s : State) (m : Nat) : Nat :=
  (s.reg (Reg.CYC40 m)).toNat + 2 * (s.reg (Reg.CYC60 m)).toNat + 4 * (s.reg (Reg.CYC80 m)).toNat

/-- One cycle of depth d m°C. -/
def countCycle (s : State) (m : Nat) (d : Int) : State :=
  let old := s.wearOf m
  let s := s.count (if d ≤ 60000 then Reg.CYC40 m else if d ≤ 80000 then Reg.CYC60 m else Reg.CYC80 m) 1
  if old < 12000 ∧ 12000 ≤ s.wearOf m then s.raise (Reg.MST_EVT m) 7 else s

/-- The counter's step for a sample t. -/
def wearSample (s : State) (m : Nat) (t : Int) : State :=
  let x := s.stack m
  if !x.falling then
    let low := min x.low t
    if 40000 < t - low then s.setStack m { x with low := low, high := t, falling := true }
    else s.setStack m { x with low := low }
  else
    let high := max x.high t
    if 40000 < high - t then (s.setStack m { x with high := high, low := t, falling := false }).countCycle m (high - x.low)
    else s.setStack m { x with high := high }

end State

/-- The band a stack in band b goes to at temperature t, in m°C (R116). -/
def nextBand (b : Nat) (t : Int) : Nat :=
  if b = 0 then (if 95000 ≤ t then 2 else if 85000 ≤ t then 1 else 0)
  else if b = 1 then (if 95000 ≤ t then 2 else if t < 80000 then 0 else 1)
  else if b = 2 then (if t < 90000 then 1 else 2)
  else b

/-- A temperature as registers show it: whole °C, 0 below 0 °C (R431). -/
def showTemp (t : Int) : Nat := min 255 (t / 1000).toNat

namespace State

/-- A band change falls due for the next device frame boundary; B1 is entered at once at 88 °C or on a rise of
more than 10 °C per ms: 100 m°C for each 10 µs, over up to ten samples (R117, R418). -/
def bandSample (s : State) (m : Nat) (hist : List Int) (t : Int) : State :=
  let a := Reg.MST_STAT m
  let b := s.rf a 1 0
  let n := nextBand b t
  if n = b then s
  else if b = 0 ∧ (88000 ≤ t ∨ 100 * (hist.length : Int) < t - (hist.getLast?).getD t) then
    ((s.wf a 1 0 1).raise (Reg.MST_EVT m) 4).setStack m { s.stack m with bandDue := if n = 2 then some 2 else none }
  else s.setStack m { s.stack m with bandDue := some n }

/-- The wear counters of a stack are written to the non-volatile store with their check word; a write below 39.0 V waits
for the supply (R121, R410). -/
def wearWrite (s : State) (m : Nat) : State :=
  let s := ((s.nvQuiet (Reg.CYC40 m)).nvQuiet (Reg.CYC60 m)).nvQuiet (Reg.CYC80 m)
  let b := [Reg.CYC40 m, Reg.CYC60 m, Reg.CYC80 m].flatMap (fun a => leBytes 4 (s.reg a).toNat)
  if s.inhibited then s else s.setStack m { s.stack m with wearCrc := crc32c b }

/-- One 10 µs sample of a stack's temperature: the band and the cycle counter (R116, R117, R120). -/
def stackSample (s : State) (m : Nat) (t : Int) : State :=
  let x := s.stack m
  let u := (s.setStack m { x with temp := t, hist := (t :: x.hist).take 10 }).wf (Reg.MST_STAT m) 15 8 (showTemp t)
  (u.bandSample m x.hist t).wearSample m t

end State

/-- SCRUB (R100, R112). -/
def execScrub (unit : BitVec 37) (found : ScrubFound) (s : State) : Result :=
  let dpa := unit.toNat * 64
  finish s (if sliceOf dpa < 320 ∧ s.stackOn (stackOf dpa) then
    match found with
    | .clean => s
    | .corrected => s.correctedAt dpa
    | .uncorrectable => s.scrubUe dpa
  else s)

/-- MAPOUT (R114, R115): the copy is complete; the map switches and is committed, and the next one starts. -/
def execMapout (m : Fin 20) (s : State) : Result :=
  finish s (if (s.stack m.val).copy.isSome then ((s.switchMap m.val).dueCommit m.val).nextCopy m.val else s)

/-- SLICE_FREE (R107 to R109). -/
def execSliceFree (n : Fin 320) (s : State) : Result :=
  finish s (if s.sliceState n.val = 2 then s.freeSlice n.val else s)

/-- BAND_CHANGE (R116, R117). Shut-down is latched. -/
def execBandChange (m : Fin 20) (s : State) : Result :=
  let x := s.stack m.val
  finish s (match x.bandDue with
    | some b => if s.rf (Reg.MST_STAT m.val) 1 0 = 3 then s else (s.wf (Reg.MST_STAT m.val) 1 0 b).setStack m.val { x with bandDue := none }
    | none => s)

/-- WEAR_COUNTER_WRITE (R121). -/
def execWearCounterWrite (s : State) : Result := finish s (forEach (List.range 20) s (fun t m => t.wearWrite m))

end Sys2Proof.Machine
end

