-- ==== Sys2Proof/Machine/Operands.lean ====
section
/-! DEFINITION. The operand forms of a cell: positions (R69), the cell store in 16-byte units, packed elements
(R39), accumulators, scale slots and loop counters, and what an early read gives (R37). -/
namespace Sys2Proof.Machine

/-- The physical position of logical cell i (R69): BLK_MAP.ACTIVE_POS is the bad one, 0x1F none. -/
def position (active i : Nat) : Nat := if i < active then i else i + 1

def State.posOf (s : State) (c : CellId) : Nat :=
  position (s.rf (Reg.BLK_MAP c.region.val c.block.val) 20 16) c.cell.val

/-- The key of a physical position. -/
def posKey (r b p : Nat) : Nat := (r * 8 + b) * 17 + p

def State.cellKey (s : State) (c : CellId) : Nat := posKey c.region.val c.block.val (s.posOf c)

def storeBytes : Nat := 163840

/-- A range of space sp is still being written at work time now (R37, R61). -/
def CellState.early (c : CellState) (sp lo hi now : Nat) : Bool :=
  c.inflight.any (fun f => f.space == sp && now < f.ready && f.lo < hi && lo < f.hi)

/-- Bytes of the store read at work time now; a byte whose write has not completed is a free value (log 11).
The second component is the counter of free values after the read. -/
def CellState.read (c : CellState) (now free a n : Nat) : Bytes × Nat :=
  if c.early 0 a (a + n) now then
    ((List.range n).map (fun i =>
      if c.early 0 (a + i) (a + i + 1) now then (Config.freeWord (free + i)).setWidth 8 else tget 0 c.store (a + i)),
     free + n)
  else ((List.range n).map (fun i => tget 0 c.store (a + i)), free)

/-- Elements of format code f packed in bytes (R38, R39). -/
def unpack (f : Nat) (b : Bytes) : List Nat :=
  if widthOf f = 4 then b.flatMap (fun x => [x.toNat % 16, x.toNat / 16])
  else
    let w := widthOf f / 8
    (List.range (b.length / w)).map (fun i => leAt b (w * i) w)

def packNibbles : List Nat → Bytes
  | a :: b :: t => BitVec.ofNat 8 (a % 16 + 16 * (b % 16)) :: packNibbles t
  | [a] => [BitVec.ofNat 8 (a % 16)]
  | [] => []

/-- Elements packed into bytes (R39). -/
def pack (f : Nat) (l : List Nat) : Bytes :=
  if widthOf f = 4 then packNibbles l else l.flatMap (fun x => leBytes (widthOf f / 8) x)

/-- The bytes that n elements of a format take. -/
def span (f n : Nat) : Nat := n * widthOf f / 8

/-- Accumulator element (i, j) of bank b, by key b × 1024 + 32 i + j; early reads are free values (log 11). -/
def CellState.readAcc (c : CellState) (now free k : Nat) : Nat :=
  if c.early 1 k (k + 1) now then (Config.freeWord (free + k)).toNat else (tget 0 c.acc k).toNat

/-- The 1,024 elements of a bank and the free counter after. -/
def CellState.readBank (c : CellState) (now free b : Nat) : List Nat × Nat :=
  ((List.range 1024).map (fun i => c.readAcc now free (b * 1024 + i)),
   if c.early 1 (b * 1024) (b * 1024 + 1024) now then free + 2048 else free)

/-- A table whose keys k, k + 1, … hold the values of a list. -/
def fillWords : Tbl Word → Nat → List Nat → Tbl Word
  | t, _, [] => t
  | t, k, v :: r => fillWords (tset 0 t k (BitVec.ofNat 32 v)) (k + 1) r

/-- A bank's elements replaced. -/
def CellState.setBank (c : CellState) (b : Nat) (l : List Nat) : CellState :=
  { c with acc := fillWords (tclear (b * 1024) (b * 1024 + 1024) c.acc) (b * 1024) l }

def CellState.accInt (c : CellState) (b : Bool) : Bool := if b then c.accInt1 else c.accInt0
def CellState.setAccInt (c : CellState) (b v : Bool) : CellState :=
  if b then { c with accInt1 := v } else { c with accInt0 := v }

/-- Scale slot k, a free value while its SRLD has not completed (log 11). -/
def CellState.readScale (c : CellState) (now free k : Nat) : Nat × Nat :=
  if c.early 2 k (k + 1) now then ((Config.freeWord free).toNat, free + 1) else ((tget 0 c.sc k).toNat, free)

/-- Group size and cycles of an MMA pairing (R45, R61): G, the occupancy of n k-steps, and the latency. -/
def pairing (fa fb : Nat) : Option (Nat × (Nat → Nat) × Nat) :=
  if fa = 4 ∧ fb = 4 then some (8, fun n => n / 2, 12)
  else if (fa = 2 ∨ fa = 3 ∨ fa = 4) ∧ (fb = 2 ∨ fb = 3 ∨ fb = 4) then some (4, fun n => n, 10)
  else if fa = 5 ∧ fb = 5 then some (4, fun n => n, 10)
  else if fa = 1 ∧ fb = 1 then some (1, fun n => 4 * n, 14)
  else none

/-- Consecutive pieces of n. -/
def chunks {α : Type} : Nat → Nat → List α → List (List α)
  | 0, _, _ => []
  | k + 1, n, l => l.take n :: chunks k n (l.drop n)

/-- One element of an FP accumulator through the groups of its products (R46). -/
def accGroups : List (List (FVal × Bool)) → Nat → Flags → Nat × Flags
  | [], acc, f => (acc, f)
  | g :: t, acc, f => let r := accAdd acc (groupSum g); accGroups t r.1 (f.or r.2)

/-- One element of an INT accumulator (R47). -/
def accGroupsInt : List (List Int) → Nat → Flags → Nat × Flags
  | [], acc, f => (acc, f)
  | g :: t, acc, f => let r := accAddInt acc (g.foldl (· + ·) 0); accGroupsInt t r.1 (f.or r.2)

/-- One element of an MMA: columns a[k], b[k] of encodings, groups of G, from acc (R36, R45 to R48). -/
def mmaElem (fa fb g : Nat) (a b : List Nat) (acc : Nat) : Nat × Flags :=
  let n := a.length / g
  if fa = 5 then accGroupsInt (chunks n g ((a.zip b).map (fun p => sInt 8 p.1 * sInt 8 p.2))) acc Flags.none
  else
    accGroups (chunks n g ((a.zip b).map (fun p => mulV (decodeF fa p.1) (decodeF fb p.2)))) acc Flags.none

/-- The encodings of element i of every k-step, from 32-element vectors (R36). -/
def column (l : List Nat) (i k : Nat) : List Nat := (List.range k).map (fun n => l.getD (32 * n + i) 0)

/-- All 1,024 elements of an MMA over k k-steps, from the bank's elements. -/
def mmaAll (fa fb g k : Nat) (a b acc : List Nat) : List (Nat × Flags) :=
  (List.range 1024).map (fun e => mmaElem fa fb g (column a (e / 32) k) (column b (e % 32) k) (acc.getD e 0))

/-- MMAS on one element (R49): acc ← RNE(acc + RNE(T × s)). -/
def scaleElem (t : Nat × Flags) (sc acc : Nat) : Nat × Flags :=
  let p := fmul t.1 sc
  let r := fadd acc p.1
  (r.1, (t.2.or p.2).or r.2)

/-- A vector instruction's operand of n lanes of FP32. -/
def lanes (b : Bytes) : List Nat := unpack 0 b

end Sys2Proof.Machine
end

