-- ==== Sys2Proof/Machine/Cell.lean ====
section
/-! DEFINITION. The cell's instructions (02): issue and its checks, faults and isolation, and one meaning per
opcode. -/
namespace Sys2Proof

/-- TICK and BEAT as a work tick of the frame (R57). -/
def CellIns.workTick (i : CellIns) : Nat := i.beat.toNat * 248 + i.tick.toNat

/-- Addresses of an instruction in bytes (R56). -/
def CellIns.dstA (i : CellIns) : Nat := 16 * i.dst.toNat
def CellIns.aA (i : CellIns) : Nat := 16 * i.sa.toNat
def CellIns.bA (i : CellIns) : Nat := 16 * i.sb.toNat
def CellIns.n (i : CellIns) : Nat := i.cnt.toNat
def CellIns.bankN (i : CellIns) : Nat := if i.bank then 1 else 0

end Sys2Proof

namespace Sys2Proof.Machine

/-! Faults of a cell (R65 to R68). -/

/-- Hardware causes retire a position (R65). -/
def hardwareCause (cause : Nat) : Bool := cause == 1 || cause == 2 || cause == 3 || cause == 8

namespace State

/-- The cell at physical position p of block b in region r records a cause, stops and is isolated; the block
asks for a reset; the facet's step in flight is void (R65, R66, R72, R76). -/
def cellFault (s : State) (r b p cause : Nat) : State :=
  let a := Reg.CELL_STAT r b p
  let k := posKey r b p
  let s := (s.wf a 11 8 cause).wf a 0 0 1
  let s := s.setCell k { s.cell k with mode := .faulted, pend := none }
  let s := s.count Reg.LOC_CELL 1
  let x := s.block (8 * r + b)
  let hw := hardwareCause cause
  let s := s.setBlock (8 * r + b) { x with needReset := true, bad := if hw then insertNat p x.bad else x.bad }
  let s := if hw then s else s.raise (Reg.BLK_EVT r b) 3
  let s := if cause = 8 then s.raise (Reg.BLK_EVT r b) 2 else s
  if s.regionBound r then s.voidStep (s.regionFacet r) hw else s

end State

/-- What one opcode needs (R34, R58, R59, R61): its formats, whether it uses CNT, its unit (0 MAC array, 1 drain,
2 vector, 3 move, 4 sequencer), occupancy and latency in cycles, the store ranges it reads and writes, whether
its result passes a residue check, a condition on the cell, and the accumulators and scale slots it writes, as ranges of
their spaces. -/
structure OpSpec where
  formats : Bool
  count : Bool
  unit : Nat
  occ : Nat
  lat : Nat
  reads : List (Nat × Nat)
  writes : List (Nat × Nat)
  datapath : Bool
  fits : Bool
  late : List (Nat × Nat × Nat)
  deriving DecidableEq, Repr

/-- Work ticks of a frame: 2,048 local beats at HALF, else 4,096 (R147). -/
def State.frameTicks (s : State) (r : Nat) : Nat := 248 * (if s.regionPoint r = 1 then 2048 else 4096)

/-- The instruction breaks R58: a field, a reserved bit, TICK, CNT, an extent, or a fit that the opcode asks. -/
def illegal (sp : OpSpec) (timed : Bool) (i : CellIns) : Bool :=
  !sp.formats || i.r104 || i.r36 != 0 || (timed && 247 < i.tick.toNat) || (sp.count && i.cnt == 0) || !sp.fits ||
  (sp.reads ++ sp.writes).any (fun r => storeBytes < r.1 + r.2)

/-- The unit or the accumulator bank is occupied at work time t, or t is not later than the predecessor (R37,
R57, R60). bank: the bank used and whether by the MAC array. -/
def clash (c : CellState) (sp : OpSpec) (bank : Option Nat) (t : Nat) : Bool :=
  t ≤ c.last || (sp.unit < 4 && t < tget 0 c.busy sp.unit) ||
  (match bank with
   | none => false
   | some b => if sp.unit = 0 then t < tget 0 c.bankBusy (2 + b) else t < tget 0 c.bankBusy b)

/-- What an instruction does to its cell: from the cell at its issue, the work time and the free counter, the
cell after, its flags and the counter after. -/
abbrev CellEffect := CellState → Nat → Nat → CellState × Flags × Nat

/-- A region stalls, holds, or waits for the device beat at which its next beat begins after slips: it issues nothing
and its slots stay empty (R136, R138). -/
def State.frozenRegion (s : State) (r : Nat) : Bool :=
  s.rf (Reg.REG_STAT r) 19 18 != 0 || s.beat < (s.region r).holdUntil

/-- The cell is issuing: it runs, its region neither stalls nor holds (R136, R138). -/
def State.issuing (s : State) (c : CellId) : Bool :=
  (s.cell (s.cellKey c)).mode == .running && !s.frozenRegion c.region.val &&
  !bit (s.reg (Reg.BLK_MAP c.region.val c.block.val)) 24

/-- LOOP, NEXTF and END ignore TICK and BEAT (R60). -/
def timedOp (o : CellOp) : Bool := !(o == .loop || o == .nextf || o == .endp)

/-- The instruction that the cell fetches (R56, R64): its program ends in unit 10,239. none: a reserved opcode. -/
def CellState.fetched (x : CellState) : Option (CellOp × CellIns) :=
  let a := 16 * (10240 - x.progLen + x.pc)
  decodeCell (BitVec.ofNat 128 (leNat ((List.range 16).map (fun n => tget 0 x.store (a + n)))))

/-- The format codes that an instruction uses. -/
def formatsUsed (o : CellOp) (i : CellIns) : List Nat :=
  match o with
  | .mma | .mmas => [i.fa.toNat, i.fb.toNat, i.fd.toNat]
  | .aclr | .ast => [i.fd.toNat]
  | .ald => [i.fa.toNat]
  | .vcvt => [i.fa.toNat, i.fd.toNat]
  | .vadd | .vsub | .vmul | .vfma | .vmax | .vmin | .vexp2 | .vlog2 | .vrcp | .vrsq | .vrsum | .vrmax | .srld => [0]
  | _ => []

/-- The die of region r has the opcode and the formats (R73, R286): region r lies on die r div 8. -/
def State.dieHas (s : State) (r : Nat) (o : CellOp) (i : CellIns) : Bool :=
  bit (s.reg (Reg.CAPD (r / 8) (o.code / 32))) (o.code % 32) &&
  (formatsUsed o i).all (fun f => bit (s.reg (Reg.CAPD (r / 8) 2)) f)

/-! Bank contention (R62). -/

/-- The banks of the store that cycle k of n serves to a range, of which each cycle takes an equal part (log 10): 64 B at
address a lie in bank (a div 64) mod 10. -/
def rangeBanks (a len n k : Nat) : List Nat :=
  let lo := a + len * k / n
  let hi := a + len * (k + 1) / n
  if hi ≤ lo then [] else (List.range ((hi - 1) / 64 + 1 - lo / 64)).map (fun j => (lo / 64 + j) % 10)

/-- The banks that an instruction accesses at work time t: its accesses fill the last cycles of its occupancy. -/
def UnitUse.banksAt (x : UnitUse) (t : Nat) : List Nat :=
  if t < x.until_ && x.until_ ≤ t + x.occ then x.ranges.flatMap (fun r => rangeBanks r.1 r.2 x.occ (x.occ - (x.until_ - t)))
  else []

/-- Cycles that x loses at work time t: one for each access granted ahead of it in its bank, for the access that loses
most. -/
def UnitUse.lostAt (x : UnitUse) (ahead : List UnitUse) (t : Nat) : Nat :=
  let taken := ahead.flatMap (fun y => y.banksAt t)
  maxNat ((x.banksAt t).map (fun b => taken.count b))

/-- Cycles that x loses from work time t on. -/
def UnitUse.lost (x : UnitUse) (ahead : List UnitUse) (t : Nat) : Nat :=
  sumNat ((List.range (x.until_ - t)).map (fun k => x.lostAt ahead (t + k)))

/-- What an instruction takes of its unit when it issues at work time t, undelayed. -/
def OpSpec.use (sp : OpSpec) (t : Nat) : UnitUse :=
  ⟨sp.unit, t + sp.occ, sp.occ, (sp.reads ++ sp.writes).filter (fun r => r.2 != 0)⟩

/-- The cycles by which the units granted ahead of its own delay an instruction that issues at work time t: MAC array,
drain, vector unit, move unit, in this order (R62). -/
def OpSpec.delay (sp : OpSpec) (c : CellState) (t : Nat) : Nat :=
  (sp.use t).lost (c.uses.filter (fun y => y.unit < sp.unit)) t

/-- The instruction u ends n cycles later, and so do its unit, its bank, its results and its transfer. -/
def CellState.pushBack (c : CellState) (u : UnitUse) (n : Nat) : CellState :=
  if n = 0 then c else
  { c with
    uses := c.uses.map (fun v => if v == u then { v with until_ := v.until_ + n } else v)
    busy := tset 0 c.busy u.unit (u.until_ + n)
    bankBusy := if u.unit = 1 then c.bankBusy.map (fun e => if 2 ≤ e.1 && e.2 == u.until_ then (e.1, e.2 + n) else e) else c.bankBusy
    inflight := c.inflight.map (fun f =>
      if f.unit == u.unit && f.done == u.until_ then { f with done := f.done + n, ready := f.ready + n } else f)
    pend := c.pend.map (fun p => if u.unit == 3 && p.issue + p.total == u.until_ then { p with issue := p.issue + n } else p) }

/-- The instructions of the units behind that of me yield to its accesses from work time t on (R62). -/
def CellState.yield (c : CellState) (me : UnitUse) (t : Nat) : CellState :=
  c.uses.foldl (fun y u => if me.unit < u.unit then y.pushBack u (u.lost [me] t) else y) c

/-- The flits that a transfer has moved, and those that it needs by work time t, one in each cycle from its issue on
(R61, R136). -/
def Xfer.moved (x : Xfer) : Nat := x.total - x.left
def Xfer.needed (x : Xfer) (t : Nat) : Nat := min x.total (t - x.issue)

/-- The flits that the cell's last LD or ST must have moved by work time t and has not. -/
def CellState.owed (x : CellState) (t : Nat) : Option Nat :=
  match x.pend with
  | some q => if q.moved < q.needed t then some (q.needed t) else none
  | none => none

/-! Stalls of a region (R128, R133, R136). -/

/-- The endpoint code of a cell's port queue (R235). -/
def queueCode (r b l q : Nat) : Nat := r * 2 ^ 26 + b * 2 ^ 8 + l * 2 ^ 4 + q

/-- A cell entry of the stream names the cell. The port queues of a cell that none names are bound to no route (R237). -/
def Kcs.names (k : Kcs) (c : CellId) : Bool :=
  k.cells.any (fun x => x.region == c.region.val && x.block == c.block.val && x.cell == c.cell.val)

/-- The route of the cell's facet that port queue q is bound to, as its sink (load) or its source (R128). -/
def State.portRoute (s : State) (c : CellId) (q : Nat) (load : Bool) : Option RouteRec :=
  let k := s.kcs (s.regionFacet c.region.val)
  if s.regionBound c.region.val && k.names c then
    k.routes.find? (fun r => (if load then r.sink else r.src) == queueCode c.region.val c.block.val c.cell.val q)
  else none

/-- The region stalls (R136): issue, cells, rows and routers freeze. -/
def State.stallRegion (s : State) (r : Nat) (why : Stall) : State :=
  let x := s.region r
  (s.setRegion r { x with stalls := if x.stalls.contains why then x.stalls else x.stalls ++ [why] }).wf (Reg.REG_STAT r) 19 19 1

/-- The cell waits in its LD or ST until need flits have moved, and its region stalls; one that has issued NEXTF or END
since waits for that still (R60). A bounded flit that an LD lacks is late (R133, R136). -/
def State.stallCell (s : State) (c : CellId) (need : Nat) : State :=
  let k := s.cellKey c
  let x := s.cell k
  match x.pend with
  | none => s
  | some t =>
    let late := t.load && (match s.portRoute c t.queue true with
      | some r => r.mode % 2 == 1
      | none => false)
    let mode := if x.mode = .running then .stalled else x.mode
    let s := (s.setCell k { x with mode := mode, pend := some { t with need := need } }).stallRegion c.region.val
      (if t.load then .load c else .store c)
    if late then s.raise (Reg.REG_EVT c.region.val) 4 else s

/-- Corrected single-bit errors count (R63). -/
def State.countCe (s : State) (c : CellId) (n : Nat) : State :=
  s.addSat (Reg.CELL_STAT c.region.val c.block.val (s.posOf c)) 23 16 n

/-- The work time of an instruction: its frame's start and its TICK and BEAT (R57); LOOP, NEXTF and END take
effect one cycle after their predecessor (R60). -/
def State.issueTime (s : State) (c : CellId) (i : CellIns) (timed : Bool) : Nat :=
  let x := s.cell (s.cellKey c)
  if timed then x.frame * s.frameTicks c.region.val + i.workTick else x.fx + 1

/-- The cell after an instruction's own effect y on x at work time t: the program goes on, the unit and the bank are
occupied, the units behind yield the store, and the ranges written are in flight (R37, R57, R60 to R62). -/
def CellState.issued (y x : CellState) (sp : OpSpec) (timed : Bool) (bank : Option Nat) (t : Nat) : CellState :=
  let until_ := t + sp.delay x t + sp.occ
  let me := { sp.use t with until_ := until_ }
  let live := (sp.writes.filter (fun w => w.2 != 0)).map (fun w => (0, w.1, w.1 + w.2)) ++ sp.late
  let y := y.yield me t
  { y with
    pc := if timed then x.pc + 1 else y.pc
    last := if timed then t else y.last
    fx := if timed then t else y.fx
    busy := if sp.unit < 4 then tset 0 y.busy sp.unit until_ else y.busy
    bankBusy := (match bank with
      | none => y.bankBusy
      | some q => tset 0 y.bankBusy (if sp.unit = 0 then q else 2 + q) until_)
    uses := (if sp.unit < 4 then [me] else []) ++ y.uses.filter (fun u => t < u.until_ && u.unit != sp.unit)
    inflight := live.map (fun w => InFlight.mk w.1 w.2.1 w.2.2 sp.unit until_ (until_ + sp.lat)) ++
      y.inflight.filter (fun f => t < f.ready) }

/-- The cell with the flags w set in the register clock now (R55, R76). -/
def CellState.flagged (y : CellState) (w : Word) (now : Nat) : CellState :=
  if w = 0 then y else { y with flagAt := now, flagNew := (if y.flagAt = now then y.flagNew else 0) ||| w }

/-- The register clock (R470): one every 18 device ticks. -/
def State.regClock (s : State) : Nat := s.dt / 18

/-- The checks common to every instruction and, when all pass, its effect, the occupancy of its unit and bank,
and the flags of R55. The instruction runs only where the cell's next program word spells it (R4); a reserved opcode is
ILL (R58). After a fetch parity error come ILL, SCHED, the uncorrectable store error and the residue check, in this
order (DEDUCED, log 17). An LD or ST that has not moved what it should by now stalls the region first (R136). -/
def runCell (o : CellOp) (c : CellId) (i : CellIns) (e : CellEnv) (sp : OpSpec) (bank : Option Nat)
    (eff : CellEffect) (s : State) : State :=
  if !s.issuing c then s
  else
    let r := c.region.val
    let b := c.block.val
    let p := s.posOf c
    let k := s.cellKey c
    let x := s.cell k
    let t := s.issueTime c i (timedOp o)
    if e.ipar then s.cellFault r b p 3
    else if x.progLen ≤ x.pc then s.cellFault r b p 4
    else match x.fetched with
    | none => s.cellFault r b p 4
    | some w =>
      if w != (o, i) then s
      else match x.owed t with
      | some n => s.stallCell c n
      | none =>
        if illegal sp (timedOp o) i || !s.dieHas r o i then s.cellFault r b p 4
        else if timedOp o && clash x sp bank t then s.cellFault r b p 5
        else
          let s := s.countCe c e.ce
          if e.storeUe then s.cellFault r b p 1
          else if e.residue && sp.datapath then s.cellFault r b p 2
          else
            let z := eff x t s.free
            let y := (z.1.issued x sp (timedOp o) bank t).flagged z.2.1.word s.regClock
            let s := s.setCell k y
            let a := Reg.CELL_STAT r b p
            let s := s.setReg a (s.reg a ||| z.2.1.word)
            s.useFree (z.2.2 - s.free)

/-- A bank of accumulators, written with the latency of its instruction (R61). -/
def lateBank (i : CellIns) : List (Nat × Nat × Nat) := [(1, i.bankN * 1024, i.bankN * 1024 + 1024)]

def noFormats (i : CellIns) : Bool := i.fa == 0 && i.fb == 0 && i.fd == 0

/-! MAC array (R36, R45 to R50). -/

/-- MMA and MMAS: the pairing's group size, occupancy and latency; the operands read, 32 elements per k-step. -/
def mmaSpec (c : CellState) (i : CellIns) (scaled : Bool) : OpSpec :=
  let fa := i.fa.toNat
  let fb := i.fb.toNat
  let int := fa == 5
  match pairing fa fb with
  | none => ⟨false, true, 0, 0, 0, [], [], true, false, []⟩
  | some (g, occ, lat) =>
    let fdOk := if scaled then i.fd == 0 && !int else if int then i.fd == 6 else i.fd == 0
    ⟨fdOk, true, 0, occ i.n, if scaled then lat + 4 else lat,
     [(i.aA, span fa (32 * i.n)), (i.bA, span fb (32 * i.n))], [], true,
     i.n % g == 0 && (i.clr || c.accInt i.bank == int), lateBank i⟩

/-- The new elements of a bank (R46 to R49). -/
def mmaEffect (i : CellIns) (scaled : Bool) : CellEffect := fun c t free =>
  let fa := i.fa.toNat
  let fb := i.fb.toNat
  match pairing fa fb with
  | none => (c, Flags.none, free)
  | some (g, _, _) =>
    let a := c.read t free i.aA (span fa (32 * i.n))
    let b := c.read t a.2 i.bA (span fb (32 * i.n))
    let old := if i.clr then (List.replicate 1024 0, b.2) else c.readBank t b.2 i.bankN
    let sc := if scaled then c.readScale t old.2 i.sel.toNat else (0, old.2)
    let ea := unpack fa a.1
    let eb := unpack fb b.1
    let res :=
      if scaled then
        (mmaAll fa fb g i.n ea eb (List.replicate 1024 0)).zip old.1 |>.map (fun z => scaleElem z.1 sc.1 z.2)
      else mmaAll fa fb g i.n ea eb old.1
    let out := gather res
    ((c.setBank i.bankN out.1).setAccInt i.bank (if i.clr then fa == 5 else c.accInt i.bank), out.2, sc.2)

/-- MMA (R45 to R48, R50). -/
def execMma (c : CellId) (i : CellIns) (e : CellEnv) (s : State) : Result :=
  let sp := mmaSpec (s.cell (s.cellKey c)) i false
  finish s (runCell .mma c i e sp (some i.bankN) (mmaEffect i false) s)

/-- MMAS (R49). -/
def execMmas (c : CellId) (i : CellIns) (e : CellEnv) (s : State) : Result :=
  let sp := mmaSpec (s.cell (s.cellKey c)) i true
  finish s (runCell .mmas c i e sp (some i.bankN) (mmaEffect i true) s)

/-! Drain (R50, R59). -/

/-- What ACLR needs. -/
def aclrSpec (i : CellIns) : OpSpec :=
  ⟨i.fa == 0 && i.fb == 0 && (i.fd == 0 || i.fd == 6), false, 1, 1, 1, [], [], false, true, lateBank i⟩

/-- ACLR: the bank starts at zero with the type of FD (R50). -/
def execAclr (c : CellId) (i : CellIns) (e : CellEnv) (s : State) : Result :=
  finish s (runCell .aclr c i e (aclrSpec i) (some i.bankN) (fun x _ free =>
    ((x.setBank i.bankN []).setAccInt i.bank (i.fd == 6), Flags.none, free)) s)

/-- What ALD needs. -/
def aldSpec (i : CellIns) : OpSpec :=
  ⟨(i.fa == 0 || i.fa == 6) && i.fb == 0 && i.fd == 0, false, 1, 64, 4, [(i.aA, 4096)], [], false, true, lateBank i⟩

/-- ALD: 4 KiB at SA into the bank (R50, R59). -/
def execAld (c : CellId) (i : CellIns) (e : CellEnv) (s : State) : Result :=
  finish s (runCell .ald c i e (aldSpec i) (some i.bankN) (fun x t free =>
    let b := x.read t free i.aA 4096
    ((x.setBank i.bankN (unpack 0 b.1)).setAccInt i.bank (i.fa == 6), Flags.none, b.2)) s)

/-- Occupancy of an AST (R61). -/
def astOcc (fd : Nat) : Nat := if fd = 0 ∨ fd = 6 then 64 else if fd = 1 then 32 else if fd = 4 then 8 else 16

/-- What AST needs on a bank of type INT or FP. -/
def astSpec (int : Bool) (i : CellIns) : OpSpec :=
  let fd := i.fd.toNat
  ⟨i.fa == 0 && i.fb == 0 && fd ≤ 6, false, 1, astOcc fd, 6, [], [(i.dstA, span fd 1024)], false,
   if int then fd == 6 || fd == 5 else fd ≤ 5, []⟩

/-- AST: the bank's 32 rows in format FD from DST (R42, R43, R50, R59). -/
def execAst (c : CellId) (i : CellIns) (e : CellEnv) (s : State) : Result :=
  let int := (s.cell (s.cellKey c)).accInt i.bank
  let fd := i.fd.toNat
  finish s (runCell .ast c i e (astSpec int i) (some i.bankN) (fun x t free =>
    let a := x.readBank t free i.bankN
    let out := gather (a.1.map (convert (if int then 6 else 0) fd (i.imm.toNat % 32) i.sat))
    ({ x with store := putBytes x.store i.dstA (pack fd out.1) }, out.2, a.2)) s)

/-! Vector unit (R51 to R54). -/

/-- Two-operand and one-operand vector instructions: CNT vectors of 64 FP32 elements (R51). -/
def vecSpec (i : CellIns) (occ lat : Nat) (useB : Bool) (out : Nat) : OpSpec :=
  ⟨noFormats i, true, 2, occ, lat, (i.aA, 256 * i.n) :: (if useB then [(i.bA, 256 * i.n)] else []),
   [(i.dstA, out)], true, true, []⟩

/-- d ← f a b d lane by lane. -/
def vecEffect (i : CellIns) (f : Nat → Nat → Nat → Nat × Flags) (useB useD : Bool) : CellEffect := fun x t free =>
  let n := 256 * i.n
  let a := x.read t free i.aA n
  let b := if useB then x.read t a.2 i.bA n else ([], a.2)
  let d := if useD then x.read t b.2 i.dstA n else ([], b.2)
  let la := lanes a.1
  let lb := lanes b.1
  let ld := lanes d.1
  let out := gather ((List.range la.length).map (fun j => f (la.getD j 0) (lb.getD j 0) (ld.getD j 0)))
  ({ x with store := putBytes x.store i.dstA (pack 0 out.1) }, out.2, d.2)

def runVec (o : CellOp) (c : CellId) (i : CellIns) (e : CellEnv) (s : State) (occ lat : Nat) (useB useD : Bool)
    (f : Nat → Nat → Nat → Nat × Flags) : Result :=
  finish s (runCell o c i e (vecSpec i occ lat useB (256 * i.n)) none (vecEffect i f useB useD) s)

/-- VADD: d ← a + b (R51). -/
def execVadd (c : CellId) (i : CellIns) (e : CellEnv) (s : State) : Result :=
  runVec .vadd c i e s i.n 6 true false (fun a b _ => fadd a b)

/-- VSUB: d ← a − b (R51). -/
def execVsub (c : CellId) (i : CellIns) (e : CellEnv) (s : State) : Result :=
  runVec .vsub c i e s i.n 6 true false (fun a b _ => fsub a b)

/-- VMUL: d ← a × b (R51). -/
def execVmul (c : CellId) (i : CellIns) (e : CellEnv) (s : State) : Result :=
  runVec .vmul c i e s i.n 6 true false (fun a b _ => fmul a b)

/-- VFMA: d ← a × b + d with one rounding (R51). -/
def execVfma (c : CellId) (i : CellIns) (e : CellEnv) (s : State) : Result :=
  runVec .vfma c i e s i.n 6 true true (fun a b d => ffma a b d)

/-- VMAX (R51). -/
def execVmax (c : CellId) (i : CellIns) (e : CellEnv) (s : State) : Result :=
  runVec .vmax c i e s i.n 6 true false (fun a b _ => fmax a b)

/-- VMIN (R51). -/
def execVmin (c : CellId) (i : CellIns) (e : CellEnv) (s : State) : Result :=
  runVec .vmin c i e s i.n 6 true false (fun a b _ => fmin a b)

/-- VEXP2: d ← 2^a (R52). -/
def execVexp2 (c : CellId) (i : CellIns) (e : CellEnv) (s : State) : Result :=
  runVec .vexp2 c i e s (4 * i.n) 20 false false (fun a _ _ => fexp2 a)

/-- VLOG2: d ← log₂ a (R52). -/
def execVlog2 (c : CellId) (i : CellIns) (e : CellEnv) (s : State) : Result :=
  runVec .vlog2 c i e s (4 * i.n) 20 false false (fun a _ _ => flog2 a)

/-- VRCP: d ← 1/a (R52). -/
def execVrcp (c : CellId) (i : CellIns) (e : CellEnv) (s : State) : Result :=
  runVec .vrcp c i e s (4 * i.n) 20 false false (fun a _ _ => frcp a)

/-- VRSQ: d ← 1/√a (R52). -/
def execVrsq (c : CellId) (i : CellIns) (e : CellEnv) (s : State) : Result :=
  runVec .vrsq c i e s (4 * i.n) 20 false false (fun a _ _ => frsq a)

/-- What VCVT needs. -/
def vcvtSpec (i : CellIns) : OpSpec :=
  let fa := i.fa.toNat
  let fd := i.fd.toNat
  ⟨i.fb == 0 && fa ≤ 6 && fd ≤ 6, true, 2, i.n, 6, [(i.aA, span fa (64 * i.n))], [(i.dstA, span fd (64 * i.n))],
   true, i.sb == 0, []⟩

/-- VCVT: CNT groups of 64 elements from FA to FD (R54, R501). -/
def execVcvt (c : CellId) (i : CellIns) (e : CellEnv) (s : State) : Result :=
  let fa := i.fa.toNat
  let fd := i.fd.toNat
  finish s (runCell .vcvt c i e (vcvtSpec i) none (fun x t free =>
    let a := x.read t free i.aA (span fa (64 * i.n))
    let out := gather ((unpack fa a.1).map (convert fa fd (i.imm.toNat % 32) i.sat))
    ({ x with store := putBytes x.store i.dstA (pack fd out.1) }, out.2, a.2)) s)

/-- Results of a reduction and the zeros to the end of the last 16-byte unit (R53). -/
def reduceLen (n : Nat) : Nat := ceilDiv (4 * n) 16 * 16

def runReduce (o : CellOp) (c : CellId) (i : CellIns) (e : CellEnv) (s : State) (op : Nat → Nat → Nat × Flags) :
    Result :=
  finish s (runCell o c i e (vecSpec i i.n 14 false (reduceLen i.n)) none (fun x t free =>
    let a := x.read t free i.aA (256 * i.n)
    let out := gather ((chunks i.n 64 (lanes a.1)).map (fun v => treeReduce op 6 v Flags.none))
    ({ x with store := putBytes x.store i.dstA (padTo (reduceLen i.n) (pack 0 out.1)) }, out.2, a.2)) s)

/-- VRSUM: the tree sum of each vector (R53). -/
def execVrsum (c : CellId) (i : CellIns) (e : CellEnv) (s : State) : Result := runReduce .vrsum c i e s fadd

/-- VRMAX: the tree maximum of each vector (R53). -/
def execVrmax (c : CellId) (i : CellIns) (e : CellEnv) (s : State) : Result := runReduce .vrmax c i e s fmax

/-! Move unit (R34, R128, R136). -/

/-- A pending LD takes what its queue holds; when all flits are there they go to the store, unless one carries
poison or an error response (R68): that flit, for which it faults with XFER. A cell that waits goes on once it has what it needed. -/
def loadStep (c : CellState) (x : Xfer) : CellState ⊕ Flit :=
  let q := tget [] c.queues x.queue
  let k := min x.left q.length
  let got := x.got ++ q.take k
  let c := { c with queues := tset [] c.queues x.queue (q.drop k) }
  let run := if c.mode = .stalled ∧ x.need ≤ x.moved + k then .running else c.mode
  match got.find? (·.bad) with
  | some a => .inr a
  | none =>
    if x.left = k then .inl { c with store := putBytes c.store x.addr (got.flatMap (·.data)), pend := none, mode := run }
    else .inl { c with pend := some { x with left := x.left - k, got := got }, mode := run }

/-- A pending ST puts what its queue has room for, of the 16 flits it holds (R128). -/
def storeStep (c : CellState) (x : Xfer) : CellState :=
  let q := tget [] c.queues x.queue
  let k := min x.left (16 - q.length)
  let c := { c with queues := tset [] c.queues x.queue (q ++ x.got.take k) }
  let run := if c.mode = .stalled ∧ x.need ≤ x.moved + k then .running else c.mode
  if x.left = k then { c with pend := none, mode := run }
  else { c with pend := some { x with left := x.left - k, got := x.got.drop k }, mode := run }

/-- XFER (R68): a transfer of the cell completed with an error response, or with data of a poisoned 64 B unit of device
memory. The unit's address is reported with the cause; met again in the first step after a restart, it starts a
map-out. -/
def State.xferFault (s : State) (c : CellId) (unit : Option Nat) : State :=
  let f := s.regionFacet c.region.val
  let t := s.cellFault c.region.val c.block.val (s.posOf c) 9
  match unit with
  | none => t
  | some u =>
    let t := t.foundUe u
    let again := t.metBefore f (metKey true (u * 64))
    let t := t.meet f (metKey true (u * 64))
    if again then t.mapOutBank (u * 64) else t

/-- A cell's pending transfer goes on; XFER is recorded for a bad flit. -/
def State.advanceXfer (s : State) (c : CellId) : State :=
  let k := s.cellKey c
  let x := s.cell k
  match x.pend with
  | none => s
  | some t =>
    if t.load then
      match loadStep x t with
      | .inr a => (s.setCell k { x with pend := none }).xferFault c a.unit
      | .inl y => s.setCell k y
    else s.setCell k (storeStep x t)

/-- What LD (load) or ST needs. -/
def portSpec (load : Bool) (i : CellIns) : OpSpec :=
  let rng := (if load then i.dstA else i.aA, 64 * i.n)
  ⟨noFormats i, true, 3, i.n, 0, if load then [] else [rng], if load then [rng] else [], false, true, []⟩

/-- LD or ST issued: a queue without a route is a PORT fault; else the transfer starts with what the queue holds or has
room for. The rest moves as flits come and go; where not even one flit can move, the region stalls (R59, R65, R128,
R136). -/
def runMove (o : CellOp) (c : CellId) (i : CellIns) (e : CellEnv) (s : State) (load : Bool) : State :=
  let q := i.imm.toNat % 8
  let sp := portSpec load i
  let eff : CellEffect := fun x t free =>
    let b := if load then ([], free) else x.read t free i.aA (64 * i.n)
    let flits := if load then [] else (chunks i.n 64 b.1).map (fun d => Flit.mk false d s.dt none)
    ({ x with pend := some ⟨load, q, i.dstA, t + sp.delay x t, i.n, i.n, flits, 0⟩ }, Flags.none, b.2)
  let t := runCell o c i e sp none eff s
  let k := s.cellKey c
  if (t.cell k).pc = (s.cell k).pc then t
  else match s.portRoute c q load with
  | none => t.cellFault c.region.val c.block.val (s.posOf c) 7
  | some _ =>
    let t := t.advanceXfer c
    match (t.cell k).pend with
    | some x => if x.moved = 0 then t.stallCell c 1 else t
    | none => t

/-- LD: CNT flits from port queue IMM16[2:0] to DST (R59, R68, R133, R136). -/
def execLd (c : CellId) (i : CellIns) (e : CellEnv) (s : State) : Result := finish s (runMove .ld c i e s true)

/-- ST: CNT flits from SA to port queue IMM16[2:0] (R59, R136). -/
def execSt (c : CellId) (i : CellIns) (e : CellEnv) (s : State) : Result := finish s (runMove .st c i e s false)

/-- What MOV needs. -/
def movSpec (i : CellIns) : OpSpec :=
  ⟨noFormats i, true, 3, i.n, 4, [(i.aA, 64 * i.n)], [(i.dstA, 64 * i.n)], false, true, []⟩

/-- MOV: CNT × 64 B from SA to DST (R59). -/
def execMov (c : CellId) (i : CellIns) (e : CellEnv) (s : State) : Result :=
  finish s (runCell .mov c i e (movSpec i) none (fun x t free =>
    let a := x.read t free i.aA (64 * i.n)
    ({ x with store := putBytes x.store i.dstA a.1 }, Flags.none, a.2)) s)

/-- What SRLD needs. -/
def srldSpec (i : CellIns) : OpSpec :=
  ⟨noFormats i, false, 3, 1, 4, [(i.aA, 4)], [], false, true, [(2, i.sel.toNat, i.sel.toNat + 1)]⟩

/-- SRLD: SC[SEL] ← FP32 at SA (R59). -/
def execSrld (c : CellId) (i : CellIns) (e : CellEnv) (s : State) : Result :=
  let k := i.sel.toNat
  finish s (runCell .srld c i e (srldSpec i) none (fun x t free =>
    let a := x.read t free i.aA 4
    ({ x with sc := tset 0 x.sc k (BitVec.ofNat 32 (leNat a.1)) }, Flags.none, a.2)) s)

/-! Sequencer (R59, R60). -/

def seqSpec (ok count : Bool) (i : CellIns) : OpSpec := ⟨noFormats i, count, 4, 1, 0, [], [], false, ok, []⟩

/-- NOP issues at its time and does nothing else (R59). -/
def execNop (c : CellId) (i : CellIns) (e : CellEnv) (s : State) : Result :=
  finish s (runCell .nop c i e (seqSpec true false i) none (fun x _ free => (x, Flags.none, free)) s)

/-- LOOP (R58 to R60): below CNT the counter rises and the program goes on at IMM16; else it returns to 0. -/
def execLoop (c : CellId) (i : CellIns) (e : CellEnv) (s : State) : Result :=
  let x := s.cell (s.cellKey c)
  let k := i.sel.toNat
  let taken := tget 0 x.lc k < i.n
  let ok := k < 4 && (!taken || i.imm.toNat < x.progLen)
  finish s (runCell .loop c i e (seqSpec ok true i) none (fun x t free =>
    let y := if taken then { x with lc := tset 0 x.lc k (tget 0 x.lc k + 1), pc := i.imm.toNat }
      else { x with lc := tset 0 x.lc k 0, pc := x.pc + 1 }
    ({ y with last := x.fx, fx := t }, Flags.none, free)) s)

/-- NEXTF: the cell waits for the next frame start (R59, R60). -/
def execNextf (c : CellId) (i : CellIns) (e : CellEnv) (s : State) : Result :=
  finish s (runCell .nextf c i e (seqSpec true false i) none (fun x t free =>
    ({ x with pc := x.pc + 1, mode := .waiting, endSeen := true, last := x.fx, fx := t }, Flags.none, free)) s)

/-- Every cell of the facet that runs a program has issued END (R210). -/
def State.allEnded (s : State) (f : Nat) : Bool :=
  (s.kcs f).cells.all (fun x => x.prog == 0xFFFF || (s.cell (s.keyOf x.region x.block x.cell)).mode == .idle)

/-- END: the cell idles until the next step; with the facet's last END the step commits (R59, R210). -/
def execEndp (c : CellId) (i : CellIns) (e : CellEnv) (s : State) : Result :=
  let t := runCell .endp c i e (seqSpec true false i) none (fun x t free =>
    ({ x with mode := .idle, endSeen := true, last := x.fx, fx := t }, Flags.none, free)) s
  let f := s.regionFacet c.region.val
  finish s (if s.issuing c && s.regionBound c.region.val && (t.facet f).inStep && !(t.facet f).void && t.allEnded f then
    t.commitStep f else t)

/-- What an instruction needs, as far as its word shows it (R58): a bank's type is taken as it fits. -/
def specOf (o : CellOp) (i : CellIns) : OpSpec :=
  let int := i.fa == 5
  let c := { CellState.reset with accInt0 := int, accInt1 := int }
  match o with
  | .mma => mmaSpec c i false
  | .mmas => mmaSpec c i true
  | .aclr => aclrSpec i
  | .ald => aldSpec i
  | .ast => astSpec (i.fd == 6) i
  | .vadd | .vsub | .vmul | .vfma | .vmax | .vmin => vecSpec i i.n 6 true (256 * i.n)
  | .vexp2 | .vlog2 | .vrcp | .vrsq => vecSpec i (4 * i.n) 20 false (256 * i.n)
  | .vcvt => vcvtSpec i
  | .vrsum | .vrmax => vecSpec i i.n 14 false (reduceLen i.n)
  | .ld => portSpec true i
  | .st => portSpec false i
  | .mov => movSpec i
  | .srld => srldSpec i
  | .loop => seqSpec (i.sel.toNat < 4) true i
  | .nop | .nextf | .endp => seqSpec true false i

/-! Faults that arise beside an instruction. -/

/-- XFER (R68): a transfer of the cell's LD or ST completed with an error response (none), or with data poisoned
at an address. -/
def execXfer (c : CellId) (poison : Option (BitVec 43)) (s : State) : Result :=
  let k := s.cellKey c
  finish s (if (s.cell k).mode = .running ∨ (s.cell k).mode = .stalled ∨ (s.cell k).mode = .waiting then
    s.xferFault c (poison.map (fun a => a.toNat / 64))
  else s)

/-- WDOG (R65, R243): no NEXTF or END in the frame by which the step ends. -/
def execWdog (c : CellId) (s : State) : Result :=
  let x := s.cell (s.cellKey c)
  let f := s.regionFacet c.region.val
  finish s (if s.regionBound c.region.val ∧ (s.facet f).inStep ∧
      (s.facet f).endMarked ∧ (x.mode = .running ∨ x.mode = .stalled) ∧ !x.endSeen then
    s.cellFault c.region.val c.block.val (s.posOf c) 6 else s)

/-- ISOL (R22, R65, R66): the wrapper did not isolate a faulted cell within one beat. A retired block stays isolated
(R72). -/
def execIsol (c : CellId) (s : State) : Result :=
  finish s (if (s.cell (s.cellKey c)).mode = .faulted then
    (s.cellFault c.region.val c.block.val (s.posOf c) 8).wf (Reg.CELL_STAT c.region.val c.block.val (s.posOf c)) 0 0
      (b2n (bit (s.reg (Reg.BLK_MAP c.region.val c.block.val)) 24)) else s)

end Sys2Proof.Machine
end

