-- ==== Sys2Proof/Machine/Hash.lean ====
section
/-! DEFINITION. SHA-384, which the manual names and FIPS 180-4 defines (log 13). -/
namespace Sys2Proof.Machine

abbrev W64 := BitVec 64

def rotr (x : W64) (n : Nat) : W64 := (x >>> n) ||| (x <<< (64 - n))

/-- The round constants, sixteen at a time. -/
def shaK0 : List Nat :=
  [0x428a2f98d728ae22, 0x7137449123ef65cd, 0xb5c0fbcfec4d3b2f, 0xe9b5dba58189dbbc,
   0x3956c25bf348b538, 0x59f111f1b605d019, 0x923f82a4af194f9b, 0xab1c5ed5da6d8118,
   0xd807aa98a3030242, 0x12835b0145706fbe, 0x243185be4ee4b28c, 0x550c7dc3d5ffb4e2,
   0x72be5d74f27b896f, 0x80deb1fe3b1696b1, 0x9bdc06a725c71235, 0xc19bf174cf692694]
def shaK1 : List Nat :=
  [0xe49b69c19ef14ad2, 0xefbe4786384f25e3, 0x0fc19dc68b8cd5b5, 0x240ca1cc77ac9c65,
   0x2de92c6f592b0275, 0x4a7484aa6ea6e483, 0x5cb0a9dcbd41fbd4, 0x76f988da831153b5,
   0x983e5152ee66dfab, 0xa831c66d2db43210, 0xb00327c898fb213f, 0xbf597fc7beef0ee4,
   0xc6e00bf33da88fc2, 0xd5a79147930aa725, 0x06ca6351e003826f, 0x142929670a0e6e70]
def shaK2 : List Nat :=
  [0x27b70a8546d22ffc, 0x2e1b21385c26c926, 0x4d2c6dfc5ac42aed, 0x53380d139d95b3df,
   0x650a73548baf63de, 0x766a0abb3c77b2a8, 0x81c2c92e47edaee6, 0x92722c851482353b,
   0xa2bfe8a14cf10364, 0xa81a664bbc423001, 0xc24b8b70d0f89791, 0xc76c51a30654be30,
   0xd192e819d6ef5218, 0xd69906245565a910, 0xf40e35855771202a, 0x106aa07032bbd1b8]
def shaK3 : List Nat :=
  [0x19a4c116b8d2d0c8, 0x1e376c085141ab53, 0x2748774cdf8eeb99, 0x34b0bcb5e19b48a8,
   0x391c0cb3c5c95a63, 0x4ed8aa4ae3418acb, 0x5b9cca4f7763e373, 0x682e6ff3d6b2b8a3,
   0x748f82ee5defb2fc, 0x78a5636f43172f60, 0x84c87814a1f0ab72, 0x8cc702081a6439ec,
   0x90befffa23631e28, 0xa4506cebde82bde9, 0xbef9a3f7b2c67915, 0xc67178f2e372532b]
def shaK4 : List Nat :=
  [0xca273eceea26619c, 0xd186b8c721c0c207, 0xeada7dd6cde0eb1e, 0xf57d4f7fee6ed178,
   0x06f067aa72176fba, 0x0a637dc5a2c898a6, 0x113f9804bef90dae, 0x1b710b35131c471b,
   0x28db77f523047d84, 0x32caab7b40c72493, 0x3c9ebe0a15c9bebc, 0x431d67c49c100d4c,
   0x4cc5d4becb3e42b6, 0x597f299cfc657e2a, 0x5fcb6fab3ad6faec, 0x6c44198c4a475817]

def shaK : List Nat := shaK0 ++ shaK1 ++ shaK2 ++ shaK3 ++ shaK4

def shaInit : List W64 :=
  [0xcbbb9d5dc1059ed8, 0x629a292a367cd507, 0x9159015a3070dd17, 0x152fecd8f70e5939,
   0x67332667ffc00b31, 0x8eb44a8768581511, 0xdb0c2e0d64f98fa7, 0x47b5481dbefa4fa4]

/-- The big-endian number of a byte string. -/
def beNat (b : Bytes) : Nat := b.foldl (fun a x => 256 * a + x.toNat) 0

/-- The message schedule: the block's words, newest first, grown to 80. -/
def shaExpand : Nat → List W64 → List W64
  | 0, w => w
  | n + 1, w =>
    let at_ (i : Nat) : W64 := w.getD i 0
    let a := at_ 14
    let b := at_ 1
    let s0 := rotr a 1 ^^^ rotr a 8 ^^^ (a >>> 7)
    let s1 := rotr b 19 ^^^ rotr b 61 ^^^ (b >>> 6)
    shaExpand n ((at_ 15 + s0 + at_ 6 + s1) :: w)

/-- One round on the eight working words. -/
def shaRound (h : List W64) (kw : W64) : List W64 :=
  match h with
  | [a, b, c, d, e, f, g, i] =>
    let t1 := i + (rotr e 14 ^^^ rotr e 18 ^^^ rotr e 41) + ((e &&& f) ^^^ (~~~e &&& g)) + kw
    let t2 := (rotr a 28 ^^^ rotr a 34 ^^^ rotr a 39) + ((a &&& b) ^^^ (a &&& c) ^^^ (b &&& c))
    [t1 + t2, a, b, c, d + t1, e, f, g]
  | _ => h

def shaBlock (h : List W64) (block : Bytes) : List W64 :=
  let w := (List.range 16).map (fun i => BitVec.ofNat 64 (beNat (sub block (8 * i) 8)))
  let all := (shaExpand 64 w.reverse).reverse
  let out := (all.zip shaK).foldl (fun x p => shaRound x (p.1 + BitVec.ofNat 64 p.2)) h
  h.zipWith (· + ·) out

def shaPad (b : Bytes) : Bytes :=
  let z := (112 + 128 - (b.length + 1) % 128) % 128
  b ++ [0x80] ++ zeros z ++ (leBytes 16 (8 * b.length)).reverse

def sha512Blocks : Nat → List W64 → Bytes → List W64
  | 0, h, _ => h
  | n + 1, h, b => sha512Blocks n (shaBlock h (b.take 128)) (b.drop 128)

/-- The 48-byte digest. -/
def sha384 (b : Bytes) : Bytes :=
  let p := shaPad b
  ((sha512Blocks (p.length / 128) shaInit p).take 6).flatMap (fun w => (leBytes 8 w.toNat).reverse)

end Sys2Proof.Machine
end

