-- ==== Sys2Proof/Machine/Msf.lean ====
section
/-! DEFINITION. Loads, stores and atomics across the pod (12): windows, home agents, key regions, job tags and
message queues. What a packet does at the endpoint that it reaches stands here; how it gets there, in Fabric. -/
namespace Sys2Proof.Machine

/-- The header that 16 bytes hold (R319); no payload. -/
def parseHeader (b : Bytes) : Packet :=
  let v := leNat (b.take 15)
  { dst := BitVec.ofNat 18 v, src := BitVec.ofNat 18 (v / 2 ^ 18), marked := v.testBit 36,
    chan := BitVec.ofNat 2 (v / 2 ^ 37), op := BitVec.ofNat 5 (v / 2 ^ 39), len := BitVec.ofNat 7 (v / 2 ^ 44),
    seq := BitVec.ofNat 16 (v / 2 ^ 51), ce := v.testBit 67, echo := v.testBit 68, last := v.testBit 69,
    fence := v.testBit 70, mc := v.testBit 71, epoch := BitVec.ofNat 2 (v / 2 ^ 72),
    jobTag := BitVec.ofNat 16 (v / 2 ^ 74), dl := v.testBit 90, addr := BitVec.ofNat 29 (v / 2 ^ 91),
    hcrc := b.getD 15 0, payload := [] }

/-! Home agents (R352 to R356). -/

namespace State

def mergeOn (s : State) : Bool := bit (s.hw Reg.MSF_CTL) 31
def homeMark (s : State) : Nat := min 511 (fld (s.hw Reg.MSF_CTL) 9 0)

/-- The open merge entry of a line. -/
def mergeEntry (s : State) (h line : Nat) : Option MergeEntry := (s.home h).merges.find? (fun m => m.line == line)

/-- What the engine holds of a queue pair, as numbers. -/
def qpNumbers (q : QpState) : List Nat :=
  [q.rqHead, q.rqTail, q.pqHead, q.pqTail, q.seq, q.slot.getD 64, b2n q.error, q.lastStatus, q.entries.length] ++
  (match q.ring with
   | some r => [r.eid, r.addr, r.log2, r.notify]
   | none => []) ++
  (match q.req with
   | some x => [x.fed, x.made, x.tokPos] ++ x.tokens
   | none => [])

/-- Device memory as it is read: the context of a queue pair that is in use has a layout of the engine's own (R194; log
47). -/
def withContexts (s : State) (a : Nat) (b : Bytes) : Bytes :=
  let areas := (List.range 64).filterMap (fun f => (s.session f).bind (fun x =>
    if x.qpctx < a + b.length ∧ a < x.qpctx + 64 * x.qn then some x else none))
  if areas = [] then b
  else b.zipIdx.map (fun e =>
    let i := a + e.2
    match areas.find? (fun x => x.qpctx ≤ i && i < x.qpctx + 64 * x.qn) with
    | some x =>
      let q := s.qp (x.qbase + (i - x.qpctx) / 64)
      if q = QpState.reset then e.1 else Config.qpContext (qpNumbers q) ((i - x.qpctx) % 64)
    | none => e.1)

/-- A line as its agent serves it: memory under the bytes of its open merge entry (R354). -/
def lineBytes (s : State) (line : Nat) : Bytes :=
  let b := s.withContexts (line * 128) (s.readMem (line * 128) 128)
  match s.mergeEntry (homeOf (line * 128)) line with
  | some m => (List.range 128).map (fun i => match m.bytes.find? (fun e => e.1 == i) with
    | some e => e.2
    | none => b.getD i 0)
  | none => b

/-- A line is poisoned, unless its open merge entry covers all of it (R99, R354). -/
def linePoison (s : State) (line : Nat) : Bool :=
  s.poisoned (line * 128) 128 && (match s.mergeEntry (homeOf (line * 128)) line with
    | some m => m.bytes.length != 128
    | none => true)

/-- Bytes written to memory from offset off of a line on; a full line clears its poison (R354). -/
def writeLine (s : State) (line : Nat) (bytes : List (Nat × Byte)) : State :=
  let s := forEach bytes s (fun t e => t.writeMem (line * 128 + e.1) [e.2])
  if bytes.length = 128 then s.clearPoison (line * 128) (line * 128 + 128) else s

end State

/-- Bytes put over those of a merge entry. -/
def overlay (old : List (Nat × Byte)) (off : Nat) (b : Bytes) : List (Nat × Byte) :=
  b.zipIdx.foldl (fun l e => tput (off + e.2) e.1 l) old

namespace State

/-- A merge entry closes and is written to memory; entries of a slice that is off are lost (R354, R367). -/
def closeMerge (s : State) (h line : Nat) : State :=
  match s.mergeEntry h line with
  | none => s
  | some m =>
    let x := s.home h
    let s := s.setHome h { x with merges := x.merges.filter (fun e => e.line != line) }
    if s.stackOn (stackOf (line * 128)) then s.writeLine line m.bytes else s

/-- The beat in which a line's merge entry opened is over (R354). -/
def mergeOver (s : State) (h line : Nat) : Bool := (s.mergeEntry h line).any (fun m => m.since != s.beat)

/-- The merge entries whose beat is over close (R354). -/
def closeMerges (s : State) : State :=
  forEach s.msf.homes s (fun t e => forEach (e.2.merges.filter (fun m => m.since != s.beat)) t (fun u m => u.closeMerge e.1 m.line))

/-- A WRITE's part of one line is applied: merged into an entry of this beat, or written (R354). -/
def homeStore (s : State) (h line off : Nat) (b : Bytes) : State :=
  let s := if s.mergeOn && !s.mergeOver h line then s else s.closeMerge h line
  let x := s.home h
  match x.merges.findIdx? (fun m => m.line == line) with
  | some i =>
    let ms := x.merges.modify i (fun m => { m with bytes := overlay m.bytes off b })
    (s.setHome h { x with merges := ms }).count (Reg.HA_CNT h) 1
  | none =>
    if s.mergeOn && x.merges.length < 128 then
      (s.setHome h { x with merges := x.merges ++ [⟨line, overlay [] off b, s.beat⟩] }).count (Reg.HA_CNT h) 1
    else s.writeLine line (overlay [] off b)

/-! Atomics (R349 to R351). -/

end State

/-- The new value of an atomic on a field of w bits (R351). -/
def atomicNew (aop w old x c : Nat) : Nat :=
  let m := 2 ^ w
  let signed (a : Nat) : Int := if m / 2 ≤ a then (a : Int) - m else a
  if aop = 0 then (old + x) % m
  else if aop = 1 then (if signed x < signed old then x else old)
  else if aop = 2 then min old x
  else if aop = 3 then (if signed old < signed x then x else old)
  else if aop = 4 then max old x
  else if aop = 5 then x
  else if old = c then x else old

/-- Bytes of an atomic's operand. -/
def atomicSize (b : Bytes) : Nat := if byteAt b 9 % 2 = 1 then 8 else 4

/-- An ATOMIC payload keeps its table (R349, R351). -/
def atomicForm (b : Bytes) : Bool :=
  let n := atomicSize b
  byteAt b 8 ≤ 6 && byteAt b 9 / 2 % 64 == 0 && leAt b 10 2 % n == 0 && leAt b 10 2 + n ≤ 128 && allZero (sub b 12 4) &&
  (n == 8 || (allZero (sub b 20 4) && allZero (sub b 28 4))) && (byteAt b 8 == 6 || allZero (sub b 24 8)) &&
  (128 ≤ byteAt b 9 || leAt b 4 4 < 2 ^ 29) && allZero (sub b 32 32)

/-- A READ payload keeps its table (R349). -/
def readForm (b : Bytes) : Bool :=
  leAt b 4 4 < 2 ^ 29 && byteAt b 8 < 64 && allZero (sub b 9 55)

def donePayload (rtag status kind mask : Nat) : Bytes :=
  leBytes 4 rtag ++ leBytes 1 status ++ leBytes 1 kind ++ zeros 2 ++ leBytes 8 mask ++ zeros 48

namespace State

/-- A DONE to a requester with its tag (R349, R350). POISON is an event (R368). -/
def sendDone (s : State) (p : Packet) (f h rtag status kind mask : Nat) : State :=
  let s := if status = 0x12 then s.msfEvent f h 1 else s
  s.unitSend (answer p 0x11 (donePayload rtag status kind mask))

/-- A READ or ATOMIC is answered when its lines are served (R350); h is the agent that served the last. -/
def answerJob (s : State) (h : Nat) (j : HomeJob) : State :=
  let p := j.packet
  let b := p.payload
  let raddr := BitVec.ofNat 29 (leAt b 4 4)
  if p.op = 2 then
    let n := byteAt b 8 + 1
    let mask := sumNat (j.got.map (fun e => if e.2.2 then 2 ^ e.1 else 0))
    if mask = 0 then
      let data := (List.range n).flatMap (fun i => match j.got.find? (fun e => e.1 == i) with
        | some e => e.2.1
        | none => zeros 128)
      s.unitSend { answer p 0x10 data with addr := raddr }
    else s.sendDone p j.facet h (leAt b 0 4) 0x12 1 mask
  else match j.got with
    | [] => s
    | e :: _ =>
      if e.2.2 then s.sendDone p j.facet h (leAt b 0 4) 0x12 0 0
      else if 128 ≤ byteAt b 9 then s.sendDone p j.facet h (leAt b 0 4) 0 0 0
      else s.unitSend { answer p 0x10 (padTo 8 e.2.1 ++ leBytes 4 (leAt b 0 4) ++ zeros 52) with addr := raddr }

/-- A line of a job has been served. -/
def jobLine (s : State) (h n i : Nat) (b : Bytes) (poison : Bool) : State :=
  match s.msf.jobs.find? (fun e => e.1 == n) with
  | none => s
  | some (_, j) =>
    let j := { j with left := j.left - 1, got := j.got ++ [(i, b, poison)] }
    if j.left = 0 then
      ({ s with msf := { s.msf with jobs := s.msf.jobs.filter (fun e => e.1 != n) } }).answerJob h j
    else { s with msf := { s.msf with jobs := tput n j s.msf.jobs } }

/-- A job ends with SLICE: its line's stack is off (R367). -/
def jobOff (s : State) (h n : Nat) : State :=
  match s.msf.jobs.find? (fun e => e.1 == n) with
  | none => s
  | some (_, j) =>
    ({ s with msf := { s.msf with jobs := s.msf.jobs.filter (fun e => e.1 != n) } }).sendDone j.packet j.facet h
      (leAt j.packet.payload 0 4) 0x18 (if j.packet.op = 2 then 1 else 0) 0

/-- An agent applies one operation (R350, R351, R353, R354). A line of a stack that is off takes no store. -/
def homeApply (s : State) (h : Nat) (r : HomeReq) : State :=
  if !s.stackOn (stackOf (r.line * 128)) then (if r.op = 1 then s else s.jobOff h r.job)
  else if r.op = 1 then s.homeStore h r.line r.off r.data
  else if r.op = 2 then s.jobLine h r.job r.off (s.lineBytes r.line) (s.linePoison r.line)
  else match s.msf.jobs.find? (fun e => e.1 == r.job) with
    | none => s
    | some (_, j) =>
      if s.linePoison r.line then s.jobLine h r.job 0 [] true
      else
        let b := j.packet.payload
        let n := atomicSize b
        let o := leAt b 10 2
        let old := leNat (sub (s.lineBytes r.line) o n)
        let new := leBytes n (atomicNew (byteAt b 8) (8 * n) old (leAt b 16 n) (leAt b 24 n))
        let x := s.home h
        let s := match x.merges.findIdx? (fun m => m.line == r.line) with
          | some i => s.setHome h { x with merges := x.merges.modify i (fun m => { m with bytes := overlay m.bytes o new }) }
          | none => s.writeMem (r.line * 128 + o) new
        s.jobLine h r.job 0 (leBytes n old) false

/-- The operation at the front of an agent's queue is served; a READ or ATOMIC reads its line of memory (R99). -/
def homeServe (s : State) (h : Nat) (found : List ScrubFound) : State :=
  match (s.home h).queue with
  | [] => s
  | r :: t =>
    let s := s.setHome h { s.home h with queue := t }
    (if r.op = 1 then s else s.readFinds (r.line * 128) (found.take 2)).homeApply h r

/-- An operation enters its agent's queue; a queue that fills is an event (R355). -/
def homeEnter (s : State) (f : Nat) (r : HomeReq) : State :=
  let h := homeOf (r.line * 128)
  let x := s.home h
  let s := s.setHome h { x with queue := x.queue ++ [r] }
  if x.queue.length + 1 = homeQueue then s.msfEvent f h 6 else s

/-- Every operation of a line that is queued is served, for an access that comes behind it (R352, R471). -/
def homeFlush (s : State) (line : Nat) : State :=
  let h := homeOf (line * 128)
  let q := (s.home h).queue
  let s := s.setHome h { s.home h with queue := q.filter (fun r => r.line != line) }
  forEach (q.filter (fun r => r.line == line)) s (fun t r => t.homeApply h r)

/-- Bytes that a unit of the module writes through the agents of their lines (R352). -/
def writeThrough (s : State) (a : Nat) (b : Bytes) : State :=
  let cut (line : Nat) : List (Nat × Byte) := (List.range 128).filterMap (fun i =>
    let n := line * 128 + i
    if a ≤ n ∧ n < a + b.length then some (i, b.getD (n - a) 0) else none)
  if s.areaLocked a b.length then s.raise Reg.MSF_EVT 0
  else forEach ((List.range ((a + b.length + 127) / 128 - a / 128)).map (a / 128 + ·)) s (fun t l =>
    ((t.homeFlush l).closeMerge (homeOf (l * 128)) l).writeLine l (cut l))

/-! Windows and the checks of a request (R345 to R347, R360, R504). -/

def window (s : State) (page ep : Nat) : Nat := tget 0 s.msf.windows (page * 64 + ep)

/-- The source lies in a pod range. -/
def inPod (s : State) (eid : Nat) : Bool :=
  (List.range 8).any (fun i =>
    let b := (s.hw (Reg.POD_BASE i)).toNat % 2 ^ 18
    b ≤ eid && eid < b + min 4096 (fld (s.hw (Reg.POD_CNT i)) 12 0))

end State

/-- A request at an endpoint: the operation (1 WRITE, 2 READ, 3 ATOMIC), its first unit and its units. -/
structure MemAccess where
  op : Nat
  addr : Nat
  units : Nat
  deriving DecidableEq, Repr

/-- What a request asks of the page. -/
def accessOf (op addr : Nat) (payload : Bytes) : MemAccess :=
  if op = 2 then ⟨2, addr, 2 * (byteAt payload 8 + 1)⟩
  else if op = 3 then ⟨3, addr, 2⟩
  else ⟨1, addr, payload.length / 64⟩

def MemAccess.page (a : MemAccess) : Nat := a.addr / 2 ^ 18

/-- A request leaves its page, starts READ or ATOMIC at an odd unit, or covers more than 64 lines (R347, R348). -/
def MemAccess.beyond (a : MemAccess) : Bool :=
  2 ^ 18 < a.addr % 2 ^ 18 + a.units || (a.op != 1 && a.addr % 2 == 1) ||
  128 < a.addr % 2 + a.units

/-- The lines of a WRITE of b at dpa: line, offset, bytes. -/
def writeParts (dpa : Nat) (b : Bytes) : List (Nat × Nat × Bytes) :=
  let first := dpa / 128
  (List.range (ceilDiv (dpa % 128 + b.length) 128)).map (fun i =>
    let lo := max dpa ((first + i) * 128)
    let hi := min (dpa + b.length) ((first + i + 1) * 128)
    (first + i, lo - (first + i) * 128, sub b (lo - dpa) (hi - lo)))

/-- Where a request goes: an address of device memory, another module, or a refusal with a status. -/
inductive PageResult where
  | at_ (dpa : Nat)
  | forward (eid : Nat)
  | refuse (status : Nat)
  deriving DecidableEq, Repr

namespace State

/-- The page checks of an endpoint bound to facet f: WINDOW, RANGE, SLICE (R347, R504). A store to a locked stage area
is refused with SLICE (R247, log 31). -/
def pageCheck (s : State) (f ep : Nat) (a : MemAccess) : PageResult :=
  let e := s.window a.page ep
  let granted := e.testBit 31 && e.testBit (if a.op = 1 then 29 else if a.op = 2 then 30 else 28)
  if !granted then .refuse 0x10
  else if a.beyond then .refuse 0x11
  else if e.testBit 27 then .forward (e % 2 ^ 18)
  else
    let dpa := e % 2 ^ 19 * 2 ^ 24 + a.addr % 2 ^ 18 * 64
    if s.sliceBound f (sliceOf dpa) && !(a.op != 2 && s.areaLocked dpa (a.units * 64)) then .at_ dpa else .refuse 0x18

/-- The page checks of a keyed endpoint (R360). -/
def keyCheck (s : State) (r : KeyRegion) (a : MemAccess) : PageResult :=
  let n := r.first + a.page / 1024
  if (a.op == 1 && !r.wr) || (a.op == 2 && !r.rd) || a.op == 3 then .refuse 0x10
  else match (s.kcs r.facet).table.slices[n]? with
    | none => .refuse 0x10
    | some sl =>
      if a.beyond then .refuse 0x11
      else
        let dpa := sl * 2 ^ 34 + a.page % 1024 * 2 ^ 24 + a.addr % 2 ^ 18 * 64
        if s.sliceBound r.facet sl && !(a.op != 2 && s.areaLocked dpa (a.units * 64)) then .at_ dpa else .refuse 0x18

/-- The facet and the page result of a request at a bound or keyed endpoint. -/
def placeOf (s : State) (ep : Nat) (a : MemAccess) : Option (Nat × PageResult) :=
  match s.epFacet ep with
  | some f => some (f, s.pageCheck f ep a)
  | none => match s.epKey ep with
    | some k => (s.keyRegion k).map (fun r => (r.facet, s.keyCheck r a))
    | none => none

/-- The lines that a request would put into the home agents' queues. -/
def accessLines (dpa : Nat) (a : MemAccess) : List Nat :=
  (List.range (ceilDiv (dpa % 128 + a.units * 64) 128)).map (fun i => dpa / 128 + i)

/-- Entries that the queue of an agent has left. -/
def homeRoom (s : State) (lines : List Nat) : Bool :=
  lines.all (fun l =>
    let h := homeOf (l * 128)
    (s.home h).queue.length + (lines.filter (fun m => homeOf (m * 128) == h)).length ≤ homeQueue)

/-- The request of a packet, or of the packet that a FWD_REQ carries. -/
def requestOf (p : Packet) : MemAccess :=
  if p.op = 9 then accessOf (parseHeader p.payload).op.toNat p.addr.toNat (p.payload.drop 64)
  else accessOf p.op.toNat p.addr.toNat p.payload

/-- The packet that a request answers to: itself, or the one that a FWD_REQ carries (R365). -/
def innerOf (p : Packet) : Packet :=
  if p.op = 9 then { parseHeader p.payload with dst := p.dst, payload := p.payload.drop 64 } else p

/-- The payload of a request keeps its table (R349). -/
def requestForm (q : Packet) : Bool :=
  (q.op != 2 || readForm q.payload) && (q.op != 3 || atomicForm q.payload) &&
  (q.op == 1 || q.op == 2 || q.op == 3) && q.payload.length % 64 == 0 && !q.payload.isEmpty

/-- The endpoint takes the packet's tag, or its key (R31, R360). -/
def tagTaken (s : State) (p : Packet) : Bool :=
  let ep := s.routeEp p.dst.toNat
  match s.epFacet ep with
  | some f => p.jobTag.toNat == s.jobTag f
  | none => match s.epKey ep with
    | some k => p.op != 9 && (s.keyRegion k).any (fun r => r.key.toNat == p.jobTag.toNat)
    | none => false

/-- The answer that an endpoint has out. -/
def findRTag (s : State) (ep tag : Nat) (q : RTag → Bool) : Option RTag :=
  s.msf.rtags.find? (fun r => r.ep == ep && r.tag == tag && q r)

def dropRTag (s : State) (r : RTag) : State := { s with msf := { s.msf with rtags := s.msf.rtags.erase r } }

/-- The request that a DATA packet answers: that of its RADDR, and of an ATOMIC the one of its RTAG (R350, R358). -/
def dataTag (s : State) (p : Packet) : Option RTag :=
  s.findRTag (s.routeEp p.dst.toNat) p.jobTag.toNat (fun r => r.raddr == p.addr.toNat &&
    (!r.atomic || (p.len == 0 && r.rtag == leAt p.payload 8 4)))

/-- The lines of device memory that a packet at an endpoint of this module brings into the home agents' queues: those of a
request, or of DATA, that is accepted (R347, R355, R504). -/
def packetLines (s : State) (p : Packet) : List Nat :=
  let ep := s.routeEp p.dst.toNat
  if !wellFormedOp p then []
  else if p.op = 1 ∨ p.op = 2 ∨ p.op = 3 ∨ p.op = 9 then
    if !s.tagTaken p ∨ !s.inPod p.src.toNat ∨ !requestForm (innerOf p) then []
    else match s.placeOf ep (requestOf p) with
      | some (_, .at_ dpa) => accessLines dpa (requestOf p)
      | _ => []
  else if p.op = 0x10 then
    match s.epFacet ep, s.dataTag p with
    | some f, some _ => (match s.pageCheck f ep ⟨1, p.addr.toNat, p.payload.length / 64⟩ with
      | .at_ dpa => accessLines dpa ⟨1, p.addr.toNat, p.payload.length / 64⟩
      | _ => [])
    | _, _ => []
  else []

/-- A marked request enters a queue that holds more than HA_MARK_TH entries (R355). -/
def homeMarks (s : State) (p : Packet) : Bool :=
  p.marked && (s.packetLines p).any (fun l => s.homeMark < (s.home (homeOf (l * 128))).queue.length)

/-- A request is refused: RETURN, MSF_REF and its event (R341, R366, R368). -/
def refuseReq (s : State) (f ep : Nat) (p : Packet) (status : Nat) : State :=
  let i := if status = 0x13 then 4 else if status = 0x15 ∨ status = 0x16 then 5 else if status = 0x17 then 7 else 0
  let s := s.count (Reg.MSF_REF f) 1
  let s := if status = 0x06 then s else s.msfEvent f ep i
  s.refusePacket p status

/-- A request enters the home agents' queues (R352, R353). req is the packet that is answered. -/
def enterRequest (s : State) (f dpa : Nat) (req : Packet) (a : MemAccess) : State :=
  if a.op = 1 then
    forEach (writeParts dpa req.payload) s (fun t e => t.homeEnter f ⟨1, e.1, e.2.1, e.2.2, 0⟩)
  else
    let n := s.msf.nextJob
    let lines := accessLines dpa a
    let s := { s with msf := { s.msf with nextJob := n + 1, jobs := tput n ⟨req, f, lines.length, []⟩ s.msf.jobs } }
    forEach lines.zipIdx s (fun t e => t.homeEnter f ⟨a.op, e.1, e.2, [], n⟩)

/-- A request is served at an endpoint whose facet and tag are right (R345 to R350, R365, R504). p is the packet
that arrived, req the request that it is or carries. -/
def serveRequest (s : State) (ep : Nat) (p req : Packet) : State :=
  let a := accessOf req.op.toNat p.addr.toNat req.payload
  match s.placeOf ep a with
  | none => s
  | some (f, r) =>
    if !s.inPod p.src.toNat then s.refuseReq f ep p 0x13
    else if !requestForm req then s.refuseReq f ep p 0x06
    else match r with
      | .refuse st => s.refuseReq f ep p st
      | .forward eid =>
        if p.op = 9 then s.refuseReq f ep p 0x17
        else s.unitSend (mkPacket eid p.dst.toNat 1 0x09 (s.tagFor f eid) p.addr.toNat false
          (padTo 64 (headerBytes p) ++ p.payload))
      | .at_ dpa => s.enterRequest f dpa req a

/-- WRITE, READ or ATOMIC at its endpoint. -/
def requestAt (s : State) (p : Packet) : State :=
  let ep := s.routeEp p.dst.toNat
  match s.epFacet ep, s.epKey ep with
  | some f, _ => if p.jobTag.toNat ≠ s.jobTag f then (s.count (Reg.MSF_REF f) 1).refusePacket p 0x02
      else if !wellFormedOp p then s.refuseReq f ep p 0x06 else s.serveRequest ep p p
  | none, some k => (match s.keyRegion k with
    | some r => if p.jobTag.toNat ≠ r.key.toNat then s.wrongKey k r p
        else if !wellFormedOp p then s.refuseReq r.facet ep p 0x06 else s.serveRequest ep p p
    | none => s)
  | none, none => s.refusePacket p 0x01

/-- FWD_REQ at its endpoint: served as if the original source had sent the request (R365). -/
def fwdReqAt (s : State) (p : Packet) : State :=
  s.acceptAt p (fun _ =>
    s.serveRequest (s.routeEp p.dst.toNat) p (innerOf p))

/-! Answers (R346, R358). -/

/-- DATA at the requester: written through its own window under the checks of a WRITE (R346, R350, R358). -/
def dataAt (s : State) (p : Packet) : State :=
  let ep := s.routeEp p.dst.toNat
  match s.epFacet ep with
  | none => s.acceptAt p (fun _ => s)
  | some f =>
    match s.dataTag p with
    | none => (s.count (Reg.MSF_REF f) 1).refusePacket p 0x02
    | some r =>
      if !wellFormedOp p then s.refuseReq f ep p 0x06
      else match s.pageCheck f ep ⟨1, p.addr.toNat, p.payload.length / 64⟩ with
        | .at_ dpa => (s.dropRTag r).enterRequest f dpa { p with op := 1 } ⟨1, p.addr.toNat, p.payload.length / 64⟩
        | .refuse st => s.refuseReq f ep p st
        | .forward _ => s.refuseReq f ep p 0x10

/-- DONE at the requester (R349, R358). -/
def doneAt (s : State) (p : Packet) : State :=
  let ep := s.routeEp p.dst.toNat
  match s.epFacet ep with
  | none => s.acceptAt p (fun _ => s)
  | some f =>
    match s.findRTag ep p.jobTag.toNat (fun r => r.rtag == leAt p.payload 0 4) with
    | none => (s.count (Reg.MSF_REF f) 1).refusePacket p 0x02
    | some r =>
      if !wellFormedOp p then s.refuseReq f ep p 0x06
      else
        let s := s.dropRTag r
        if byteAt p.payload 4 = 0x12 then s.msfEvent f ep 1 else s

/-! Messages (R363, R364). -/

end State

/-- A message payload keeps its table (R363). -/
def messageForm (b : Bytes) : Bool :=
  leAt b 4 4 ≤ 8128 && leAt b 4 4 + 64 ≤ b.length && leAt b 8 4 < 2 ^ 18 && leAt b 16 4 < 2 ^ 18 &&
  byteAt b 12 < 4 && allZero (sub b 13 3) && allZero (sub b 20 44)

namespace State

def mqBase (s : State) (ep : Nat) : Nat :=
  ((s.reg (Reg.MQ_LO ep)).toNat / 2 ^ 13) * 2 ^ 13 + s.rf (Reg.MQ_HI ep) 10 0 * 2 ^ 32
def mqLog2 (s : State) (ep : Nat) : Nat := s.rf (Reg.MQ_LO ep) 3 0
def mqOn (s : State) (ep : Nat) : Bool := bit (s.reg (Reg.MQ_CTL ep)) 31
def mqGateway (s : State) (ep : Nat) : Bool := bit (s.reg (Reg.MQ_CTL ep)) 30
def mqTail (s : State) (ep : Nat) : Nat := s.rf (Reg.MQ_CTL ep) 15 0

/-- HEAD as the module takes it: the word as its agent serves it, or the last valid one that was read. -/
def mqHead (s : State) (ep : Nat) : Nat :=
  let h := leNat ((s.lineBytes (s.mqBase ep / 128)).take 2)
  if (s.mqTail ep + 65536 - h) % 65536 ≤ 2 ^ s.mqLog2 ep then h else tget 0 s.msf.heads ep

def mqFull (s : State) (ep : Nat) : Bool := (s.mqTail ep + 65536 - s.mqHead ep) % 65536 == 2 ^ s.mqLog2 ep

/-- A message is written into the next slot; PHASE tells its turn (R363). -/
def mqPut (s : State) (ep : Nat) (b : Bytes) : State :=
  let t := s.mqTail ep
  let n := 2 ^ s.mqLog2 ep
  let phase := 1 - t / n % 2
  let slot := s.mqBase ep + 64 + 8192 * (t % n)
  let s := s.writeThrough slot (sub b 0 15 ++ leBytes 1 phase ++ sub b 16 (48 + leAt b 4 4))
  (s.wf (Reg.MQ_CTL ep) 15 0 (t + 1)).addSat (Reg.MQ_CNT ep) 31 16 1

/-- A DONE for a message to its ORIGIN (R363, R364). -/
def messageDone (s : State) (p : Packet) (status : Nat) : State :=
  s.unitSend (mkPacket (leAt p.payload 16 4) p.dst.toNat 2 0x11 p.jobTag.toNat 0 false
    (donePayload (leAt p.payload 0 4) status 2 0))

/-- A message is refused: its final endpoint answers a RELAY with COMPLETE to its ORIGIN instead (R364). -/
def refuseMessage (s : State) (f ep : Nat) (p : Packet) (status : Nat) : State :=
  let s := s.addSat (Reg.MQ_CNT ep) 15 0 1
  if p.op = 8 ∧ byteAt p.payload 12 % 2 = 1 ∧ leAt p.payload 8 4 = p.dst.toNat then
    ((s.count (Reg.MSF_REF f) 1).msfEvent f ep 5).messageDone p status
  else s.refuseReq f ep p status

/-- A message joins the endpoint's queue, once its HEAD has been read. -/
def messageIn (s : State) (f ep : Nat) (p : Packet) : State :=
  let s := if s.mqOn ep then s.homeFlush (s.mqBase ep / 128) else s
  let s := if s.mqOn ep then { s with msf := { s.msf with heads := tset 0 s.msf.heads ep (s.mqHead ep) } } else s
  if !s.mqOn ep then s.refuseMessage f ep p 0x16
  else if s.mqFull ep then s.refuseMessage f ep p 0x15
  else if p.op = 8 ∧ leAt p.payload 8 4 ≠ p.dst.toNat then s.refuseMessage f ep p 0x17
  else
    let s := s.mqPut ep p.payload
    if byteAt p.payload 12 % 2 = 1 then s.messageDone p 0 else s

/-- SEND at its endpoint: queued, or passed on by a gateway as a RELAY (R363, R364). -/
def sendAt (s : State) (p : Packet) : State :=
  s.acceptAt p (fun f =>
    let ep := s.routeEp p.dst.toNat
    let final := leAt p.payload 8 4
    if !messageForm p.payload then s.refuseReq f ep p 0x06
    else if s.mqGateway ep ∧ 2 ≤ byteAt p.payload 12 ∧ final ≠ p.dst.toNat then
      s.unitSend (mkPacket final p.dst.toNat 1 0x08 (s.tagFor f final) p.addr.toNat p.last
        (sub p.payload 0 12 ++ leBytes 1 (byteAt p.payload 12 % 2) ++ p.payload.drop 13))
    else s.messageIn f ep p)

/-- RELAY at its endpoint (R364). -/
def relayAt (s : State) (p : Packet) : State :=
  s.acceptAt p (fun f =>
    let ep := s.routeEp p.dst.toNat
    if !messageForm p.payload then s.refuseReq f ep p 0x06 else s.messageIn f ep p)

/-! Tables written by the host driver (R346, R357, R359 to R361, R369). -/

/-- Why a window entry is refused: 0 for none (R346). -/
def windowBad (s : State) (ep v : Nat) : Nat :=
  match s.epHolder ep with
  | none => 1
  | some f =>
    if v.testBit 27 then (if s.routeLocal (v % 2 ^ 18) then 3 else 0)
    else if s.sliceBound f (nbits v 18 10) then 0 else 2

/-- The writable bits of a window entry. -/
def windowBits (v : Nat) : Nat := v / 2 ^ 27 % 32 * 2 ^ 27 + v % 2 ^ 19

end State

/-- MERGE_CLOSE (R354): at the end of the beat in which the entry opened, its last tick or later. -/
def execMergeClose (h : Fin 160) (line : BitVec 36) (s : State) : Result :=
  finish s (if s.mergeOver h.val line.toNat || s.dt % 256 == 255 then s.closeMerge h.val line.toNat else s)

/-- WIN_WRITE (R346): WIN_CMD shows the result. -/
def State.cmdWinWrite (page : BitVec 11) (ep : Fin 64) (s : State) : State :=
  let v := (s.reg Reg.WIN_DATA).toNat
  let bad := s.windowBad ep.val v
  let u := s.setReg Reg.WIN_CMD (BitVec.ofNat 32 (2 ^ 30 + bad * 2 ^ 28 + page.toNat * 2 ^ 17 + ep.val))
  (if bad = 0 then { u with msf := { u.msf with windows := tset 0 u.msf.windows (page.toNat * 64 + ep.val) (State.windowBits v) } }
    else u)

/-- The command WinWrite. -/
def execWinWrite (page : BitVec 11) (ep : Fin 64) (s : State) : Result := finish s (s.cmdWinWrite page ep)

/-- WIN_READ (R345, R368). -/
def State.cmdWinRead (page : BitVec 11) (ep : Fin 64) (s : State) : State :=
  ((s.setReg Reg.WIN_DATA (BitVec.ofNat 32 (s.window page.toNat ep.val))).setReg Reg.WIN_CMD
    (BitVec.ofNat 32 (page.toNat * 2 ^ 17 + ep.val)))

/-- The command WinRead. -/
def execWinRead (page : BitVec 11) (ep : Fin 64) (s : State) : Result := finish s (s.cmdWinRead page ep)

/-- XLT_WRITE (R357): COUNT 0 invalidates the entry. -/
def State.cmdXltWrite (entry : Fin 16) (f : Fin 64) (s : State) : State :=
  let lo := s.rf Reg.XLT_DATA0 17 0
  let n := s.rf Reg.XLT_DATA1 12 0
  let tag := s.rf Reg.XLT_DATA1 31 16
  let bad : Bool := !s.facetBound f.val || (tag == 0 && n != 0)
  let u := s.setReg Reg.XLT_CMD (BitVec.ofNat 32 (2 ^ 30 + b2n bad * 2 ^ 29 + entry.val * 2 ^ 24 + f.val * 2 ^ 16))
  let v := if n = 0 then 0 else lo + n * 2 ^ 18 + tag * 2 ^ 31
  (if bad then u
    else { u with msf := { u.msf with xlt := tset 0 u.msf.xlt (f.val * 16 + entry.val) v } })

/-- The command XltWrite. -/
def execXltWrite (entry : Fin 16) (f : Fin 64) (s : State) : Result := finish s (s.cmdXltWrite entry f)

/-- XLT_READ (R357, R368). -/
def State.cmdXltRead (entry : Fin 16) (f : Fin 64) (s : State) : State :=
  let e := tget 0 s.msf.xlt (f.val * 16 + entry.val)
  (((s.setReg Reg.XLT_DATA0 (BitVec.ofNat 32 (e % 2 ^ 18))).setReg Reg.XLT_DATA1
    (BitVec.ofNat 32 (e / 2 ^ 31 * 2 ^ 16 + nbits e 30 18))).setReg Reg.XLT_CMD
    (BitVec.ofNat 32 (b2n (!s.facetBound f.val) * 2 ^ 29 + entry.val * 2 ^ 24 + f.val * 2 ^ 16)))

/-- The command XltRead. -/
def execXltRead (entry : Fin 16) (f : Fin 64) (s : State) : Result := finish s (s.cmdXltRead entry f)

/-- Why a key region does not open (R359): 1 the facet's state, 2 the endpoint or the EID, 3 FIRST. A zeroised
module opens none (R461), nor does a region that is open. -/
def State.keyBad (s : State) (kr f ep first eid : Nat) : Nat :=
  if (s.facetState f != 2 && s.facetState f != 5) || bit (s.reg Reg.SEC_STAT) 23 || (s.keyRegion kr).isSome then 1
  else if (s.epHolder ep).isSome || (s.epKey ep).isSome || s.routeLocal eid then 2
  else if (s.kcs f).table.slices.length ≤ first then 3
  else 0

/-- KEY_OPEN (R359): the key is a free non-zero 16-bit value (log 4). -/
def State.cmdKeyOpen (kr : Fin 8) (rd wr : Bool) (f : Fin 64) (ep : Fin 64) (s : State) : State :=
  let first := s.rf Reg.KEY_DATA 26 18
  let eid := s.rf Reg.KEY_DATA 17 0
  let bad := s.keyBad kr.val f.val ep.val first eid
  let cmd := kr.val * 2 ^ 27 + b2n rd * 2 ^ 26 + b2n wr * 2 ^ 25 + bad * 2 ^ 23 + f.val * 2 ^ 16 + ep.val
  let u := s.setReg Reg.KEY_CMD (BitVec.ofNat 32 cmd)
  (if bad ≠ 0 then u
    else
      let key := BitVec.ofNat 32 ((s.freeWord).toNat % 65535 + 1)
      let r : KeyRegion := ⟨f.val, first, (s.kcs f.val).table.slices.length - first, ep.val, eid, rd, wr, key, 0⟩
      let u := { u with msf := { u.msf with keys := tput kr.val (some r) u.msf.keys } }
      let u := u.takeEid eid ep.val
      (u.setReg Reg.KEY_VALUE key).useFree 1)

/-- The command KeyOpen. -/
def execKeyOpen (kr : Fin 8) (rd wr : Bool) (f : Fin 64) (ep : Fin 64) (s : State) : Result := finish s (s.cmdKeyOpen kr rd wr f ep)

/-- KEY_CLOSE (R361). -/
def State.cmdKeyClose (kr : Fin 8) (s : State) : State :=
  ((s.closeKey kr.val).setReg Reg.KEY_CMD (BitVec.ofNat 32 (2 ^ 30 + kr.val * 2 ^ 27)))

/-- The command KeyClose. -/
def execKeyClose (kr : Fin 8) (s : State) : Result := finish s (s.cmdKeyClose kr)

/-- KEY_VALUE (R359): the key reads once, then zero. -/
def execKeyValue (who : Requester) (s : State) : Result :=
  let _ := who
  finish s ((s.emit (.read (s.reg Reg.KEY_VALUE))).setReg Reg.KEY_VALUE 0)

/-- The queue of an endpoint may be enabled (R369): LOG2 4–12, and its area in one slice of the facet. -/
def State.mqOk (s : State) (ep : Nat) : Bool :=
  match s.epHolder ep with
  | none => false
  | some f =>
    let base := s.mqBase ep
    let last := base + 64 + 8192 * 2 ^ s.mqLog2 ep - 1
    4 ≤ s.mqLog2 ep && s.mqLog2 ep ≤ 12 && sliceOf base == sliceOf last && s.sliceBound f (sliceOf base)

/-- MQ_ENABLE (R363, R369): TAIL is 0 when ENABLE goes from 0 to 1. -/
def State.cmdMqEnable (ep : Fin 64) (value : Word) (s : State) : State :=
  let a := Reg.MQ_CTL ep.val
  let u := s.wf a 30 30 (fld value 30 30)
  (if !bit value 31 then u.wf a 31 31 0
    else if s.mqOn ep.val then u
    else if s.mqOk ep.val then
      ({ u with msf := { u.msf with heads := tset 0 u.msf.heads ep.val 0 } }).setReg a (setFld (setFld (u.reg a) 31 31 1) 15 0 0)
    else u.wf a 31 31 0)

/-- The command MqEnable. -/
def execMqEnable (ep : Fin 64) (value : Word) (s : State) : Result := finish s (s.cmdMqEnable ep value)

end Sys2Proof.Machine
end

