-- ==== Sys2Proof/Machine/Mesh.lean ====
section
/-! DEFINITION. Regions, mesh routes, frames, retime windows (05), block resets and step restarts (01, 15), and
the schedule's commands (08). -/
namespace Sys2Proof.Machine

/-! Time messages (R380). -/

/-- A TIME payload. -/
def timePayload (kind facet step t1 t2 t3 value at_ refState : Nat) : Bytes :=
  leBytes 1 kind ++ leBytes 1 facet ++ zeros 2 ++ leBytes 4 step ++ leBytes 8 t1 ++ leBytes 8 t2 ++ leBytes 8 t3 ++
  leBytes 8 value ++ leBytes 8 at_ ++ leBytes 1 refState ++ zeros 15

namespace State

def refState (s : State) : Nat := s.rf Reg.CLK_STAT 31 29

/-- TIME_OK holds, or the module is the source (R382). -/
def timeGood (s : State) : Bool := bit (s.reg Reg.CLK_STAT) 28 || fld (s.hw Reg.SYNC_CTL) 31 30 == 1

/-- The EID a facet's conductor sends from: its session endpoint's, else its first endpoint's. -/
def facetEid (s : State) (f : Nat) : Nat :=
  match s.session f with
  | some x => (s.kcs f).eids.getD x.ep 0
  | none => (s.kcs f).eids.getD 0 0

/-- The EIDs of the other members of a facet's group. The stream names those of the next and the previous rank; those
of the others are free values (R158, R240; log 25). -/
def groupPeers (s : State) (f : Nat) : List Nat :=
  match (s.kcs f).group with
  | some g => ((List.range g.g).filter (fun i => i != 0)).map (fun i =>
      if i = 1 then g.next else if i + 1 = g.g then g.prev else (Config.groupEid g.digest ((g.rank + i) % g.g)).toNat)
  | none => []

/-- A time message of a facet to one member. -/
def sendTime (s : State) (f kind step value at_ dst : Nat) : State :=
  s.unitSend (mkPacket dst (s.facetEid f) 0 0x07 (s.jobTag f) 0 false
    (timePayload kind f step s.dt 0 0 value at_ s.refState))

def sendTimeAll (s : State) (f kind step value at_ : Nat) : State :=
  forEach (s.groupPeers f) s (fun t d => t.sendTime f kind step value at_ d)

end State

/-! Routes (R128 to R133, R235). -/

/-- Where a route starts or ends. -/
inductive RouteEnd where
  | cell (c : CellId) (q : Nat)
  | staging (r b : Nat)
  | vap (r a : Nat)
  | link (r q : Nat)
  | bank (i : Nat)
  deriving DecidableEq, Repr

/-- A logical cell by numbers. -/
def cellId (r b l : Nat) : CellId := ⟨Fin.ofNat 64 r, Fin.ofNat 8 b, Fin.ofNat 16 l⟩

/-- The endpoint code (R235). -/
def endOf (code : Nat) : RouteEnd :=
  let r := nbits code 31 26
  match nbits code 25 23 with
  | 0 => .cell (cellId r (nbits code 10 8) (nbits code 7 4)) (nbits code 2 0)
  | 1 => .staging r (nbits code 10 8)
  | 2 => .vap r (nbits code 1 0)
  | 3 => .link r (nbits code 3 0)
  | _ => .bank (nbits code 4 0)

/-- The queue that outbound queue q of region r fills: the neighbour and its inbound queue (R124, R155). -/
def neighbour (r q : Nat) : Option (Nat × Nat) :=
  if q < 2 then if r % 4 = 0 then none else some (r - 1, q + 2)
  else if q < 4 then if r % 4 = 3 then none else some (r + 1, q - 2)
  else if q < 12 then some (if r % 8 < 4 then r + 4 else r - 4, q)
  else none

/-- The crossing of a boundary that a link code names, outbound. -/
def crossing (code : Nat) : Option (Nat × Nat) :=
  if nbits code 9 8 = 2 ∧ code % 2 = 1 then neighbour (nbits code 15 10) (nbits code 7 0 / 2) else none

/-- The boundary queues that a route crosses, in order: region and inbound queue. A route that ends at a boundary link
ends in the last of them. -/
def RouteRec.stages (x : RouteRec) : List (Nat × Nat) := x.path.filterMap crossing

/-- A route ends at a boundary link: its flits wait in that link's queue for the route that goes on from there. -/
def RouteRec.toLink (x : RouteRec) : Bool :=
  match endOf x.sink with
  | .link _ _ => true
  | _ => false

/-- The segments between queues that a route's flits cross. -/
def RouteRec.hops (x : RouteRec) : Nat := x.stages.length + (if x.toLink then 0 else 1)

/-- The region in which a route starts. -/
def RouteRec.home (x : RouteRec) : Nat :=
  match endOf x.src with
  | .cell c _ => c.region.val
  | .staging r _ => r
  | .vap r _ => r
  | .link r _ => r
  | .bank _ => nbits (x.path.headD 0) 15 10

/-- The links of each segment between queues. -/
def segments : List Nat → List (List Nat)
  | [] => [[]]
  | a :: t =>
    match segments t with
    | [] => [[a]]
    | g :: r => if (crossing a).isSome then [a] :: g :: r else (a :: g) :: r

/-- The first link of segment h. -/
def RouteRec.firstLink (x : RouteRec) (h : Nat) : Option Nat := ((segments x.path).getD h []).head?

/-- The route that goes on from the boundary link at which route x ends. Of the routes of one mode that end at a link and
those that begin there, the n-th goes on as the n-th, and what is left over as the last: no field pairs them (log 40). -/
def Kcs.consumerOf (k : Kcs) (x : RouteRec) : Option RouteRec :=
  match endOf x.sink with
  | .link r q => match neighbour r q with
    | some n =>
      let same := k.routes.filter (fun y => y.mode % 2 == x.mode % 2)
      let next := same.filter (fun y => endOf y.src == .link n.1 n.2)
      next[min ((same.filter (fun y => y.sink == x.sink)).findIdx (fun y => y.num == x.num)) (next.length - 1)]?
    | none => none
  | _ => none

/-- Entries of a queue: inbound 0–15, and outbound to the VAPs 16–19 (R140). -/
def queueSize (q : Nat) : Nat := if q < 12 then 640 else 1664

/-- The queues a route crosses: region and queue number, outbound VAP queues as 16 + a. -/
def queuesOf (x : RouteRec) : List (Nat × Nat) :=
  (match endOf x.src with
   | .vap r a => [(r, 12 + a)]
   | _ => []) ++ x.stages ++
  (match endOf x.sink with
   | .vap r a => [(r, 16 + a)]
   | _ => [])

/-- Entries that a stream reserves in a queue. -/
def reservedIn (k : Kcs) (q : Nat × Nat) : Nat :=
  sumNat ((k.routes.filter (fun x => x.mode % 2 == 0 && (queuesOf x).contains q)).map (·.reserve))

/-- The lane of a queue that a route uses: scheduled flits, and bounded flits of VC0 and VC1 (R130, R235). -/
def RouteRec.lane (x : RouteRec) : Nat := if x.mode % 2 = 0 then 0 else 1 + x.mode / 2 % 2

namespace State

/-- A lane of queue q of region r, oldest flit first (R142). -/
def lane (s : State) (r q l : Nat) : List (Nat × Flit) := tget [] (s.region r).queues (q * 4 + l)

/-- The fill of queue q of region r. -/
def qFill (s : State) (r q : Nat) : Nat := (s.lane r q 0).length + (s.lane r q 1).length + (s.lane r q 2).length

/-- A lane is replaced; PEAK keeps an inbound queue's highest fill (R154). -/
def setLane (s : State) (r q l : Nat) (v : List (Nat × Flit)) : State :=
  let s := s.setRegion r { s.region r with queues := tset [] (s.region r).queues (q * 4 + l) v }
  if 16 ≤ q then s else
    let a := Reg.QUE_STAT r q
    s.wf a 10 0 (max (s.rf a 10 0) (s.qFill r q))

/-- Flits of route n in the scheduled lane of a queue. -/
def heldBy (s : State) (r q n : Nat) : Nat := ((s.lane r q 0).filter (fun e => e.1 == n)).length

def routeOf (s : State) (f n : Nat) : Option RouteRec := (s.kcs f).routes.find? (fun x => x.num == n)

/-- Where segment h of a route takes its flits. -/
def segFrom (_ : State) (x : RouteRec) (h : Nat) : RouteEnd :=
  if h = 0 then endOf x.src
  else let st := x.stages.getD (h - 1) (0, 0); .link st.1 st.2

/-- The region in which segment h runs. -/
def segRegion (s : State) (f : Nat) (x : RouteRec) (h : Nat) : Nat :=
  match s.segFrom x h with
  | .cell c _ => c.region.val
  | .staging r _ => r
  | .vap r _ => r
  | .link r _ => r
  | .bank _ => (s.kcs f).table.regions.headD 0

/-- The queue, as region, queue and route, at the start of a segment that takes its flits from one. -/
def startQueue (s : State) (x : RouteRec) (h : Nat) : Option (Nat × Nat) :=
  match s.segFrom x h with
  | .link r q => some (r, q)
  | .vap r a => some (r, 12 + a)
  | _ => none

/-- The oldest flit of the route's lane, if it is the route's: flits leave a queue in the order they entered it
(R142). -/
def head (s : State) (x : RouteRec) (r q : Nat) : Option Flit :=
  match s.lane r q x.lane with
  | (n, a) :: _ => if n = x.num then some a else none
  | [] => none

end State

/-- The staging offset that a slot's operand names. -/
def ioStaging (io : List FlitIO) : Option Nat :=
  match io with
  | .staging o :: _ => some (o.toNat / 64 * 64)
  | _ => none

/-- Priority of a bounded route (R235). -/
def RouteRec.prio (x : RouteRec) : Nat := nbits x.mode 3 2

/-- How far cell l lies after the cell last granted, in the row arbiter's order (R125). -/
def afterLast (last l : Nat) : Nat := (l + 31 - last) % 16

namespace State

/-- The flit that waits at the start of segment h of a route of a stream. A faulted cell completes its transfers with an error response
(R66). A bounded route injects at most its declared rate in a beat (R130). -/
def segHead (s : State) (k : Kcs) (x : RouteRec) (h : Nat) (io : List FlitIO) : Option Flit :=
  if h = 0 ∧ x.mode % 2 = 1 ∧ x.rate ≤ tget 0 (s.region x.home).sent x.num then none
  else match s.segFrom x h with
  | .cell c q =>
    let y := s.cell (s.cellKey c)
    if !k.names c then none
    else if y.mode = .faulted then some ⟨true, zeros 64, s.dt, none⟩ else (tget [] y.queues q).head?
  | .staging r _ => (ioStaging io).map (fun o => ⟨false, s.readStaging (r / 8 * 805306368 + o) 64, s.dt, none⟩)
  | .bank _ => match io with
    | .flit b d :: _ => some ⟨b, padTo 64 d, s.dt, none⟩
    | _ => none
  | .link r q => s.head x r q
  | .vap r a => s.head x r (12 + a)

/-- Whether queue q of region r takes one more flit of route x: a reserved entry of its own, or, in bounded mode, an
entry that no stream reserved. Each virtual channel has half of those, so that VC1 never waits for space that VC0
holds (R130, R140, R142; log 40). -/
def queueTakes (s : State) (f : Nat) (x : RouteRec) (r q : Nat) : Bool :=
  let free := queueSize q - reservedIn (s.kcs f) (r, q)
  match x.lane with
  | 0 => s.heldBy r q x.num < x.reserve
  | 1 => (s.lane r q 1).length < free / 2
  | _ => (s.lane r q 2).length < free - free / 2

/-- The number under which the flits of route x wait in the queue at its end. -/
def nextRoute (s : State) (f : Nat) (x : RouteRec) : Nat :=
  match (s.kcs f).consumerOf x with
  | some y => y.num
  | none => x.num

/-- Where segment h puts its flits. -/
inductive Target where
  | cell (c : CellId) (q : Nat)
  /-- A queue of a region, entered for a route. -/
  | queue (r q route : Nat)
  | staging (r : Nat)
  | bank (i : Nat)
  /-- Beyond the link that ends the route, or at a port queue that is bound to no route (R237; log 40). -/
  | nowhere
  deriving DecidableEq, Repr

def segTo (s : State) (f : Nat) (x : RouteRec) (h : Nat) : Target :=
  match x.stages.drop h with
  | st :: t => .queue st.1 st.2 (if t.isEmpty && x.toLink then s.nextRoute f x else x.num)
  | [] =>
    match endOf x.sink with
    | .link _ _ => .nowhere
    | .cell c q => if (s.kcs f).names c then .cell c q else .nowhere
    | .staging r _ => .staging r
    | .vap r a => .queue r (16 + a) x.num
    | .bank i => .bank i

/-- The target takes one more flit of the route. -/
def targetTakes (s : State) (f : Nat) (x : RouteRec) (io : List FlitIO) : Target → Bool
  | .cell c q => (s.cell (s.cellKey c)).mode == .faulted || (tget [] (s.cell (s.cellKey c)).queues q).length < 16
  | .queue r q n => s.queueTakes f { x with num := n } r q
  | .staging _ => (ioStaging io).isSome
  | .bank _ => true
  | .nowhere => false

/-- The bounded route whose flit crosses next on the link that segment h of x waits for, among those that can cross:
the row arbiter's choice at a row port; else the highest priority and, within one priority, the oldest flit (R125,
R130). -/
def winner (s : State) (f : Nat) (x : RouteRec) (h : Nat) (io : List FlitIO) : Option (RouteRec × Nat) :=
  match x.firstLink h with
  | none => none
  | some l =>
    let all := (s.kcs f).routes.flatMap (fun y => (List.range y.hops).map (fun g => (y, g)))
    let rivals := all.filterMap (fun c =>
      let mine := if c.1.num = x.num ∧ c.2 = h then io else []
      if c.1.mode % 2 = 1 ∧ c.1.firstLink c.2 = some l ∧ s.targetTakes f c.1 mine (s.segTo f c.1 c.2) then
        (s.segHead (s.kcs f) c.1 c.2 mine).map (fun a => (c, a.born))
      else none)
    let row := nbits l 9 8 == 1 && l % 2 == 0
    let turn (y : RouteRec × Nat) : Nat := match s.segFrom y.1 y.2 with
      | .cell d _ => afterLast (s.block (8 * d.region.val + d.block.val)).rowLast d.cell.val
      | _ => 16
    let before (a b : (RouteRec × Nat) × Nat) : Bool :=
      if row then turn a.1 < turn b.1
      else b.1.1.prio < a.1.1.prio || (a.1.1.prio == b.1.1.prio && a.2 < b.2)
    match rivals with
    | [] => none
    | a :: t => some (t.foldl (fun b y => if before y b then y else b) a).1

/-- A unit of device memory is read for facet f: its home agent serves what is queued for its line first (R352), its
read may meet errors (R99), and a unit outside the facet's slices gives an error response (R31, R102). -/
def readUnit (s : State) (f u : Nat) (found : ScrubFound) : State × Flit :=
  if s.inSlices f (u * 64) 64 then
    let t := (s.homeFlush (u / 2)).readFinds (u * 64) [found]
    (t, ⟨t.linePoison (u / 2) && t.poison.contains u, sub (t.lineBytes (u / 2)) (u % 2 * 64) 64, t.dt, some u⟩)
  else (s.raise Reg.MSF_EVT 0, ⟨true, zeros 64, s.dt, none⟩)

/-- Flits that have come from outside join the route's inbound VAP queue. The sender holds what the route's entries
have no room for: a queue never drops a flit (R140, R142). -/
def arrive (s : State) (f : Nat) (x : RouteRec) (h : Nat) (io : List FlitIO) : State :=
  match s.segFrom x h with
  | .vap r a =>
    let join (t : State) (a : Nat) (e : Flit) : State := t.setLane r a x.lane (t.lane r a x.lane ++ [(x.num, e)])
    forEach io s (fun t i => if t.queueTakes f x r (12 + a) then (match i with
      | .flit b d => join t (12 + a) ⟨b, padTo 64 d, t.dt, none⟩
      | .memory u e => join (t.readUnit f u.toNat e).1 (12 + a) (t.readUnit f u.toNat e).2
      | .staging _ => t) else t)
  | _ => s

/-- The byte address in staging of offset off beneath region r (R16). -/
def stagingAt (_ : State) (r off : Nat) : Nat := r / 8 * 805306368 + off

/-- The flit at the start of segment h leaves it: a cell's port queue makes room for its ST, a bounded route's
injection counts (R130), and a bounded flit of a cell moves the row arbiter on (R125). -/
def takeFlit (s : State) (x : RouteRec) (h : Nat) : State :=
  let s := match s.segFrom x h with
    | .cell c q =>
      let k := s.cellKey c
      let y := s.cell k
      let b := 8 * c.region.val + c.block.val
      let s := if y.mode = CellMode.faulted then s
        else (s.setCell k { y with queues := tset [] y.queues q ((tget [] y.queues q).drop 1) }).advanceXfer c
      if x.mode % 2 = 0 then s else s.setBlock b { s.block b with rowLast := c.cell.val }
    | _ => s
  let s := match s.startQueue x h with
    | some (r, q) => s.setLane r q x.lane ((s.lane r q x.lane).drop 1)
    | none => s
  if h = 0 ∧ x.mode % 2 = 1 then
    let r := x.home
    s.setRegion r { s.region r with sent := tset 0 (s.region r).sent x.num (tget 0 (s.region r).sent x.num + 1) }
  else s

def bankBound (s : State) (b : Nat) : Bool := bit (s.reg (Reg.BANK_STAT b)) 23
def bankFacet (s : State) (b : Nat) : Nat := s.rf (Reg.BANK_STAT b) 29 24

/-- The physical bank of a facet-local index (R170). -/
def physicalBank (s : State) (f i : Nat) : Option Nat :=
  (List.range 32).find? (fun b => s.bankBound b && s.bankFacet b == f && s.rf (Reg.BANK_STAT b) 4 0 == i)

/-- The cell whose ST sent what route x carries, by way of the routes that x goes on from; n bounds the way. -/
def sender (s : State) (f : Nat) (x : RouteRec) : Nat → Option CellId
  | 0 => none
  | n + 1 => match endOf x.src with
    | .cell c _ => some c
    | .link _ _ => match (s.kcs f).routes.find? (fun y => ((s.kcs f).consumerOf y).any (fun z => z.num == x.num)) with
      | some y => s.sender f y n
      | none => none
    | _ => none

/-- A flit reaches its target. One to a faulted cell completes with an error response: nothing takes it, and the cell
that sent it records XFER (R66, R68). -/
def putFlit (s : State) (f : Nat) (x : RouteRec) (io : List FlitIO) (flit : Flit) : Target → State
  | .cell c q =>
    let k := s.cellKey c
    let y := s.cell k
    if y.mode = .faulted then
      (match s.sender f x (1 + (s.kcs f).routes.length) with
       | some d => if (s.cell (s.cellKey d)).mode = .faulted then s else s.xferFault d none
       | none => s)
    else (s.setCell k { y with queues := tset [] y.queues q (tget [] y.queues q ++ [flit]) }).advanceXfer c
  | .queue r q n => s.setLane r q x.lane (s.lane r q x.lane ++ [(n, flit)])
  | .staging r => match ioStaging io with
    | some o => s.writeStaging (s.stagingAt r o) flit.data
    | none => s
  | .bank i => match s.physicalBank f i with
    | some b => s.emit (.bank b flit.data)
    | none => s
  | .nowhere => s

/-- One flit crosses segment h of route x. A scheduled slot that finds no flit or no reserved entry stalls its
region (R136); a scheduled flit that meets a full port queue is a PORT fault of that cell (R129); a bounded flit
waits. -/
def moveFlit (s : State) (f : Nat) (x : RouteRec) (h : Nat) (io : List FlitIO) : State :=
  let r := s.segRegion f x h
  let sched := x.mode % 2 = 0
  let to_ := s.segTo f x h
  match s.segHead (s.kcs f) x h io with
  | none =>
    match s.startQueue x h with
    | some (_, q) => if sched then s.stallRegion r (.inEmpty q x.num) else s
    | none => s
  | some flit =>
    if s.targetTakes f x io to_ then (s.takeFlit x h).putFlit f x io flit to_
    else if !sched then s
    else match to_ with
      | .cell c _ => (s.takeFlit x h).cellFault c.region.val c.block.val (s.posOf c) 7
      | .queue n q tag => s.stallRegion r (.outFull n q tag x.reserve)
      | _ => s

/-- A frozen region moves no flit, but for the bounded route that a cell of it waits for (R133, R136; log 40). -/
def mayMove (s : State) (f : Nat) (x : RouteRec) (h : Nat) : Bool :=
  let r := s.segRegion f x h
  let waits (c : CellId) : Bool := match (s.cell (s.cellKey c)).pend with
    | some p => (s.portRoute c p.queue p.load).any (fun y => y.num == x.num)
    | none => false
  !s.frozenRegion r ||
  (x.mode % 2 == 1 && s.rf (Reg.REG_STAT r) 18 18 == 0 && (s.region r).holdUntil ≤ s.beat &&
    (s.region r).stalls.any (fun w => match w with
      | .load c => waits c
      | .store c => waits c
      | _ => false))

/-! Stalls (R136). -/

/-- Whether what stopped region r still holds. -/
def blocked (s : State) (r : Nat) (w : Stall) : Bool :=
  match w with
  | .load c => (s.cell (s.cellKey c)).pend.any (fun p => p.moved < p.need)
  | .store c => (s.cell (s.cellKey c)).pend.any (fun p => p.moved < p.need)
  | .inEmpty q n => match s.lane r q 0 with
    | e :: _ => e.1 != n
    | [] => true
  | .outFull d q n lim => lim ≤ s.heldBy d q n
  | .engine _ => false

/-- Transfers that waited go on, and the region resumes when nothing stops it. -/
def resumeRegion (s : State) (r : Nat) : State :=
  let s := forEach (s.region r).stalls s (fun t w => match w with
    | .load c => t.advanceXfer c
    | .store c => t.advanceXfer c
    | _ => t)
  let keep := (s.region r).stalls.filter (fun w => s.blocked r w)
  (s.setRegion r { s.region r with stalls := keep }).wf (Reg.REG_STAT r) 19 19 (if keep.isEmpty then 0 else 1)

def clearStalls (s : State) (r : Nat) : State :=
  (s.setRegion r { s.region r with stalls := [] }).wf (Reg.REG_STAT r) 19 19 0

/-! Beats and frames (R134 to R147). -/

/-- Device beats of a region beat. -/
def beatRate (s : State) (r : Nat) : Nat := if s.regionPoint r = 1 then 2 else 1

/-- Device beats that a throttled region beat spans (R425). -/
def stageSpan (n : Nat) : Nat := [1, 2, 2, 2, 2, 3, 4, 6, 8].getD n 8

def stage (s : State) (r : Nat) : Nat := s.rf (Reg.THM_RS r) 31 28

/-- Slips of a beat with lost time (R138), at least those of the throttle stage (R425). -/
def slipsOf (s : State) (r lost : Nat) : Nat :=
  max (if 8 < lost then (lost - 8 + 255) / 256 else 0) (stageSpan (s.stage r) - 1)

/-- Slip and hold beats of a region in the present frame: SLIP_THIS, and S (R138, R143, R147). -/
def addSlipBeats (s : State) (r n : Nat) : State :=
  (s.addSat (Reg.REG_SLIP r) 7 0 n).setRegion r { s.region r with frameS := (s.region r).frameS + n }

def lastBeat (s : State) (r : Nat) : Nat := if s.regionPoint r = 1 then 2047 else 4095

/-- The largest count S of a facet's regions (R143). -/
def facetS (s : State) (f : Nat) : Nat := maxNat ((s.kcs f).table.regions.map (fun r => (s.region r).frameS))

/-- Regions that have ended their frame's last beat hold while another region of their facet is later (R143). -/
def showHolds (s : State) (f : Nat) : State :=
  let top := s.facetS f
  forEach (s.kcs f).table.regions s (fun t r =>
    if (t.region r).done && (t.region r).frameS < top then t.wf (Reg.REG_STAT r) 18 18 1 else t)

/-- A region begins local beat b of a new frame; its closing idle beats were counted. -/
def beginFrame (s : State) (f r b start : Nat) : State :=
  let a := Reg.REG_SLIP r
  let s := s.wf a 15 8 (s.rf a 7 0)
  let s := s.wf a 7 0 0
  let s := (s.wf (Reg.REG_STAT r) 11 0 b).setRegion r { s.region r with
    frameS := 0, beatStart := start, holdUntil := 0, done := false, behind := none, rejoin := false, sent := [] }
  let s := if bit (s.reg (Reg.REG_STAT r)) 20 then s else s.wf (Reg.REG_STAT r) 18 18 0
  let q := Reg.REG_RETIME r
  let s := if bit (s.reg q) 3 then s.addSat q 15 8 1 else s
  let x := s.facet f
  forEach ((s.kcs f).cells.filter (fun c => c.region == r && c.prog != 0xFFFF)) s (fun t c =>
    let k := t.keyOf c.region c.block c.cell
    let y := t.cell k
    let y := { y with endSeen := false }
    if y.mode = .waiting ∧ x.inStep ∧ !x.void then
      let o := (y.frame + 1) * t.frameTicks r + t.frameOrigin f
      t.setCell k { y with mode := .running, frame := y.frame + 1, last := o, fx := o }
    else t.setCell k y)

/-! Retime windows (R150 to R153). -/

/-- The regions of half d, d = 0–15. -/
def halfRegions (d : Nat) : List Nat := (List.range 4).map (fun i => 4 * d + i)

/-- The nominal setpoint of a rail in mV (R270): VCORE of half d at FULL or HALF, VSRAM of stack d − 16, VVIF of stack
d − 24. -/
def railNominal (d p : Nat) : Nat := if d < 16 then (if p = 1 then 620 else 750) else if d < 24 then 800 else 500

/-- The setpoint of a rail: its nominal value and the trim of its fuses (R270). -/
def setPoint (s : State) (d p : Nat) : Nat :=
  ((railNominal d p : Int) + max (-50) (min 50 (tget 0 s.sys.pwr.railTrim d))).toNat

/-- A relock starts at a beat boundary: the region holds, and its new point shows (R150). -/
def startRelock (s : State) (r : Nat) : State :=
  let a := Reg.REG_STAT r
  let old := s.regionPoint r
  let x := s.region r
  let s := (match x.newPoint with
    | some p => (s.wf a 22 21 p).setRegion r { x with newPoint := some old, relockDue := false }
    | none => s.setRegion r { x with relockDue := false })
  ((s.wf a 20 20 1).wf a 18 18 1).wf (Reg.REG_RETIME r) 3 3 0

/-- The rail of half i stands at the setpoint of its point, once none of its regions has a change of point left (R272). -/
def settleRail (s : State) (i : Nat) : State :=
  let p := s.regionPoint (4 * i)
  if p ≠ 2 ∧ (halfRegions i).all (fun r => (s.region r).newPoint.isNone) then s.wf (Reg.RAIL i) 11 0 (s.setPoint i p) else s

/-- The regions of half i have point p, and its rail the setpoint of p (R153, R272). -/
def keepPoint (s : State) (i p : Nat) : State :=
  (forEach (halfRegions i) s (fun t r =>
    (t.wf (Reg.REG_STAT r) 22 21 p).setRegion r { t.region r with newPoint := none })).settleRail i

/-- The region holds for n device beats at a beat boundary (R146, R152). -/
def holdFor (s : State) (r n : Nat) : State :=
  let s := (s.addSlipBeats r n).wf (Reg.REG_STAT r) 18 18 1
  let x := s.region r
  s.setRegion r { x with beatStart := x.beatStart + n, holdUntil := x.beatStart + n }

/-- A relock has ended; a rail whose half has a lower point now falls (R272). -/
def endRelock (s : State) (r : Nat) : State :=
  let a := Reg.REG_STAT r
  ((((s.wf a 20 20 0).wf a 18 18 0).wf (Reg.REG_RETIME r) 15 8 0).setRegion r { s.region r with newPoint := none }).settleRail (r / 4)

/-- A relock waits in the region, of KIND 0 point change, 1 trim update or 2 repair (R152). -/
def askRelock (s : State) (r kind : Nat) : State :=
  ((s.wf (Reg.REG_RETIME r) 3 3 1).wf (Reg.REG_RETIME r) 2 1 kind).wf (Reg.REG_RETIME r) 15 8 0

/-- Regions of a facet whose relock waits. -/
def pendingRelocks (s : State) (f : Nat) : List Nat :=
  (s.kcs f).table.regions.filter (fun r => bit (s.reg (Reg.REG_RETIME r)) 3)

/-- A relock of the region is under way or waits for the region to come to rest; a frame whose first beat needs the
region waits for it (R151). -/
def relocking (s : State) (r : Nat) : Bool := bit (s.reg (Reg.REG_STAT r)) 20 || (s.region r).relockDue

/-- The outbound queues of a region: those that it fills at its neighbours, and those of its VAPs. -/
def outbound (r : Nat) : List (Nat × Nat) :=
  (List.range 12).filterMap (neighbour r) ++ (List.range 4).map (fun a => (r, 16 + a))

/-- The region's outbound queues hold nothing: it has drained them (R150). -/
def drained (s : State) (r : Nat) : Bool := (outbound r).all (fun q => s.qFill q.1 q.2 == 0)

/-- A relock that waits for the drain starts at the beat boundary at which the outbound queues are empty, from the local
beat of its window on (R150, R243). -/
def relockAtBeat (s : State) (r : Nat) : State :=
  if (s.region r).relockDue && (s.region r).window ≤ s.rf (Reg.REG_STAT r) 11 0 && s.drained r then s.startRelock r else s

/-- A relock without a window starts at a beat boundary, when the outbound queues have drained (R150, R152). -/
def relockSoon (s : State) (r : Nat) : State :=
  (s.setRegion r { s.region r with relockDue := true, window := 0 }).relockAtBeat r

/-- The end of a region beat (R137, R138, R147): lost time, slips, and the next beat's start, until which the region
issues nothing. In its frame's last beat the region waits for the frame start; a region that a frame start has found
behind begins that frame then, skipping the lead-in beats that it has missed, and counts what it is later than the
lead-in as slips of the new frame (R144). Slips of a region that is to
rejoin its facet are not counted (R146). -/
def endBeat (s : State) (r : Nat) (active : Bool) (lost : Nat) : State :=
  let k := s.beatRate r
  let lost := if active then lost else 0
  let slips := if active then s.slipsOf r lost else 0
  let s := s.count (Reg.REG_LOST r) (lost * k)
  let s := if slips = 0 then s
    else
      let s := (s.addSat (Reg.REG_SLIP r) 31 16 slips).raise (Reg.REG_EVT r) 0
      if (s.region r).rejoin then s else s.addSlipBeats r (slips * k)
  let b := s.rf (Reg.REG_STAT r) 11 0
  let x := s.region r
  let next := x.beatStart + k * (1 + slips)
  let s := s.setRegion r { x with beatStart := next, holdUntil := if slips = 0 then 0 else next, sent := [] }
  let s := if bit (s.reg (Reg.REG_STAT r)) 20 then s else s.wf (Reg.REG_STAT r) 18 18 0
  let f := s.regionFacet r
  let s := if b < s.lastBeat r then s.wf (Reg.REG_STAT r) 11 0 (b + 1)
    else match x.behind with
      | some start =>
        let d := ceilDiv (next - start) k
        let s := s.beginFrame f r (min 16 d) next
        if d ≤ 16 then s else s.setRegion r { s.region r with frameS := (d - 16) * k }
      | none => s.setRegion r { s.region r with done := true }
  let s := if s.regionBound r && !(s.kcs f).schedule.multi then s.showHolds f else s
  s.relockAtBeat r

/-- The conductor may issue the facet's first frame: the digest of the rank before it has come and agrees (log 25), device
time is good, and the window of a bind's point change is over (R151, R158, R382). -/
def mayStart (s : State) (f : Nat) : Bool :=
  let x := s.facet f
  !x.firstFrame || (!x.mismatch && ((s.kcs f).group.all (fun g => g.g ≤ 1) || x.digestSeen) && (!(s.kcs f).schedule.multi || s.timeGood) &&
    (s.kcs f).table.regions.all (fun r => !s.relocking r))

/-- No block of the facet waits for a reset, and none of its regions is being re-timed after a repair. -/
def blocksReset (s : State) (f : Nat) : Bool :=
  (s.kcs f).table.regions.all (fun r => (List.range 8).all (fun b => !(s.block (8 * r + b)).needReset) &&
    !(s.relocking r && s.rf (Reg.REG_RETIME r) 2 1 == 2))

/-- Lateness L that takes effect at group frame time t: the largest for that frame (R145). -/
def lateAt (s : State) (f t : Nat) : Nat :=
  maxNat (((s.facet f).lateness.filter (fun e => e.1 == t)).map (·.2))

/-- A commit of the facet waits and its boundary has come: where the facet was RUNNING, no step is in flight, and with AT
the step named has committed (R248). A commit waits while an update is between its third and fifth steps (R452), and while a repair of a
region of the facet is in progress (R23). -/
def commitDue (s : State) (f : Nat) : Bool :=
  let x := s.facet f
  let upd := s.rf Reg.UPD_STAT 31 29
  match x.commit with
  | none => false
  | some c => !(3 ≤ upd && upd ≤ 5) && s.blocksReset f && (!c.running || !x.inStep) && (match c.at_ with
    | none => true
    | some a => (x.step + 2 ^ 32 - (a + 1)) % 2 ^ 32 < 2 ^ 31)

/-- The frames of a facet run, while no commit is due: RUNNING, DRAINING with its step in flight, or HELD with START given. -/
def framesRun (s : State) (f : Nat) : Bool :=
  let st := s.facetState f
  !s.commitDue f && (st == 3 || (st == 4 && (s.facet f).inStep) || (st == 2 && (s.facet f).startDue))

/-- A HOLD ends at the first frame boundary after the step in flight has committed (R246). -/
def holdEnds (s : State) (f : Nat) : State :=
  let x := s.facet f
  if s.facetState f = 4 ∧ x.drain = 1 ∧ !x.inStep then
    ((s.setFacet f { x with drain := 0 }).setFacetState f 2).raise Reg.CFG_EVT 0
  else s

/-- A frame start of a single-module facet: S beats after the frame would have ended, idle beats counted in the
frame they close, every region at local beat 0 (R135, R143). -/
def frameSingle (s : State) (f : Nat) : State :=
  let x := s.facet f
  let top := s.facetS f
  let start := if x.frames = 0 then s.beat else x.startBeat + 4096 + top
  let s := forEach (s.kcs f).table.regions s (fun t r =>
    (if (t.region r).rejoin then t else t.addSat (Reg.REG_SLIP r) 7 0 (top - (t.region r).frameS)).beginFrame f r 0 start)
  s.setFacet f { s.facet f with startBeat := start }

/-- The next group frame time of a multi-module facet, in device beats (R144, R377). -/
def groupTime (s : State) (f : Nat) : Nat :=
  let x := s.facet f
  if x.frames = 0 then ceilDiv (s.beat - x.ofs) 4096 * 4096 + x.ofs else x.startBeat + 4096

/-- The group frame time named by a STOP has come (R384). -/
def stopsNow (s : State) (f : Nat) : Bool :=
  match (s.facet f).stopAt with
  | some t => t ≤ s.groupTime f
  | none => false

/-- A frame start of a multi-module facet at its group frame time: a region d beats behind ends its old frame in the
lead-in and begins the new one at local beat d; lateness beyond the lead-in delays this module, is told to every member
and moves frame f + 2 (R144, R145). -/
def frameMulti (s : State) (f : Nat) : State :=
  let x := s.facet f
  let first := x.frames = 0
  let top := if first then 0 else s.facetS f
  let l := top - 16
  let due := s.groupTime f
  let move := s.lateAt f due
  let t0 := due + move
  let s := forEach (s.kcs f).table.regions s (fun t r =>
    let d := if first ∨ (t.region r).rejoin then 0 else ((t.region r).frameS - l) / t.beatRate r
    if d = 0 ∨ (t.region r).done then t.beginFrame f r d (t0 + l + d * t.beatRate r)
    else t.setRegion r { t.region r with behind := some (t0 + l) })
  let x := s.facet f
  let late := x.lateness.filter (fun e => due < e.1)
  let late := late.map (fun e => (e.1 + move, e.2))
  let late := if l = 0 then late else late ++ [(t0 + 4096, l)]
  let s := s.setFacet f { x with startBeat := t0, ofs := x.ofs + move, lateness := late, stopAt := x.stopAt.map (· + move) }
  if l = 0 then s else s.sendTimeAll f 6 0 l (x.startBeat * 256)

/-- At the first frame start after a bind the group digest goes to the next rank, once (R158). -/
def sendDigest (s : State) (f : Nat) : State :=
  let x := s.facet f
  match (s.kcs f).group with
  | some g =>
    if 1 < g.g ∧ x.firstFrame ∧ !x.digestSent ∧ s.framesRun f then
      (s.setFacet f { x with digestSent := true }).sendTime f 8 0 (leNat g.digest) 0 g.next
    else s
  | none => s

/-- A frame start (R135, R143 to R146, R158, R190, R246): a facet that starts leaves HELD, and its key regions close (R361). -/
def frameStart (s : State) (f : Nat) : State :=
  let s := (((s.loseGroup f).retireDue f).holdEnds f).sendDigest f
  if !s.framesRun f || !s.mayStart f || bit (s.reg Reg.CND_STAT) 27 then s
  else if s.stopsNow f then s.faultStop f
  else
    let s := if (s.facet f).startDue then
        let auto := (s.facet f).autoStart
        let t := ((s.setFacet f { s.facet f with startDue := false, autoStart := false }).setFacetState f 3).closeKeys f
        if auto then t else t.raise Reg.CFG_EVT 0
      else s
    let x := s.facet f
    let s := s.setFacet f { x with gapLeft := if x.inStep then x.gapLeft else x.gapLeft - 1, endMarked := false, frame := if x.inStep then x.frame + 1 else x.frame }
    let s := if (s.kcs f).schedule.multi then s.frameMulti f else s.frameSingle f
    let x := s.facet f
    s.setFacet f { x with frames := x.frames + 1, firstFrame := false }

/-! Isolation, block resets, restarts (R21, R66, R72, R139, R443 to R446). -/

/-- A facet's cell of region r is isolated by its wrapper, without a cause of its own. -/
def isolateCell (s : State) (r b l : Nat) : State :=
  let c := cellId r b l
  let k := s.cellKey c
  let s := s.wf (Reg.CELL_STAT r b (s.posOf c)) 0 0 1
  let s := s.setCell k { s.cell k with mode := .faulted, pend := none }
  s.count Reg.LOC_CELL 1

/-- Every cell that a facet places in region r is isolated, and their blocks ask for a reset; a retired block stays as
it is (R72). -/
def isolateRegion (s : State) (f r : Nat) : State :=
  forEach ((s.kcs f).cells.filter (fun c => c.region == r && !bit (s.reg (Reg.BLK_MAP r c.block)) 24)) s (fun t c =>
    let k := 8 * r + c.block
    (t.isolateCell r c.block c.cell).setBlock k { t.block k with needReset := true })

/-- A region's issue stood still, or its relock failed (R139, R153). -/
def regionStallFault (s : State) (r : Nat) : State :=
  let s := s.raise (Reg.REG_EVT r) 1
  if s.regionBound r then ((s.isolateRegion (s.regionFacet r) r).clearStalls r).voidStep (s.regionFacet r) false
  else s.clearStalls r

/-- The 17 cells of a block are reset; contents of their stores stay (R389). -/
def resetCells (s : State) (r b : Nat) : State :=
  forEach (List.range 17) s (fun t p =>
    let k := posKey r b p
    let x := t.cell k
    (t.setCell k { CellState.reset with store := x.store, progLen := x.progLen, progDigest := x.progDigest, dataDigest := x.dataDigest }).wf
      (Reg.CELL_STAT r b p) 0 0 0)

/-- LOGICAL of each position follows the mapping of R69: the sixteen positions that run a logical cell (R75). -/
def markLogical (s : State) (r b : Nat) : State :=
  let active := s.rf (Reg.BLK_MAP r b) 20 16
  forEach (List.range 17) s (fun t p =>
    t.wf (Reg.CELL_STAT r b p) 1 1 (b2n (if active < 17 then p != active else p < 16)))

/-- A region that a repair has taken out of its facet is re-timed without a window, once it has completed its beat and
its outbound queues have drained, and joins its facet again at the next frame start (R21, R146, R150, R152). -/
def retimeRegion (s : State) (r : Nat) : State :=
  let s := s.setRegion r { s.region r with rejoin := true, frameS := 0 }
  if s.regionPoint r = 2 then s
  else (s.askRelock r 2).setRegion r { (s.askRelock r 2).region r with relockDue := true, window := 0 }

/-- A position is mapped out: the row is remapped, and the logical cells from it on run at new positions, which
hold no image yet (R69, R72). -/
def mapOutPosition (s : State) (r b p : Nat) : State :=
  let s := ((s.wf (Reg.BLK_MAP r b) 20 16 p).markLogical r b).retimeRegion r
  forEach ((List.range 17).filter (fun i => p < i)) s (fun t i =>
    let k := posKey r b i
    t.setCell k { t.cell k with progLen := 0, progDigest := [], dataDigest := [] })

/-- The block cannot be used: it is retired, every position isolated, and the event goes to the chip level, which
stops the facet (R22, R72, R443). -/
def retireBlock (s : State) (r b : Nat) : State :=
  let s := (s.wf (Reg.BLK_MAP r b) 24 24 1).raise (Reg.BLK_EVT r b) 2
  let s := forEach (List.range 17) s (fun t p =>
    (t.wf (Reg.CELL_STAT r b p) 0 0 1).setCell (posKey r b p) { t.cell (posKey r b p) with mode := .faulted })
  if s.regionBound r then
    let f := s.regionFacet r
    s.faultStop f
  else s

/-- The reset controller's work on a block (R21, R22, R72, R389). A retired block stays isolated. -/
def blockReset (s : State) (r b : Nat) (clean : Bool) : State :=
  if bit (s.reg (Reg.BLK_MAP r b)) 24 then s.setBlock (8 * r + b) BlockState.reset else
  let x := s.block (8 * r + b)
  let m := Reg.BLK_MAP r b
  let s := (s.resetCells r b).setBlock (8 * r + b) BlockState.reset
  let s := s.addSat Reg.LOC_BR 31 16 1
  let s := s.raise (Reg.BLK_EVT r b) 1
  let active := if s.rf m 4 0 < 17 then s.rf m 4 0 else s.rf m 12 8
  let kept := s.rf m 20 16
  let s := s.wf m 20 16 (if active < 17 then active else kept)
  if !clean then s.retireBlock r b
  else match x.bad with
    | [] => s
    | [p] => if kept < 17 then s.retireBlock r b else (s.mapOutPosition r b p).raise (Reg.BLK_EVT r b) 0
    | _ => s.retireBlock r b

/-- A cell's images are placed in its store: the program to its end, data from unit 0 (R64, R237, R445). -/
def placeImages (s : State) (f : Nat) (x : CellRec) : State :=
  let k := s.keyOf x.region x.block x.cell
  let c := s.cell k
  let im := (s.kcs f).images
  let prog := if x.prog = 0xFFFF then [] else (im.getD x.prog ⟨[], []⟩).data
  let data := if x.data = 0xFFFF then [] else (im.getD x.data ⟨[], []⟩).data
  let st := putBytes (putBytes c.store 0 data) (storeBytes - prog.length) prog
  s.setCell k { c with store := st, progLen := prog.length / 16, progDigest := sha384 prog, dataDigest := sha384 data }

/-- Cells of a facet that run at a position without their images. -/
def homeless (s : State) (f : Nat) : List CellRec :=
  (s.kcs f).cells.filter (fun x =>
    let c := s.cell (s.keyOf x.region x.block x.cell)
    (x.prog != 0xFFFF || x.data != 0xFFFF) && c.progDigest == [] && c.dataDigest == [])

/-- Flits of the voided step leave the facet's queues. -/
def emptyQueues (s : State) (f : Nat) : State :=
  forEach (s.kcs f).table.regions s (fun t r =>
    let t := t.setRegion r { t.region r with queues := [] }
    forEach (List.range 136) t (fun u p =>
      let k := r * 136 + p
      if (u.cell k).queues.isEmpty then u else u.setCell k { u.cell k with queues := [] }))

/-- The step in flight runs again from its first frame, with its step table unchanged (R210, R444). -/
def rerun (s : State) (f : Nat) : State :=
  let x := s.facet f
  let s := s.setFacet f { x with inStep := true, void := false, repair := false, frame := 0, endMarked := false, badAddrs := [], badPrev := x.badAddrs }
  let s := forEach (s.kcs f).table.regions s (fun t r => t.clearStalls r)
  ((s.emptyQueues f).writeStepTable f).startCells f false

/-- A step or repair restart (R221, R443 to R446). -/
def stepRestart (s : State) (f : Nat) (read : ImageRead) : State :=
  let x := s.facet f
  if !x.void || !s.blocksReset f || (s.kcs f).table.regions.any (fun r => s.relocking r) then s
  else
    let s := if x.repair then s.addSat (Reg.REC f) 15 0 1 else s.addSat (Reg.REC f) 31 16 1
    let s := s.raise Reg.CND_EVT 8
    if 3 ≤ x.voids + 1 then (s.faultStop f).sesEvent f 0 8
    else
      let s := s.setFacet f { x with voids := x.voids + 1 }
      let s := if x.joined then s.setFacet f { s.facet f with joined := false } else s.sendTimeAll f 7 x.step 0 0
      if x.repair then
        match read with
        | .good => (forEach (s.homeless f) s (fun t c => t.placeImages f c)).rerun f
        | _ => (s.raise Reg.CND_EVT 9).faultStop f
      else s.rerun f

/-! The schedule's commands (R243). -/

/-- The schedule of the step in flight has the command now (R138, R243, R244): in this frame, at its beat from the frame
start, or, in a region, at the region's local beat. No command of a voided step is issued (R444). -/
def scheduled (s : State) (f op : Nat) (args : Bytes) (region : Option Nat) : Bool :=
  let x := s.facet f
  s.facetBound f && x.inStep && !x.void && (s.kcs f).schedule.cmds.any (fun c =>
    c.op == op && c.frame == x.frame && c.args == padTo 24 args &&
    (match region with
     | some r => c.beat / s.beatRate r == s.rf (Reg.REG_STAT r) 11 0
     | none => x.startBeat + c.beat == s.beat))

/-- A command goes to its engine, bank or region. -/
def command (s : State) (f op : Nat) (args : Bytes) : State := s.emit (.command f op args)

end State

/-- REGION_RESUME (R136, R168). -/
def execRegionResume (r : Fin 64) (s : State) : Result := finish s (s.resumeRegion r.val)

/-- BLOCK_RESET (R21, R22, R72). -/
def execBlockReset (r : Fin 64) (b : Fin 8) (clean : Bool) (s : State) : Result :=
  finish s (if (s.block (8 * r.val + b.val)).needReset then s.blockReset r.val b.val clean else s)

/-- STEP_RESTART (R444 to R446). -/
def execStepRestart (f : Fin 64) (read : ImageRead) (s : State) : Result := finish s (s.stepRestart f.val read)

/-- FRAME_START (R135, R143 to R146). -/
def execFrameStart (f : Fin 64) (s : State) : Result := finish s (s.frameStart f.val)

/-- The first cell of region r whose LD or ST has moved less than it should by the end of the present beat, with the
flits that it needs by then (R136). -/
def State.cellOwes (s : State) (r : Nat) : Option (CellId × Nat) :=
  let b := s.rf (Reg.REG_STAT r) 11 0 + 1
  ((s.kcs (s.regionFacet r)).cells.filter (fun c => c.region == r)).findSome? (fun c =>
    let i := cellId r c.block c.cell
    let x := s.cell (s.cellKey i)
    match x.pend with
    | some p =>
      let n := p.needed (x.frame * s.frameTicks r + b * 248)
      if p.moved < n then some (i, n) else none
    | none => none)

/-- REGION_BEAT_END (R136 to R138, R147). A region that is OFF, stalled or held, that waits for its next frame, or that
the output stages hold (R441), ends no beat; one whose LD or ST has fallen behind stalls in place of ending it. -/
def execRegionBeatEnd (r : Fin 64) (active : Bool) (lost : Nat) (s : State) : Result :=
  finish s (if s.regionPoint r.val = 2 ∨ s.rf (Reg.REG_STAT r.val) 19 19 = 1 ∨ s.rf Reg.CND_STAT 27 27 = 1 ∨
      s.beat < (s.region r.val).holdUntil ∨ (s.regionBound r.val = true ∧ (s.region r.val).done = true) then s
    else match s.cellOwes r.val with
      | some w => s.stallCell w.1 w.2
      | none => s.endBeat r.val active lost)

/-- STALL_FAULT (R139): a region that stands still. -/
def execStallFault (r : Fin 64) (s : State) : Result :=
  finish s (if s.rf (Reg.REG_STAT r.val) 19 19 = 1 then s.regionStallFault r.val else s)

/-- SCHEDULED_SLOT (R129, R136, R142, R148). -/
def execScheduledSlot (f : Fin 64) (route : BitVec 16) (hop : BitVec 5) (io : List FlitIO) (s : State) : Result :=
  finish s (match s.routeOf f.val route.toNat with
    | some x =>
      if x.mode % 2 = 0 ∧ s.facetBound f.val ∧ hop.toNat < x.hops then
        let s := s.arrive f.val x hop.toNat io
        if s.mayMove f.val x hop.toNat then s.moveFlit f.val x hop.toNat io else s
      else s
    | none => s)

/-- BOUNDED_FLIT (R125, R130, R131, R142). -/
def execBoundedFlit (f : Fin 64) (route : BitVec 16) (hop : BitVec 5) (io : List FlitIO) (s : State) : Result :=
  finish s (match s.routeOf f.val route.toNat with
    | some x =>
      if x.mode % 2 = 1 ∧ s.facetBound f.val ∧ hop.toNat < x.hops then
        let s := s.arrive f.val x hop.toNat io
        match s.winner f.val x hop.toNat io with
        | some w =>
          if s.mayMove f.val w.1 w.2 then
            s.moveFlit f.val w.1 w.2 (if w.1.num = x.num ∧ w.2 = hop.toNat then io else [])
          else s
        | none => s
      else s
    | none => s)

/-- RETIME (R150 to R152, R243): pending relocks of the facet start in a window of its schedule, in each region at the
region's own local beat. Each region completes its beat and drains its outbound queues first. -/
def execRetime (f : Fin 64) (beats : BitVec 16) (s : State) : Result :=
  let args := leBytes 2 beats.toNat
  let beat := s.beat - (s.facet f.val).startBeat
  finish s (if s.scheduled f.val 3 args none then
    (forEach (s.pendingRelocks f.val) s (fun t r =>
      t.setRegion r { t.region r with relockDue := true, window := beat / t.beatRate r })).command f.val 3 args
  else s)

/-- RETIME_DONE (R150, R376): the generator's new trims are in force too (R401). -/
def execRetimeDone (r : Fin 64) (s : State) : Result :=
  finish s (if bit (s.reg (Reg.REG_STAT r.val)) 20 then ((s.endRelock r.val).raise (Reg.REG_EVT r.val) 2).applyTrims (fun u => u == 1 + r.val) else s)

/-- RELOCK_FAIL (R153): the half keeps its previous point, and the region is handled as one that stood still. -/
def execRelockFail (r : Fin 64) (s : State) : Result :=
  finish s (if bit (s.reg (Reg.REG_STAT r.val)) 20 then
    let t := match (s.region r.val).newPoint with
      | some p => s.keepPoint (r.val / 4) p
      | none => s
    (t.endRelock r.val).regionStallFault r.val
  else s)

/-- RETIME_FORCED (R150, R152): a relock waited 64 frames; every region of the facet holds for 32 beats from the frame
boundary on, and the relock starts once the region's outbound queues have drained. -/
def execRetimeForced (f : Fin 64) (s : State) : Result :=
  let due := (s.pendingRelocks f.val).filter (fun r => 64 ≤ s.rf (Reg.REG_RETIME r) 15 8)
  finish s (if s.facetBound f.val ∧ due ≠ [] then
    let t := forEach (s.kcs f.val).table.regions s (fun t r => t.holdFor r 32)
    forEach due t (fun t r => (t.relockSoon r).raise (Reg.REG_EVT r) 3)
  else s)

/-- STRETCH (R373, R375): the next period is stretched by eighths; no work cycle is dropped or added. -/
def execStretch (r : Fin 64) (eighths : Fin 9) (s : State) : Result :=
  let a := Reg.RGEN r.val
  let n := eighths.val
  finish s (if s.regionPoint r.val = 2 then s else
    let t := s.setRegion r.val { s.region r.val with stretch := n }
    if n = 0 then t else (t.addSat a 31 16 1).wf a 15 12 (max (t.rf a 15 12) n))

/-- JOBSLOT (R243): the bank is told that it may take jobs for a span of beats from now. -/
def execJobslot (f : Fin 64) (bank : Byte) (beats : BitVec 16) (s : State) : Result :=
  let args := leBytes 1 bank.toNat ++ leBytes 1 0 ++ leBytes 2 beats.toNat
  finish s (if s.scheduled f.val 2 args none then s.command f.val 2 args else s)

/-- STEP_END (R243, R65): the last frame of the step, by whose end every cell issues END. -/
def execStepEnd (f : Fin 64) (s : State) : Result :=
  finish s (if s.scheduled f.val 4 [] none then
    (s.setFacet f.val { s.facet f.val with endMarked := true }).command f.val 4 [] else s)

end Sys2Proof.Machine
end

