-- ==== Sys2Proof/Machine/Loupe.lean ====
section
/-! DEFINITION. Long context and the Loupe (06): jobs, selection, lists and gathers, appends, ring records, bank
calibration, and group messages. -/
namespace Sys2Proof.Machine

/-! Groups and key blocks (R156 to R163). -/

/-- G, own rank and interleave I; a stream without a group table is a group of one (R156). -/
def Kcs.ring (k : Kcs) : Nat × Nat × Nat :=
  match k.group with
  | some g => (g.g, g.rank, 2 ^ g.ilog2)
  | none => (1, 0, 1)

/-- The rank that holds global block b (R160). -/
def rankOf (g i b : Nat) : Nat := b / i % g

/-- Its local index. -/
def localOf (g i b : Nat) : Nat := b / (i * g) * i + b % i

/-- The global block of local index j on a rank. -/
def globalOf (g r i j : Nat) : Nat := j / i * (i * g) + r * i + j % i

/-- DH of a DHC code, element bytes of a KVFMT code, and BLK (R162). -/
def dhOf (c : Nat) : Nat := 64 * 2 ^ c
def elemBytes (fmt : Nat) : Nat := if fmt = 1 then 2 else 1
def blkBytes (fmt dhc : Nat) : Nat := 128 * dhOf dhc * elemBytes fmt

/-! Jobs (R172). -/

structure Job where
  qsk : Bytes
  skbase : Nat
  kvbase : Nat
  logAddr : Nat
  dest : Nat
  pos : Nat
  nb : Nat
  k : Nat
  bank : Nat
  slot : Nat
  mode : Nat
  log : Bool
  empty : Bool
  nsink : Nat
  kvfmt : Nat
  dhc : Nat
  layer : Nat
  deriving DecidableEq, Repr

def parseJob (d : Bytes) : Job :=
  { qsk := sub d 0 32, skbase := leAt d 32 8, kvbase := leAt d 40 8, logAddr := leAt d 48 8, dest := leAt d 56 4,
    pos := leAt d 60 4, nb := leAt d 64 2, k := leAt d 66 2, bank := byteAt d 68, slot := byteAt d 69,
    mode := byteAt d 70 % 4, log := (byteAt d 70).testBit 2, empty := (byteAt d 70).testBit 3, nsink := byteAt d 71,
    kvfmt := byteAt d 72, dhc := byteAt d 73, layer := leAt d 74 2 }

/-- E, the entries of a list, and its bytes (R174, R175). -/
def Job.entries (j : Job) : Nat := j.nsink + 1 + j.k
def listBytes (n : Nat) : Nat := ceilDiv (4 * n) 64 * 64

/-- Staging offset of DEST in bytes, its layer, and the extent of a list of n entries and its gather. -/
def Job.destLayer (j : Job) : Nat := nbits j.dest 26 24
def Job.destOff (j : Job) : Nat := nbits j.dest 23 0 * 64
def Job.extent (j : Job) (n : Nat) : Nat := listBytes n + n * (2 * blkBytes j.kvfmt j.dhc + 512)

/-- Reserved fields and reserved values (R172, R188). -/
def jobForm (d : Bytes) (j : Job) : Bool :=
  j.skbase % 16 == 0 && j.skbase < 2 ^ 43 && j.kvbase % 256 == 0 && j.kvbase < 2 ^ 43 && j.logAddr % 64 == 0 &&
  j.logAddr < 2 ^ 43 && j.dest < 2 ^ 27 && j.slot < 64 && byteAt d 70 < 16 && (j.kvfmt == 1 || j.kvfmt == 2) &&
  j.dhc ≤ 2 && byteAt d 76 < 16 && allZero (sub d 77 51) && d.length == 128

namespace State

/-- The global blocks held here, of the NB local ones: ascending. -/
def heldBlocks (s : State) (f : Nat) (j : Job) : List Nat :=
  let g := (s.kcs f).ring
  (List.range j.nb).map (globalOf g.1 g.2.1 g.2.2)

/-- Sinks and the tail block, when held here (R174). -/
def pinnedBlocks (s : State) (f : Nat) (j : Job) : List Nat :=
  let tail := j.pos / 128
  (s.heldBlocks f j).filter (fun b => (b < j.nsink && b ≤ tail) || b == tail)

def candidates (s : State) (f : Nat) (j : Job) : List Nat :=
  let pin := s.pinnedBlocks f j
  (s.heldBlocks f j).filter (fun b => b < j.pos / 128 && !pin.contains b)

/-- The most entries that the job's list can hold: E, or in exact mode every held block (R174). -/
def listMost (s : State) (f : Nat) (j : Job) : Nat :=
  if j.mode = 3 ∧ !j.empty then max j.entries ((s.pinnedBlocks f j).length + (s.candidates f j).length) else j.entries

/-- The job carries its layer's values (R241). -/
def jobLayer (s : State) (f : Nat) (j : Job) : Bool :=
  (s.kcs f).layers.any (fun l => l.layer == j.layer && l.k == j.k && l.mode == j.mode && l.log == j.log && l.nsink == j.nsink)

/-- Every check of R188 and R241 passes. -/
def jobOk (s : State) (f : Nat) (d : Bytes) : Bool :=
  let j := parseJob d
  let g := (s.kcs f).ring.1
  jobForm d j && j.bank < (s.kcs f).table.banks.length && 1 ≤ j.nb && j.nb ≤ 2048 && 1 ≤ j.k && j.k ≤ 2048 &&
  j.nsink ≤ 4 && j.pos < g * j.nb * 128 && s.jobLayer f j &&
  (j.empty || (s.inSlices f j.kvbase (j.nb * 2 * blkBytes j.kvfmt j.dhc) && (j.mode ≥ 2 || s.inSlices f j.skbase (16 * j.nb)))) &&
  (!(j.log || (j.mode == 2 && !j.empty)) || s.inSlices f j.logAddr (listBytes (s.listMost f j))) &&
  (s.kcs f).table.regions.any (fun r => r / 8 == j.destLayer) && j.destOff + j.extent (s.listMost f j) ≤ 805306368

def lpeEvent (s : State) (f b i : Nat) : State :=
  s.raiseFirst Reg.LPE_EVT Reg.LPE_FIRST i (f * 2 ^ 16 + b * 2 ^ 8 + i)

def bankStateOf (s : State) (b : Nat) : Nat := s.rf (Reg.BANK_STAT b) 22 20
def setBankState (s : State) (b n : Nat) : State := s.wf (Reg.BANK_STAT b) 22 20 n

/-- A job or an append is refused: it reads and writes nothing, and the step is voided (R188, R241). -/
def refuseJob (s : State) (f b : Nat) : State := (s.lpeEvent f b 2).voidStep f false

end State

/-- Scan time in ticks (R173). -/
def scanTicks (j : Job) : Nat :=
  if j.empty then 0 else if j.mode = 0 then 2 * ceilDiv j.nb 8 else if j.mode = 1 then 8 * ceilDiv j.nb 8 else 0

namespace State

/-- The bank takes jobs now: it is free, and neither calibrates nor is without power (R173, R180, R191). -/
def bankFree (s : State) (b : Nat) : Bool :=
  (s.bank b).heldUntil ≤ s.dt && s.bankStateOf b != 1 && s.bankStateOf b != 5

/-- The oldest waiting job is accepted. -/
def acceptJob (s : State) (b : Nat) : State :=
  let x := s.bank b
  match x.waiting with
  | [] => s
  | w :: t =>
    if s.bankFree b then
      let h := s.dt + scanTicks (parseJob w.2) + 64
      (s.setBank b { x with waiting := t, heldUntil := h, lists := x.lists ++ [w] }).countWrap (Reg.BANK_JOBS b) 1
    else s

end State

/-! Selection (R171, R174, R177, R187, R189). -/

/-- S of a query sketch and a block sketch. -/
def sketchScore (q sk : Bytes) : Int :=
  (List.range 32).foldl (fun a i =>
    let b := byteAt sk (i / 2)
    a + sInt 8 (byteAt q i) * sInt 4 (if i % 2 = 0 then b % 16 else b / 16)) 0

def clampCode (c : Int) : Nat := (max 0 (min 255 c)).toNat

/-- The code of the digital path. -/
def digitalCode (sc : Int) : Nat := clampCode (128 + (sc + 128) / 256)

/-- An optical code (log 4): within 13 codes of 128 + S / 256 where R177 holds, else any code. -/
def opticalCode (good : Bool) (sc : Int) (w : Word) : Nat :=
  if good then
    let lo := clampCode (-((-(128 * 256 + sc - 13 * 256)) / 256))
    let hi := clampCode ((128 * 256 + sc + 13 * 256) / 256)
    lo + w.toNat % (hi + 1 - lo)
  else w.toNat % 256

/-- Insertion by code, highest first; equal codes keep the lower block first. -/
def insertCode (a : Nat × Nat) : List (Nat × Nat) → List (Nat × Nat)
  | [] => [a]
  | b :: t => if b.2 < a.2 then a :: b :: t else b :: insertCode a t

/-- The k candidates with the highest codes; candidates are (block, code) in ascending block order. -/
def topK (k : Nat) (l : List (Nat × Nat)) : List Nat :=
  ((l.foldl (fun acc a => insertCode a acc) []).take k).map (·.1)

/-- Keep the first occurrence of each block that is allowed, at most k; the count of those made null. -/
def replayPick (allowed : List Nat) : Nat → List Nat → List Nat → Nat → List Nat × Nat
  | _, [], acc, bad => (acc, bad)
  | k, b :: t, acc, bad =>
    if allowed.contains b && !acc.contains b && acc.length < k then replayPick allowed k t (acc ++ [b]) bad
    else replayPick allowed k t acc (bad + 1)

def sortNat (l : List Nat) : List Nat := l.foldl (fun acc a => insertNat a acc) []

/-- A list entry (R175). -/
def listEntry (pinned : List Nat) (b : Nat) : Nat := b + (if pinned.contains b then 2 ^ 30 else 0)

namespace State

/-- The temperature of bank b's base quadrant, in m°C. -/
def quadMilli (s : State) (b : Nat) : Int := (tget Sensor.reset s.sys.thm.sensors (512 + b / 8)).last

/-- R177 holds for a bank's codes. -/
def precise (s : State) (b : Nat) : Bool :=
  let t := s.quadMilli b
  s.bankStateOf b == 2 && !(s.bank b).slew && 25000 ≤ t && t ≤ 100000

/-- The selected blocks, the free values used, entries of a replay made null, and whether fallback chose: on a bank in
FAULT it does for every job (R189). -/
def select (s : State) (b f : Nat) (j : Job) : List Nat × Nat × Nat × Bool :=
  let cand := s.candidates f j
  let g := (s.kcs f).ring
  let score (blk : Nat) : Int := sketchScore j.qsk (s.readMem (j.skbase + 16 * localOf g.1 g.2.2 blk) 16)
  if s.bankStateOf b = 4 then (cand.drop (cand.length - j.k), 0, 0, true)
  else if j.mode = 3 then (cand, 0, 0, false)
  else if j.mode = 2 then
    let rec_ := (List.range j.entries).map (fun i => s.readLe (j.logAddr + 4 * i) 4)
    let named := (rec_.filter (fun e => !e.testBit 31 && !e.testBit 30)).map (fun e => e % 2 ^ 19)
    let r := replayPick cand j.k named [] 0
    (r.1, 0, r.2, false)
  else if cand.length ≤ j.k then (cand, 0, 0, false)
  else if j.mode = 1 then (topK j.k (cand.map (fun c => (c, digitalCode (score c)))), 0, 0, false)
  else
    let good := s.precise b
    let codes := (List.range cand.length).map (fun i =>
      let c := cand.getD i 0
      (c, opticalCode good (score c) (Config.freeWord (s.free + i))))
    (topK j.k codes, cand.length, 0, false)

/-- The bias vector of a block (R175). -/
def biasBytes (_ : State) (j : Job) (b : Nat) : Bytes :=
  let lim := if b = j.pos / 128 then j.pos % 128 else 128
  (List.range 128).flatMap (fun t => leBytes 4 (if t < lim then 0 else 0xFF800000))

def nullBias : Bytes := (List.replicate 128 (leBytes 4 0xFF800000)).flatten

/-- The list goes to DEST and, with LOG, to LOGADDR; K blocks, V blocks and biases follow (R175, R176). -/
def writeList (s : State) (b f : Nat) (d : Bytes) : State :=
  let j := parseJob d
  let g := (s.kcs f).ring
  let pin := if j.empty then [] else s.pinnedBlocks f j
  let sel := if j.empty then ([], 0, 0, false) else s.select b f j
  let s := s.useFree sel.2.1
  let real := sortNat (pin ++ sel.1)
  let n := max j.entries real.length
  let list := padTo (listBytes n)
    (real.flatMap (fun x => leBytes 4 (listEntry pin x)) ++ (List.replicate (n - real.length) (leBytes 4 0x80000000)).flatten)
  let blk := blkBytes j.kvfmt j.dhc
  let one (i : Nat) : Bytes := match real[i]? with
    | some x =>
      let a := j.kvbase + localOf g.1 g.2.2 x * 2 * blk
      s.readMem a (2 * blk) ++ s.biasBytes j x
    | none => zeros (2 * blk) ++ nullBias
  let at_ := j.destLayer * 805306368 + j.destOff
  let s := if j.log then s.unitWrite j.logAddr list else s
  let s := (s.writeStaging at_ list).writeStaging (at_ + listBytes n) ((List.range n).flatMap one)
  let s := if sel.2.2.1 = 0 then s else (s.addSat (Reg.LPE_CNT f) 15 0 sel.2.2.1).lpeEvent f b 3
  if sel.2.2.2 then (s.addSat (Reg.LPE_CNT f) 31 16 1).lpeEvent f b 1 else s

end State

/-! Appends (R167, R241). -/

/-- The parts of an append: header checks, then key row, value row and sketch. -/
def appendForm (d : Bytes) : Bool :=
  let fl := byteAt d 26
  leAt d 0 8 % 256 == 0 && leAt d 0 8 < 2 ^ 43 && leAt d 8 8 % 16 == 0 && leAt d 8 8 < 2 ^ 43 && byteAt d 23 < 64 &&
  (byteAt d 24 == 1 || byteAt d 24 == 2) && byteAt d 25 ≤ 2 && fl < 2 && allZero (sub d 27 37) &&
  64 + 2 * (ceilDiv (dhOf (byteAt d 25) * elemBytes (byteAt d 24)) 64 * 64) + (if fl = 1 then 64 else 0) ≤ d.length

namespace State

/-- An append on rank r: the holder of the block writes the rows and, at the block's end, its sketch; every other
rank discards it. -/
def append (s : State) (f : Nat) (d : Bytes) : State :=
  let g := (s.kcs f).ring
  let pos := leAt d 16 4
  let b := pos / 128
  let fmt := byteAt d 24
  let row := dhOf (byteAt d 25) * elemBytes fmt
  let blk := blkBytes fmt (byteAt d 25)
  let g1 := localOf g.1 g.2.2 b
  let k := leAt d 0 8 + g1 * 2 * blk + pos % 128 * row
  let sk := leAt d 8 8 + 16 * g1
  let sketch := byteAt d 26 = 1
  if !appendForm d ∨ !(s.inSlices f k row) ∨ !(s.inSlices f (k + blk) row) ∨ (sketch ∧ !(s.inSlices f sk 16)) then s.refuseJob f 0
  else if rankOf g.1 g.2.2 b ≠ g.2.1 then s
  else
    let step := ceilDiv row 64 * 64
    let s := (s.unitWrite k (sub d 64 row)).unitWrite (k + blk) (sub d (64 + step) row)
    if pos % 128 = 127 ∧ sketch then s.unitWrite sk (sub d (64 + 2 * step) 16) else s

end State

/-! Ring records (R164 to R168). -/

/-- Offsets of M, L and O of a record, its heads and DH. -/
def recordParts (d : Bytes) : Nat × Nat × Nat × Nat × Nat :=
  let nqh := leAt d 16 2
  let nkv := byteAt d 18
  let dh := dhOf (byteAt d 19)
  let up (n : Nat) : Nat := ceilDiv n 64 * 64
  let kv := up (nkv * dh * elemBytes (byteAt d 21))
  let m := 64 + up (nqh * dh * elemBytes (byteAt d 20)) + up (nkv * 32) + 2 * kv
  (m, m + up (nqh * 4), m + 2 * up (nqh * 4), nqh, dh)

/-- The merge of an accumulator with a local partial (R166). -/
def mergePartial (am al : Nat) (ao : List Nat) (b : HeadPartial) : Nat × Nat × List Nat :=
  let bm := b.m.toNat
  let bl := b.l.toNat
  let bo := b.o.map (·.toNat)
  if bm = 0xFF800000 then (am, al, ao)
  else if am = 0xFF800000 then (bm, bl, bo)
  else
    let m := (fmax am bm).1
    let ea := (fexp2 (fsub am m).1).1
    let eb := (fexp2 (fsub bm m).1).1
    (m, (ffma bl eb (fmul al ea).1).1,
     (List.range ao.length).map (fun i => (ffma (bo.getD i 0) eb (fmul (ao.getD i 0) ea).1).1))

/-- Bytes replaced at an offset. -/
def patch (b : Bytes) (off : Nat) (v : Bytes) : Bytes := b.take off ++ v ++ b.drop (off + v.length)

/-- The record with each head's M, L and O put in place by f, which is given the head and its old values. -/
def withHeads (d : Bytes) (f : Nat → Nat × Nat × List Nat → Nat × Nat × List Nat) : Bytes :=
  let p := recordParts d
  let dh := p.2.2.2.2
  (List.range p.2.2.2.1).foldl (fun d h =>
    let o := p.2.2.1 + 4 * (h * dh)
    let r := f h (leAt d (p.1 + 4 * h) 4, leAt d (p.2.1 + 4 * h) 4, (List.range dh).map (fun i => leAt d (o + 4 * i) 4))
    patch (patch (patch d (p.1 + 4 * h) (leBytes 4 r.1)) (p.2.1 + 4 * h) (leBytes 4 r.2.1)) o (r.2.2.flatMap (leBytes 4))) d

/-- A local partial with no valid position (R166). -/
def HeadPartial.none : HeadPartial := ⟨0xFF800000, 0, []⟩

/-- Stage 0 at the home (R165): M, L and O are its own partial's, and HOPS is 1. A head that the partial does not reach
has no valid position (R166). -/
def openRecord (d : Bytes) (part : List HeadPartial) : Bytes :=
  let d := withHeads d (fun h old =>
    let b := part.getD h HeadPartial.none
    (b.m.toNat, b.l.toNat, (List.range old.2.2.length).map (fun i => (b.o.getD i 0).toNat)))
  patch d 14 (leBytes 2 1)

/-- The record with the local partial of each query head merged and HOPS advanced (R165). -/
def mergeRecord (d : Bytes) (part : List HeadPartial) : Bytes :=
  let d := withHeads d (fun h old => mergePartial old.1 old.2.1 old.2.2 (part.getD h HeadPartial.none))
  patch d 14 (leBytes 2 (leAt d 14 2 + 1))

namespace State

/-- A record goes to the next rank as scheduled stores on COL, 8,192 B each (R168; log 24). -/
def sendRecord (s : State) (f dst : Nat) (d : Bytes) : State :=
  forEach (List.range (ceilDiv d.length 8192)) s (fun t i =>
    t.unitSend { mkPacket dst (t.facetEid f) 3 0x01 (t.tagFor f dst) (128 * i) (i + 1 == ceilDiv d.length 8192) (sub d (8192 * i) 8192) with marked := false })

/-- The home copies STEP, and POS and EMPTY of the record's slot, into the record (R208). -/
def stampRecord (s : State) (f : Nat) (d : Bytes) : Bytes :=
  if (s.session f).isNone then d
  else
    let q := byteAt d 10
    let x := (s.slot (s.slotOf f (q % 64))).input
    let d := patch (patch d 0 (leBytes 4 (s.facet f).step)) 4 (leBytes 4 ((x.map (·.1)).getD 0))
    patch d 10 (leBytes 1 (q % 128 + 128 * b2n x.isNone))

/-- A record is worked on (R165): in stage 0 its home, where HOPS is still 0, opens it with its own partial; in a later
stage another member merges its partial; each passes it on. A record that has come back stays at its home. -/
def ringArrives (s : State) (f : Nat) (d : Bytes) (part : List HeadPartial) : State :=
  match (s.kcs f).group with
  | none => s
  | some g =>
    if g.g ≤ 1 then s
    else if leAt d 12 2 ≠ g.rank then s.sendRecord f g.next (mergeRecord d part)
    else if leAt d 14 2 = 0 then s.sendRecord f g.next (openRecord (s.stampRecord f d) part)
    else s

/-! Calibration (R177, R180 to R185). -/

/-- A measurement of e sixteenths of a bit; ENOB_MIN is the lowest since bind (R193). -/
def measured (s : State) (b e : Nat) : State :=
  let a := Reg.BANK_ENOB b
  let x := s.bank b
  let low := min e (x.enobMin.getD e)
  ((s.setBank b { x with enobMin := some low }).wf a 15 8 e).wf a 7 0 low

/-- 4.5 effective bits. -/
def enough (e : Nat) : Bool := 72 ≤ e

end State

/-! The calibration record (R180). -/

/-- Two lists of numbers, element by element. -/
def zipInt (f : Int → Int → Int) (a b : List Int) : List Int := List.zipWith f a b

/-- A correction shifted by the change of offset and gain from o to n. -/
def laneShift (x o n : LaneCal) : LaneCal :=
  { x with offset := x.offset + (n.offset - o.offset), gain := zipInt (· + ·) x.gain (zipInt (· - ·) n.gain o.gain) }

/-- Linear interpolation at temperature t between two corrections, in m°C; a fraction is rounded down (DESIGN CHOICE, log
45). -/
def laneBetween (a b : LaneCal) (ta tb t : Int) : LaneCal :=
  let mix (u v : Int) : Int := u + (v - u) * (t - ta) / (tb - ta)
  ⟨mix a.offset b.offset, zipInt mix a.gain b.gain, zipInt mix a.near b.near, zipInt mix a.far b.far⟩

/-- The corrections of a record at a temperature in m°C: interpolated between its points and clamped outside them. -/
def correctionAt (r : Tbl (List LaneCal)) (t : Int) : List LaneCal :=
  match r.findIdx? (fun e => t ≤ 1000 * e.1) with
  | none => (r.getLast?.map (·.2)).getD []
  | some 0 => (r.head?.map (·.2)).getD []
  | some (i + 1) =>
    let a := r.getD i (0, [])
    let b := r.getD (i + 1) (0, [])
    (a.2.zip b.2).map (fun x => laneBetween x.1 x.2 (1000 * a.1) (1000 * b.1) t)

/-- The record with the point at temperature t replaced, and the others shifted by the same change (R180). The change is
from what the record gave at that temperature (DESIGN CHOICE where it held no point there, log 45). -/
def replacePoint (r : Tbl (List LaneCal)) (t : Nat) (lanes : List LaneCal) : Tbl (List LaneCal) :=
  let old := correctionAt r (1000 * t)
  tset [] (r.map (fun e => (e.1, (e.2.zip (old.zip lanes)).map (fun x => laneShift x.1 x.2.1 x.2.2)))) t lanes

namespace State

/-- The record's point nearest a temperature in m°C; half-way the upper one (DESIGN CHOICE, log 45). -/
def nearestPoint (t : Int) : Nat :=
  if t < 47500 then 40 else if t < 62500 then 55 else if t < 77500 then 70 else if t < 92500 then 85 else 100

def bankTemp (s : State) (b : Nat) : Nat := s.rf (Reg.BANK_STAT b) 15 8

/-- A bank's record is stored, or waits for the supply (R180). -/
def storeCal (s : State) (b : Nat) : State :=
  let x := s.bank b
  s.setBank b (if s.inhibited then { x with storeDue := true } else { x with stored := x.points, storeDue := false })

/-- A full calibration ends (R180): its corrections take effect, and with at least 4.5 effective bits they join the
record, which is stored. -/
def calibrated (s : State) (b e : Nat) (lanes : List LaneCal) : State :=
  let t := s.bankTemp b
  let s := ((s.measured b e).wf (Reg.BANK_CAL b) 15 8 t).wf (Reg.BANK_CAL b) 0 0 0
  let x := s.bank b
  let s := s.setBank b { x with
    calFrame := some s.devFrame, trimDue := none, trims := lanes
    points := if enough e then replacePoint x.points (nearestPoint (s.quadMilli b)) lanes else x.points }
  let s := if enough e then (s.setBankState b 2).storeCal b else (s.setBankState b 3).lpeEvent (s.bankFacet b) b 0
  s.acceptJob b

/-- READY banks that no facet holds, the lowest first. -/
def spareBanks (s : State) : List Nat := (List.range 32).filter (fun b => s.bankStateOf b == 2 && !s.bankBound b)

/-- No job is on a bank, and no list of one is owed. -/
def bankIdle (s : State) (b : Nat) : Bool := (s.bank b).heldUntil ≤ s.dt && (s.bank b).lists == []

/-- A facet-local index is mapped from bank b to bank c; jobs that wait go with it (R170, R183, R189). -/
def substitute (s : State) (b c : Nat) : State :=
  let w := s.reg (Reg.BANK_STAT b)
  let f := fld w 29 24
  let s := ((s.wf (Reg.BANK_STAT c) 29 24 f).wf (Reg.BANK_STAT c) 23 23 1).wf (Reg.BANK_STAT c) 4 0 (fld w 4 0)
  let s := ((s.wf (Reg.BANK_STAT b) 29 24 0).wf (Reg.BANK_STAT b) 23 23 0).wf (Reg.BANK_STAT b) 4 0 0
  let s := ((s.setReg (Reg.BANK_JOBS c) 0).wf (Reg.BANK_ENOB c) 7 0 0).setBank c { s.bank c with waiting := (s.bank b).waiting, enobMin := none }
  let s := s.setBank b { s.bank b with waiting := [] }
  let s := if s.bankStateOf b = 3 then s.setBankState b 1 else s
  (s.lpeEvent f c 7).acceptJob c

end State

/-! Time messages of a group (R158, R190, R380). -/

/-- A TIME payload keeps the table of R380. -/
def timeForm (b : Bytes) : Bool :=
  let k := byteAt b 0
  let z (off n : Nat) := allZero (sub b off n)
  b.length == 64 && 1 ≤ k && k ≤ 8 && byteAt b 1 < 64 && (3 ≤ k || byteAt b 1 == 0) && z 2 2 && (k == 7 || z 4 4) &&
  (k == 2 || (z 16 8 && z 24 8)) && (k == 8 || (k == 6 && z 34 6) || z 32 8) && (k == 6 || k == 5 || z 40 8) && z 49 15

namespace State

/-- A time message of kind k for a facet, at its endpoint (R31, R380, R504). -/
def acceptTime (s : State) (p : Packet) (k : Nat) (act : Nat → State) : State :=
  s.acceptAt p (fun f =>
    if p.op ≠ 7 ∨ !timeForm p.payload ∨ byteAt p.payload 0 ≠ k then s.refusePacket p 0x06 else act f)

/-- DIGEST at a member: a differing digest keeps the facet from starting, and one that agrees lets it start (R158). -/
def digestAt (s : State) (p : Packet) : State :=
  s.acceptTime p 8 (fun f =>
    match (s.kcs f).group with
    | some g => if sub p.payload 32 8 = g.digest then s.setFacet f { s.facet f with digestSeen := true }
        else (s.setFacet f { s.facet f with mismatch := true }).lpeEvent f 0 8
    | none => s)

/-- RESTART at a member: the step in flight is voided (R190). -/
def restartAt (s : State) (p : Packet) : State :=
  s.acceptTime p 7 (fun f =>
    let x := s.facet f
    if x.inStep ∧ !x.void ∧ x.step = leAt p.payload 4 4 then (s.setFacet f { x with joined := true }).voidStep f false else s)

end State

/-- LOUPE_JOB (R172, R173, R188). -/
def execLoupeJob (f : Fin 64) (desc : Bytes) (s : State) : Result :=
  let j := parseJob desc
  finish s (if !s.facetBound f.val then s
    else if !s.jobOk f.val desc then s.refuseJob f.val ((s.physicalBank f.val j.bank).getD 0)
    else match s.physicalBank f.val j.bank with
      | some b => (s.setBank b { s.bank b with waiting := (s.bank b).waiting ++ [(f.val, desc)] }).acceptJob b
      | none => s)

/-- LIST_WRITE (R173 to R176, R187): the list of the oldest job accepted. -/
def execListWrite (bank : Fin 32) (s : State) : Result :=
  let b := bank.val
  finish s (match (s.bank b).lists with
    | [] => s
    | w :: t => ((s.setBank b { s.bank b with lists := t }).writeList b w.1 w.2).acceptJob b)

/-- APPEND_COMMAND (R167, R241). -/
def execAppendCommand (f : Fin 64) (bytes : Bytes) (s : State) : Result :=
  finish s (if s.facetBound f.val then s.append f.val bytes else s)

/-- RING_RECORD (R164 to R168). -/
def execRingRecord (f : Fin 64) (record : Bytes) (part : List HeadPartial) (s : State) : Result :=
  finish s (if s.facetBound f.val then s.ringArrives f.val record part else s)

/-- DIGEST (R158): a member whose digest differs withholds its first frame. -/
def execDigest (p : Packet) (s : State) : Result := finish s (s.digestAt p)

/-- FULL_CALIBRATION (R180): a bank in FAULT or without power runs none, nor does one with a job on it. -/
def execFullCalibration (bank : Fin 32) (result : CalResult) (s : State) : Result :=
  let b := bank.val
  finish s (if s.bankStateOf b = 4 ∨ s.bankStateOf b = 5 ∨ s.dt < (s.bank b).heldUntil then s
    else s.calibrated b result.enob.toNat result.lanes)

/-- TRIM_UPDATE (R181, R183): READY and BELOW follow the measurement; the new trims of offset and gain wait for a gap. -/
def execTrimUpdate (bank : Fin 32) (result : CalResult) (s : State) : Result :=
  let b := bank.val
  let e := result.enob.toNat
  finish s (if s.bankStateOf b = 2 ∨ s.bankStateOf b = 3 then
    let t := s.measured b e
    let t := t.setBank b { t.bank b with trimDue := some ⟨t.bankTemp b, t.devFrame, result.lanes⟩ }
    let t := t.wf (Reg.BANK_CAL b) 0 0 1
    if State.enough e then t.setBankState b 2 else (t.setBankState b 3).lpeEvent (t.bankFacet b) b 0
  else s)

/-- The trims in force with the offset and gain measured anew. -/
def retrim (old new : List LaneCal) : List LaneCal :=
  if old = [] then new else (old.zip new).map (fun x => { x.1 with offset := x.2.offset, gain := x.2.gain })

/-- The corrections that a bank measured take effect. -/
def State.takeTrims (s : State) (b : Nat) : State :=
  let x := s.bank b
  match x.trimDue with
  | some d => ((s.setBank b { x with trimDue := none, calFrame := some d.frame, trims := retrim x.trims d.lanes }).wf (Reg.BANK_CAL b) 15 8 d.temp).wf (Reg.BANK_CAL b) 0 0 0
  | none => s

/-- A comb line of the bank changes (R184): the correction measured for the new light takes effect with it. -/
def State.lightMoves (s : State) (b : Nat) : State :=
  let t := s.takeTrims b
  let y := t.bank b
  if t.dt < y.heldUntil then t.setBank b { y with heldUntil := y.heldUntil + 2048 } else t

/-- TRIM_APPLY (R181): at the first gap between jobs at or after the next frame boundary; a job always runs under one
trim set. -/
def execTrimApply (bank : Fin 32) (s : State) : Result :=
  let b := bank.val
  let x := s.bank b
  finish s (match x.trimDue with
    | some d =>
      if x.heldUntil ≤ s.dt ∧ d.frame < s.devFrame then s.takeTrims b else s
    | none => s)

/-- SUBST (R170, R183, R189): between jobs. -/
def execSubst (bank : Fin 32) (s : State) : Result :=
  let b := bank.val
  finish s (if s.bankBound b ∧ (s.bankStateOf b = 3 ∨ s.bankStateOf b = 4) ∧ s.bankIdle b then
    match s.spareBanks with
    | c :: _ => s.substitute b c
    | [] => s
  else s)

/-- A bank that is not OFF enters FAULT, and stays out of service until a module reset (R189). -/
def State.bankFails (s : State) (b : Nat) : State :=
  if s.bankStateOf b = 5 then s
  else ((s.setBank b { s.bank b with failed := true }).setBankState b 4).lpeEvent (s.bankFacet b) b 6

/-- BANK_FAULT (R189). -/
def execBankFault (bank : Fin 32) (s : State) : Result := finish s (s.bankFails bank.val)

/-- The banks of quadrant q (R169). -/
def quadBanks (q : Nat) : List Nat := (List.range 8).map (fun i => 8 * q + i)

/-- SLEW (R185). -/
def execSlew (q : Fin 4) (s : State) : Result :=
  finish s ((forEach (quadBanks q.val) s (fun t b => t.setBank b { t.bank b with slew := true })).lpeEvent 0 (8 * q.val) 5)

/-- SLEW_CLEAR (R185). -/
def execSlewClear (q : Fin 4) (s : State) : Result :=
  finish s (forEach (quadBanks q.val) s (fun t b => t.setBank b { t.bank b with slew := false }))

/-- TIME_RESTART (R190): the member voids its step in flight. -/
def execTimeRestart (p : Packet) (s : State) : Result := finish s (s.restartAt p)

end Sys2Proof.Machine
end

