-- ==== Sys2Proof/Machine/Clock.lean ====
section
/-! DEFINITION. Device time across modules and the loss of the reference (13): R377 to R386. -/
namespace Sys2Proof.Machine

/-- SYNC_CTL.ROLE: 1 SOURCE, 2 FOLLOWER; the reserved 3 acts as OFF (log 27). -/
def State.role (s : State) : Nat := fld (s.hw Reg.SYNC_CTL) 31 30

namespace State

def setRef (s : State) (n : Nat) : State := s.wf Reg.CLK_STAT 31 29 n
def setClk (s : State) (c : ClkState) : State := { s with sys := { s.sys with clk := c } }

/-- A time stamp in sixteenths of a tick (R377, R379). -/
def stamp (s : State) (frac : Nat) : Nat := s.dt * 16 + frac

/-- The EID that time messages of the module itself are sent from: its lowest local one (log 27). -/
def localEid (s : State) : Nat :=
  match s.fab.routes.find? (fun e => e.2.testBit 31 && e.2.testBit 30) with
  | some e => e.1
  | none => 0

def noFacetBound (s : State) : Bool := (List.range 64).all (fun f => !s.facetBound f)

/-- Facets with MULTI = 1. -/
def multiFacets (s : State) : List Nat :=
  (List.range 64).filter (fun f => s.facetBound f && (s.kcs f).schedule.multi)

/-! The exchange (R379, R382). -/

/-- SYNC_REQ goes to the parent, stamped T1. -/
def syncAsk (s : State) (frac : Nat) : State :=
  let t1 := s.stamp frac
  let s := s.setClk { s.sys.clk with t1 := some t1 }
  s.unitSend (mkPacket (fld (s.hw Reg.SYNC_PARENT) 17 0) s.localEid 0 0x07 0 0 false
    (timePayload 1 0 0 t1 0 0 0 0 s.refState))

/-- SYNC_REQ at a parent: it answers from the endpoint asked, with T2 and T3 (R379, R380). -/
def syncReqAt (s : State) (p : Packet) (frac2 frac3 : Nat) : State :=
  if !wellFormedOp p ∨ !timeForm p.payload ∨ byteAt p.payload 0 ≠ 1 then s.refusePacket p 0x06
  else if s.role ≠ 1 ∧ s.role ≠ 2 then s
  else
    let c := s.sys.clk
    let who := (p.src.toNat, p.dst.toNat, p.jobTag.toNat)
    let s := s.setClk { c with children := if c.children.contains who then c.children else c.children ++ [who] }
    s.unitSend (mkPacket p.src.toNat p.dst.toNat 0 0x07 p.jobTag.toNat 0 false
      (timePayload 2 0 0 (leAt p.payload 8 8) (s.stamp frac2) (s.stamp (max frac2 frac3)) 0 0 s.refState))

end State

/-- The round trip, the offset O of the parent and the path delay D of an exchange, in sixteenths (R379). -/
def exchange (t1 t2 t3 t4 : Int) : Int × Int × Int :=
  ((t4 - t1) - (t3 - t2), ((t2 - t1) - (t4 - t3)) / 2, ((t2 - t1) + (t4 - t3)) / 2)

/-- 4 ns, 10 ns and 20 ns in sixteenths of a tick: 115.2, 288 and 576. -/
def tripValid (trips : List Int) (trip : Int) : Bool := trips.all (fun t => trip ≤ t + 115)
def nearOffset : Int := 288
def farOffset : Int := 576

/-- A ratio correction within R378: at most 1 ppm from the one in force, and within ±150 ppm (0.01 ppm units). -/
def ratioWithin (old want : Int) : Int := max (-15000) (min 15000 (max (old - 100) (min (old + 100) want)))

/-- A 16-bit two's complement field as an integer. -/
def signed16 (n : Nat) : Int := if 32768 ≤ n then (n : Int) - 65536 else n

namespace State

/-- The counter may be stepped: STEP_EN, every facet UNBOUND, once (R378). -/
def mayStep (s : State) : Bool := bit (s.hw Reg.SYNC_CTL) 29 && s.noFacetBound && !s.sys.clk.stepped

/-- TIME_OK after a valid exchange of offset o (R382). -/
def timeOk (s : State) (o : Int) : State :=
  let near := -nearOffset ≤ o && o ≤ nearOffset
  let far := o < -farOffset || farOffset < o
  let n := if near then s.sys.clk.good + 1 else 0
  let s := s.setClk { s.sys.clk with good := n }
  if bit (s.reg Reg.CLK_STAT) 28 then
    (if far then (s.wf Reg.CLK_STAT 28 28 0).raise Reg.CLK_EVT 4 else s)
  else if 16 ≤ n then s.wf Reg.CLK_STAT 28 28 1 else s

/-- Correction: a step at the next beat boundary where one is allowed, else by ratio; none while the root holds
over (R378, R383). The ratio chosen is a free value within its limits (log 4). -/
def correct (s : State) (o : Int) : State :=
  if 2 ≤ s.refState ∧ s.refState ≤ 4 then s
  else if s.mayStep ∧ o ≠ 0 then s.setClk { s.sys.clk with stepBy := some o }
  else
    let old := signed16 (s.rf Reg.SYNC_RATE 15 0)
    (s.wf Reg.SYNC_RATE 15 0 ((ratioWithin old (Config.ratio s.free) + 65536).toNat % 65536)).useFree 1

/-- SYNC_RESP at a follower (R379, R382). -/
def syncRespAt (s : State) (p : Packet) (frac : Nat) : State :=
  if !wellFormedOp p ∨ !timeForm p.payload ∨ byteAt p.payload 0 ≠ 2 then s.refusePacket p 0x06
  else if s.role ≠ 2 ∨ s.sys.clk.t1 ≠ some (leAt p.payload 8 8) ∨ p.src.toNat ≠ fld (s.hw Reg.SYNC_PARENT) 17 0 then s
  else
    let x := exchange (leAt p.payload 8 8) (leAt p.payload 16 8) (leAt p.payload 24 8) (s.stamp frac)
    let c := s.sys.clk
    let trips := c.trips.map Int.ofNat
    let s := s.setClk { c with t1 := none, trips := (x.1.toNat :: c.trips).take 16 }
    if !tripValid trips x.1 then s
    else
      let s := (s.setReg Reg.SYNC_OFS (BitVec.ofInt 32 x.2.1)).setReg Reg.SYNC_DELAY (BitVec.ofInt 32 x.2.2)
      (s.timeOk x.2.1).correct x.2.1

/-- The counter is stepped to the parent's time (R378). -/
def stepCounter (s : State) : State :=
  match s.sys.clk.stepBy with
  | none => s
  | some o =>
    let s := s.setClk { s.sys.clk with stepBy := none }
    if !s.mayStep ∨ s.role ≠ 2 then s
    else
      let t := (((s.dt * 16 : Nat) : Int) + o) / 16
      (s.setClk { s.sys.clk with dt := (t % 2 ^ 64).toNat, stepped := true, t1 := none }).raise Reg.CLK_EVT 6

/-! Loss of the reference (R383 to R386). -/

/-- A time message of the module itself to a child. -/
def tellChild (s : State) (kind : Nat) (c : Nat × Nat × Nat) : State :=
  s.unitSend (mkPacket c.1 c.2.1 0 0x07 c.2.2 0 false (timePayload kind 0 0 s.dt 0 0 0 0 s.refState))

/-- HOLDOVER or REFOK to every child and every member of each multi-module facet (R384, R385). -/
def tellAll (s : State) (kind : Nat) : State :=
  let s := forEach s.sys.clk.children s (fun t c => t.tellChild kind c)
  let s := forEach s.multiFacets s (fun t f => t.sendTimeAll f kind 0 0 0)
  s.setClk { s.sys.clk with notice := some (kind, s.devFrame), told := kind == 3 }

/-- STOP to every member of each multi-module facet, for the group frame time named (R384). -/
def tellStop (s : State) : State :=
  let s := forEach s.multiFacets s (fun t f =>
    match (t.facet f).stopAt with
    | some b => t.sendTimeAll f 5 0 0 (b * 256)
    | none => t)
  s.setClk { s.sys.clk with notice := some (5, s.devFrame) }

/-- What a new active conductor sends again: the notices of the current frame (R386). -/
def tellAgain (s : State) : State :=
  match s.sys.clk.notice with
  | some (k, fr) => if fr ≠ s.devFrame then s else if k = 5 then s.tellStop else s.tellAll k
  | none => s

/-- Microseconds since REFCLK was lost (R403). -/
def holdUs (s : State) : Nat := min (2 ^ 32 - 1) ((s.dt - s.sys.clk.lostAt) / 1800)

/-- STOP at a member: its earliest group frame time counts (R384). -/
def stopAt (s : State) (p : Packet) : State :=
  s.acceptTime p 5 (fun f =>
    let x := s.facet f
    let t := leAt p.payload 40 8 / 256
    if (s.kcs f).schedule.multi then
      s.setFacet f { x with stopAt := match x.stopAt with
        | some u => some (min t u)
        | none => some t }
    else s)

/-- LATE at a member: lateness L of frame f, the present frame or the one before it, moves frame f + 2 (R145). -/
def lateArrives (s : State) (p : Packet) : State :=
  s.acceptTime p 6 (fun f =>
    let x := s.facet f
    let at_ := leAt p.payload 40 8 / 256
    let due := x.startBeat + (if at_ < x.startBeat then 4096 else 8192)
    if (s.kcs f).schedule.multi then s.setFacet f { x with lateness := x.lateness ++ [(due, leAt p.payload 32 2)] }
    else s)

/-- A time message at its endpoint, by its kind (R380); SYNC stamps without a fraction. -/
def timeAt (s : State) (p : Packet) : State :=
  let k := byteAt p.payload 0
  if k = 1 then s.syncReqAt p 0 0
  else if k = 2 then s.syncRespAt p 0
  else if k = 5 then s.stopAt p
  else if k = 6 then s.lateArrives p
  else if k = 7 then s.restartAt p
  else if k = 8 then s.digestAt p
  else s.acceptTime p k (fun _ => s)

end State

/-- SYNC_EXCHANGE (R379). -/
def execSyncExchange (frac : BitVec 4) (s : State) : Result :=
  finish s (if s.role = 2 then s.syncAsk frac.toNat else s)

/-- SYNC_TIMEOUT (R379): no valid exchange for 64 intervals; the ratio is held. -/
def execSyncTimeout (s : State) : Result := finish s (if s.role = 2 then s.raise Reg.CLK_EVT 5 else s)

/-- STEP (R378). -/
def execStep (s : State) : Result := finish s s.stepCounter

/-- HOLDOVER (R384): the notice is taken; a child keeps following its parent. -/
def execHoldover (p : Packet) (s : State) : Result := finish s (s.acceptTime p 3 (fun _ => s))

/-- REFOK (R385). -/
def execRefok (p : Packet) (s : State) : Result := finish s (s.acceptTime p 4 (fun _ => s))

/-- STOP (R384, R386). -/
def execStop (p : Packet) (s : State) : Result := finish s (s.stopAt p)

/-- LATE (R145, R377). -/
def execLate (p : Packet) (s : State) : Result := finish s (s.lateArrives p)

/-- REF_LOSS (R383, R384): the root holds its ratio and correction is frozen. -/
def execRefLoss (s : State) : Result :=
  finish s (if s.refState = 1 ∨ s.refState = 5 then
    ((s.setRef 2).setClk { s.sys.clk with lostAt := s.dt }).raise Reg.CLK_EVT 0 else s)

/-- HOLDOVER_LONG (R384). -/
def execHoldoverLong (s : State) : Result :=
  finish s (if s.refState = 2 then ((s.setRef 3).raise Reg.CLK_EVT 1).tellAll 3 else s)

/-- SCHED_STOP (R384): AT is two frames after the present group frame. -/
def execSchedStop (s : State) : Result :=
  finish s (if s.refState = 3 then
    let s := (s.setRef 4).raise Reg.CLK_EVT 2
    let s := forEach s.multiFacets s (fun t f => t.setFacet f { t.facet f with stopAt := some (t.groupTime f + 4096) })
    s.tellStop
  else s)

/-- REF_RETURN (R385): within 100 µs the root resumes lock; later it relocks. -/
def execRefReturn (s : State) : Result :=
  finish s (if s.refState = 2 then (s.setRef 1).addSat Reg.CLK_STAT 15 8 1
    else if s.refState = 3 ∨ s.refState = 4 then
      (s.setReg Reg.HOLD_US (BitVec.ofNat 32 s.holdUs)).setRef 5
    else s)

/-- REF_BACK (R385): LOCKED when the module is again TIME_OK, or at once as SOURCE or OFF. -/
def execRefBack (s : State) : Result :=
  finish s (if s.refState = 5 ∧ (s.role ≠ 2 ∨ bit (s.reg Reg.CLK_STAT) 28) then
    let s := ((s.setRef 1).raise Reg.CLK_EVT 3).setReg Reg.HOLD_US 0
    if s.sys.clk.told then s.tellAll 4 else s
  else s)

/-- DT_LO (R403): a read latches bits [63:32] into DT_HI. -/
def execDtLo (who : Requester) (s : State) : Result :=
  let _ := who
  finish s ((s.setReg Reg.DT_HI (BitVec.ofNat 32 (s.dt / 2 ^ 32))).emit (.read (BitVec.ofNat 32 s.dt)))

end Sys2Proof.Machine
end

