-- ==== Sys2Proof/Machine/Domains.lean ====
section
/-! DEFINITION. Switched domains (R260, R270 to R273, R415 to R417): what switching one on or off does. -/
namespace Sys2Proof.Machine

/-- The halves of die c: D(2c), D(2c + 1); its middle layer D(16 + c); stack m D(24 + m); quadrant k D(44 + k). -/
def midDomain (c : Nat) : Nat := 16 + c
def stackDomain (m : Nat) : Nat := 24 + m
def quadDomain (k : Nat) : Nat := 44 + k

/-- Quadrant of a domain (R259). -/
def domainQuad (d : Nat) : Nat := if d < 16 then d / 4 else if d < 24 then (d - 16) / 2 else if d < 44 then (d - 24) / 5 else d - 44

namespace State

def domOn (s : State) (d : Nat) : Bool := bit (s.reg (Reg.DOM_STAT d)) 31
def domHeld (s : State) (d : Nat) : Bool := bit (s.reg (Reg.DOM_STAT d)) 29

/-- What a domain needs on before it starts (R271, R416). -/
def domReady (s : State) (d : Nat) : Bool :=
  if d < 16 then s.domOn (midDomain (d / 2)) else if d < 44 then s.domOn (quadDomain (domainQuad d)) else true

/-- A region's cells after their supply was off: nothing of them is kept (R389). -/
def wipeRegion (s : State) (r : Nat) : State :=
  { s with cells := s.cells.filter (fun e => e.1 < posKey r 0 0 || posKey (r + 1) 0 0 ≤ e.1) }

/-- The engines beneath a region stop, and what they have written to staging is discarded: it reads 0 (R91; log 46). -/
def stopEngines (s : State) (r : Nat) : State :=
  let mine := s.engines.filter (fun e => e.1 / 64 == r)
  { s with staging := mine.foldl (fun t e => tclear e.2.start e.2.dest t) s.staging
           engines := s.engines.filter (fun e => e.1 / 64 != r) }

/-- A region without a facet: idle, its cells run no logical cell, its queues hold nothing and reserve nothing. A relock
that has begun goes on. BLK_MAP and LOGICAL: log 50. -/
def releaseRegion (s : State) (r : Nat) : State :=
  let a := Reg.REG_STAT r
  let relock := bit (s.reg a) 20 || (s.region r).kept.relockDue
  let s := (((s.wf a 29 24 0).wf a 23 23 0).wf a 19 19 0).wf a 18 18 (b2n relock)
  let s := s.setRegion r (s.region r).kept
  let s := if relock then s else s.setReg (Reg.REG_RETIME r) 0
  let s := s.freed (1024 + r) s.dt
  let s := forEach (List.range 16) s (fun t q => t.wf (Reg.QUE_STAT r q) 26 16 0)
  let s := s.stopEngines r
  forEach (List.range 8) s (fun t b => forEach (List.range 17) t (fun u p =>
    let k := posKey r b p
    let x := u.cell k
    (u.setCell k { x with queues := [], pend := none, mode := if x.mode = .faulted then .faulted else .idle }).wf (Reg.CELL_STAT r b p) 1 1 0))

/-- A bank has power: READY with the corrections of its record, out of service after a fault until a module reset, or
without a record (R180, R189). -/
def bankUp (s : State) (b : Nat) : State :=
  let x := s.bank b
  if x.failed then s.setBankState b 4
  else if x.points = [] then s.setBankState b 0
  else (s.setBank b { x with trims := if x.trims = [] then correctionAt x.points (s.quadMilli b) else x.trims }).setBankState b 2

/-- A domain is on: DOM_STAT and RAIL show it, and a stack's slices pass through CLEARING; a Loupe
bank whose calibration record is stored is READY (R119, R180, R416). badLayers: those of a stack that fail channel
training (R112). -/
def domUp (s : State) (d : Nat) (badLayers : List Nat) : State :=
  let a := Reg.DOM_STAT d
  let s := ((s.wf a 31 31 1).wf a 30 30 0).addSat a 15 0 1
  let s := if d < 24 then (s.wf (Reg.RAIL d) 31 31 1).wf (Reg.RAIL d) 30 30 0 else s
  if 24 ≤ d ∧ d < 44 then s.stackUp (d - 24) badLayers
  else if 44 ≤ d then
    forEach (quadBanks (d - 44)) s (fun t b =>
      if t.bankStateOf b = 5 ∨ t.bankStateOf b = 0 then t.bankUp b else t)
  else s

/-- Facets that hold a region of half d are stopped (R273). -/
def stopHalf (s : State) (d : Nat) : State :=
  let hit := (halfRegions d).filter (fun r => s.regionBound r) |>.map (fun r => s.regionFacet r)
  forEach ((List.range 64).filter (fun f => hit.contains f)) s (fun t f => t.faultStop f)

/-- A half loses its supply: its regions are unbound and read OFF, and its cells hold nothing (R147, R273, R389). -/
def halfOff (s : State) (d : Nat) : State :=
  forEach (halfRegions d) (s.stopHalf d) (fun t r =>
    let t := (t.releaseRegion r).wipeRegion r
    let t := (t.setRegion r { t.region r with newPoint := none, relockDue := false }).setReg (Reg.REG_RETIME r) 0
    (t.wf (Reg.REG_STAT r) 22 18 8))

/-- Facets that hold something in quadrant k (R260): a region, slice, bank or guest site. -/
def quadFacets (s : State) (k : Nat) : List Nat :=
  (List.range 64).filter (fun f => s.facetBound f && (
    (s.kcs f).table.regions.any (fun r => r / 16 == k) ||
    (s.kcs f).table.slices.any (fun n => n % 20 / 5 == k) ||
    (List.range 32).any (fun b => b / 8 == k && s.bankBound b && s.bankFacet b == f) ||
    (s.kcs f).grants.any (fun g => (g.src == 0x40 || g.dst == 0x40) && k == 1 || (g.src == 0x41 || g.dst == 0x41) && k == 3)))

/-- A domain goes off (R115, R119, R191, R260, R273). -/
def domDown (s : State) (d : Nat) (fault : Bool) : State :=
  let a := Reg.DOM_STAT d
  let s := (s.wf a 31 31 0).wf a 30 30 (if fault then 1 else s.rf a 30 30)
  let s := if d < 24 then s.wf (Reg.RAIL d) 31 31 0 else s
  if d < 16 then s.halfOff d
  else if d < 24 then s
  else if d < 44 then s.stackOff (d - 24)
  else forEach (quadBanks (d - 44)) s (fun t b =>
    (t.setBankState b 5).setBank b { t.bank b with waiting := [], lists := [] })

/-- A domain and those above it go off, the highest first (R260, R271, R416). -/
def domFall (s : State) (d : Nat) (fault : Bool) : State :=
  let above := (List.range 48).filter (fun e => s.domOn e && (
    (16 ≤ d && d < 24 && e < 16 && e / 2 == d - 16) ||
    (44 ≤ d && e < 44 && domainQuad e == d - 44)))
  let s := forEach above s (fun t e => t.domDown e fault)
  s.domDown d fault

/-- A half is to change its point (R234, R249, R272): domains are switched, and a rail that must rise does so before the
window opens; one that falls does so after it closes. -/
def changePoint (s : State) (i p : Nat) : State :=
  let mid := midDomain (i / 2)
  if p = 2 then
    let s := if s.domOn i then s.domDown i false else s
    let other := if i % 2 = 0 then i + 1 else i - 1
    if s.domOn mid ∧ !s.domOn other then s.domDown mid false else s
  else
    let s := if s.domOn mid then s else s.domUp mid []
    let s := if s.domOn i then s else s.domUp i []
    if s.regionPoint (4 * i) = 2 ∨ s.rf (Reg.RAIL i) 11 0 < s.setPoint i p then s.wf (Reg.RAIL i) 11 0 (s.setPoint i p) else s

end State
end Sys2Proof.Machine
end

