-- ==== Sys2Proof/Machine/Ebw.lean ====
section
/-! DEFINITION. Weight coding (03): tensor descriptors, the canonical prefix code, coded blocks, decode engines
and their errors. -/
namespace Sys2Proof.Machine

/-! Descriptor and code (R80 to R83). -/

/-- Code length of symbol i. -/
def clen (d : Bytes) (i : Nat) : Nat :=
  let b := byteAt d (16 + i / 2)
  if i % 2 = 0 then b % 16 else b / 16

def clens (d : Bytes) : List Nat := (List.range 16).map (clen d)
def descBlocks (d : Bytes) : Nat := leAt d 24 4
def descUnits (d : Bytes) : Nat := leAt d 28 4
def descFmt (d : Bytes) : Nat := byteAt d 32

/-- Runs of a tensor (R79). -/
def runCount (d : Bytes) : Nat := ceilDiv (descBlocks d) 64

/-- E4M3 NaN. -/
def nanE4 (b : Nat) : Bool := b == 0x7F || b == 0xFF

/-- The used lengths make a complete code of at least two symbols (R82). -/
def codeComplete (l : List Nat) : Bool :=
  let used := l.filter (· != 0)
  2 ≤ used.length && sumNat (used.map (fun n => 2 ^ (8 - n))) == 256

/-- The descriptor passes the checks of R83 on its own content. -/
def descriptorOk (d : Bytes) : Bool :=
  (List.range 16).all (fun i => !nanE4 (byteAt d i)) && (clens d).all (· ≤ 8) && codeComplete (clens d) &&
  (descFmt d == 2 || descFmt d == 4) && allZero (sub d 33 15) && descBlocks d != 0 && descUnits d != 0

/-- Bytes of the run index (R78). -/
def indexBytes (d : Bytes) : Nat := ceilDiv (4 * runCount d) 16 * 16

/-- Bytes of a tensor's whole area (R78). -/
def tensorBytes (d : Bytes) : Nat := 48 + indexBytes d + 16 * descUnits d

/-- The first code of each length 0–8 (R82). -/
def firstCodes (l : List Nat) : Nat → Nat → Nat → List Nat
  | 0, _, _ => []
  | n + 1, len, code =>
    let below := if len = 1 then 0 else (l.filter (· == len - 1)).length
    let c := (code + below) * 2
    c :: firstCodes l n (len + 1) c

/-- Codewords: (length, code) of each symbol, 0 length for an unused one. -/
def codewords (l : List Nat) : List (Nat × Nat) :=
  let first := firstCodes l 8 1 0
  (List.range 16).map (fun s =>
    let n := l.getD s 0
    (n, first.getD (n - 1) 0 + ((l.take s).filter (· == n)).length))

/-- Bit n of a byte string, most significant bit of a byte first; bits past the end read 0 (R84). -/
def bitAt (b : Bytes) (n : Nat) : Nat := byteAt b (n / 8) / 2 ^ (7 - n % 8) % 2

/-- The n bits from bit p on, most significant first. -/
def bitsAt (b : Bytes) (p : Nat) : Nat → Nat
  | 0 => 0
  | n + 1 => 2 * bitsAt b p n + bitAt b (p + n)

/-- The symbol whose codeword stands at bit p, and its length. -/
def symbolAt (codes : List (Nat × Nat)) (b : Bytes) (p : Nat) : Nat × Nat :=
  let i := codes.findIdx (fun c => c.1 != 0 && bitsAt b p c.1 == c.2)
  (i, (codes.getD i (1, 0)).1)

/-! One block (R84 to R86, R92, R95). -/

/-- Outlier records: positions and values; the first cause met, 5 ORDER or 6 VALUE. -/
def outliers (b : Bytes) : Nat → Nat → Option Nat → List (Nat × Nat) → List (Nat × Nat) × Nat
  | 0, _, _, acc => (acc, 0)
  | n + 1, p, last, acc =>
    let pos := byteAt b p
    let v := byteAt b (p + 1)
    let ordered := match last with
      | none => true
      | some l => l < pos
    if !ordered then (acc, 5)
    else if nanE4 v then (acc, 6)
    else outliers b n (p + 2) (some pos) (acc ++ [(pos, v)])

/-- A weight from its E4M3 value (R85). -/
def weight (fmt scale x : Nat) : Nat × Flags := encodeF fmt false (mulV (decodeF 2 x) (decodeF 2 scale)).1

/-- The positions from w on: the weights decoded, the bit after them, whether the codewords ran past the block. -/
def decodeFrom (d b : Bytes) (codes : List (Nat × Nat)) (outs : List (Nat × Nat)) (scale limit : Nat) :
    Nat → Nat → Nat → List (Nat × Flags) → List (Nat × Flags) × Nat × Bool
  | 0, _, p, acc => (acc.reverse, p, false)
  | n + 1, w, p, acc =>
    match outs.find? (fun o => o.1 == w) with
    | some o => decodeFrom d b codes outs scale limit n (w + 1) p (weight (descFmt d) scale o.2 :: acc)
    | none =>
      let s := symbolAt codes b p
      if limit < p + s.2 then (acc.reverse, p, true)
      else decodeFrom d b codes outs scale limit n (w + 1) (p + s.2) (weight (descFmt d) scale (byteAt d s.1) :: acc)

/-- What one block decodes to: the weights that stand, the cause (0 none), and the block's length in units. -/
structure BlockOut where
  weights : List Nat
  sat : Nat
  cause : Nat
  len : Nat
  deriving DecidableEq, Repr

/-- A block that left is units long at most; lastOne: it is the run's last (R86, R92, R95). -/
def decodeBlock (d b : Bytes) (left : Nat) (lastOne : Bool) : BlockOut :=
  let scale := byteAt b 0
  let nout := byteAt b 1 / 32
  let len := byteAt b 1 % 32
  if 0x7F ≤ scale then ⟨[], 0, 6, len⟩
  else if 4 < nout then ⟨[], 0, 1, len⟩
  else if len < 3 ∨ 17 < len then ⟨[], 0, 2, len⟩
  else if left < len then ⟨[], 0, 7, len⟩
  else
    let o := outliers b nout 2 none []
    if o.2 ≠ 0 then ⟨[], 0, o.2, len⟩
    else
      let blk := sub b 0 (16 * len)
      let limit := 128 * len
      let r := decodeFrom d blk (codewords (clens d)) o.1 scale limit 256 0 (8 * (2 + 2 * nout)) []
      let sat := (r.1.filter (fun x => x.2.sat)).length
      let ws := r.1.map (·.1)
      if r.2.2 then ⟨ws, sat, 3, len⟩
      else if (List.range (limit - r.2.1)).any (fun i => bitAt blk (r.2.1 + i) == 1) then ⟨ws, sat, 4, len⟩
      else if lastOne ∧ len < left then ⟨ws, sat, 7, len⟩
      else ⟨ws, sat, 0, len⟩

/-- 256 operands in the output format, +0 beyond those decoded (R39, R86, R93). -/
def blockBytes (d : Bytes) (ws : List Nat) : Bytes :=
  pack (descFmt d) (ws ++ List.replicate (256 - ws.length) 0)

/-! Engines (R87 to R97). -/

namespace State

/-- An engine records an error (R92 to R97): the event, the first error's registers, the count, and the void of
the facet's step, unless an unbind falls due at the same boundary (R95). The same address in the first step
after a restart makes firmware stop the facet and unbind it at the next frame boundary (R94, R245). -/
def ebwError (s : State) (e cause blk addr : Nat) : State :=
  let d := e / 512
  let f := (s.engine e).facet
  let a := Reg.EBW_EVT d
  let first := s.rf a 1 0 = 0
  let s := if first then
      let s := s.setReg (Reg.EBW_ERR d) (BitVec.ofNat 32 (f * 2 ^ 16 + cause * 2 ^ 12 + e % 512 / 64 * 2 ^ 9 + e % 512))
      let s := s.setReg (Reg.EBW_ERR_BLK d) (BitVec.ofNat 32 blk)
      (s.setReg (Reg.EBW_ERR_ADDR_LO d) (BitVec.ofNat 32 (addr / 16 * 16))).setReg (Reg.EBW_ERR_ADDR_HI d) (BitVec.ofNat 32 (addr / 2 ^ 32))
    else s
  let s := s.raise a (if cause = 8 then 1 else 0)
  let s := s.addSat (Reg.EBW_CNT d) 15 0 1
  let x := s.facet f
  if x.drain = 2 ∧ (x.forced ∨ !x.inStep) then s.raise a 2
  else
    let again := s.metBefore f (metKey false addr)
    let s := (s.meet f (metKey false addr)).voidStep f false
    if again then
      let s := s.raise a 3
      let s := if cause = 8 then s.mapOutBank addr else s
      let s := s.faultStop f
      s.setFacet f { s.facet f with drain := 2, drainLeft := 0 }
    else s

/-- The run index's entry j (R81). -/
def indexEntry (s : State) (dpa j : Nat) : Nat := s.readLe (dpa + 48 + 4 * j) 4

/-- The descriptor that a run reads passes every check of R83: its content, and that its area lies in the facet's
slices. -/
def tensorGood (s : State) (f dpa : Nat) (d : Bytes) : Bool := descriptorOk d && s.inSlices f dpa (tensorBytes d)

/-- A run starts (R81, R89, R92). The stream's own descriptor gives the block count and format that keep the
run's timing when the one in memory fails. A run on an engine that is still active replaces its run; the descriptor and
the index are taken as memory holds them, poison or not; DESC is recorded with block 64 j at the descriptor's address,
and alone, and a non-zero entry 0 with block 0 at the address that it names; a run past those of the descriptor in memory
holds no block (DESIGN CHOICE, log 46). -/
def startRun (s : State) (f e : Nat) (t : TensorRec) (j dest : Nat) : State :=
  let d := s.readMem t.dpa 48
  let ok := s.tensorGood f t.dpa d
  let d := if ok then d else t.desc
  let area := t.dpa + 48 + indexBytes d
  let from_ := if ok && decide (j < runCount d) then s.indexEntry t.dpa j else 0
  let to_ := if j + 1 < runCount d then s.indexEntry t.dpa (j + 1) else descUnits d
  let n := min 64 (descBlocks d - 64 * j)
  let bad0 := ok && j == 0 && from_ != 0
  let zero := !ok || bad0
  let addr := area + 16 * from_
  let x : EngineState := ⟨decide (0 < n), dest, f, d, n, to_ - from_, 64 * j, addr, dest, zero⟩
  let s := s.setEngine e x
  if !ok then s.ebwError e 9 (64 * j) t.dpa else if bad0 then s.ebwError e 7 0 addr else s

/-- The bytes that an engine reads of the block at an address: as many as its LEN says, 16 where LEN is none. -/
def blockSpan (s : State) (addr : Nat) : Nat :=
  let len := byteAt (s.readMem addr 2) 1 % 32
  if len < 3 ∨ 17 < len then 16 else 16 * len

/-- Whether memory delivers a block with an uncorrectable error, or not at all: a block outside the facet's slices is
refused, and recorded as DRAM_UE (R31, R99; DESIGN CHOICE, log 46). -/
def blockBad (s : State) (f addr : Nat) : Bool :=
  s.poisoned addr (s.blockSpan addr) || !s.inSlices f addr (s.blockSpan addr)

/-- What an engine's read of its next block meets in the 64 B units of the block; a block outside the facet's slices is
not read (R31, R87, R99). -/
def blockFinds (s : State) (f addr : Nat) (found : List ScrubFound) : State :=
  let n := s.blockSpan addr
  if s.inSlices f addr n then s.readFinds addr (found.take ((addr + n - 1) / 64 - addr / 64 + 1)) else s

/-- An engine's next block (R85, R88, R93, R95, R96). A DRAM_UE leaves the whole block +0 (DESIGN CHOICE, log 46). -/
def engineBlock (s : State) (e : Nat) : State :=
  let x := s.engine e
  let g := e / 512
  let s := s.countWrap (Reg.EBW_BLOCKS g) 1
  let size := 256 * widthOf (descFmt x.desc) / 8
  let next (y : BlockOut) : EngineState := { x with active := decide (1 < x.blocksLeft), blocksLeft := x.blocksLeft - 1,
                                                    unitsLeft := x.unitsLeft - y.len, block := x.block + 1, addr := x.addr + 16 * y.len,
                                                    dest := x.dest + size, zero := x.zero || y.cause != 0 }
  if x.zero then (s.writeStaging x.dest (zeros size)).setEngine e (next ⟨[], 0, 0, 0⟩)
  else
    let out := if s.blockBad x.facet x.addr then BlockOut.mk [] 0 8 0
      else decodeBlock x.desc (s.readMem x.addr 272) x.unitsLeft (x.blocksLeft == 1)
    let s := s.writeStaging x.dest (blockBytes x.desc out.weights)
    let s := s.addSat (Reg.EBW_CNT g) 31 16 out.sat
    let s := s.setEngine e (next out)
    if out.cause = 0 then s else s.ebwError e out.cause x.block x.addr

end State

/-- The staging byte address of a RUN's destination (R16, R243). -/
def runDest (w : Word) : Nat := fld w 26 24 * 805306368 + fld w 23 0 * 64

/-- RUN (R81, R87 to R89, R92, R243), at its region's local beat (R244). -/
def execRun (f : Fin 64) (engine : BitVec 12) (tensor : BitVec 16) (runNo : Word) (dest : Word) (s : State) : Result :=
  let e := engine.toNat
  finish s (match (s.kcs f.val).tensors[tensor.toNat]? with
    | some t =>
      let args := leBytes 2 e ++ leBytes 2 tensor.toNat ++ leBytes 4 runNo.toNat ++ leBytes 4 dest.toNat
      if s.regionBound (e / 64) ∧ s.regionFacet (e / 64) = f.val ∧ s.scheduled f.val 1 args (some (e / 64)) = true then
        s.startRun f.val e t runNo.toNat (runDest dest)
      else s
    | none => s)

/-- EBW_BLOCK_DECODE (R84 to R97, R136): the engine's next block decodes when its bytes are there; while they are
not, the region above stalls. -/
def execEbwBlockDecode (engine : BitVec 12) (block : BlockFetch) (s : State) : Result :=
  let e := engine.toNat
  finish s (if !(s.engine e).active ∨ s.frozenRegion (e / 64) then s
    else if block.ready then
      let x := s.engine e
      (if x.zero then s else s.blockFinds x.facet x.addr block.found).engineBlock e
    else s.stallRegion (e / 64) (.engine e))

end Sys2Proof.Machine
end

