-- ==== Sys2Proof/Machine/Kcs.lean ====
section
/-! DEFINITION. The configuration stream (08): its container, its sections, and the checks of the loader that
need nothing but the stream (R226 to R244, R255). -/
namespace Sys2Proof.Machine

def up64 (n : Nat) : Nat := ceilDiv n 64 * 64

/-- A number array: n fields of w bytes from offset off. -/
def nums (b : Bytes) (off n w : Nat) : List Nat := (List.range n).map (fun i => leAt b (off + w * i) w)

/-- One check: a refusal code, the directory index of the section (0xFF: none) and the byte offset concerned,
and whether it holds. -/
structure Check where
  code : Nat
  sec : Nat
  at_ : Nat
  ok : Bool
  deriving DecidableEq, Repr

/-- The first check that fails. -/
def firstBad (l : List Check) : Option Check := l.find? (fun c => !c.ok)

/-- One check over items of a section, each with its offset: the first that fails is the item concerned (R258). -/
def checkItems (code sec off : Nat) (l : List (Nat × Bool)) : Check :=
  ⟨code, sec, off + ((l.find? (fun e => !e.2)).map (·.1)).getD 0, l.all (·.2)⟩

/-- Items of one size, from an offset. -/
def itemsAt (base stride : Nat) (l : List Bool) : List (Nat × Bool) := l.zipIdx.map (fun e => (base + stride * e.2, e.1))

/-! The container (R226 to R229). -/

def hNsec (b : Bytes) : Nat := leAt b 6 2
def hTotal (b : Bytes) : Nat := leAt b 8 4
def hSigned (b : Bytes) : Nat := leAt b 12 4
def hFacet (b : Bytes) : Nat := byteAt b 24
def hSvn (b : Bytes) : Nat := leAt b 28 4

/-- A directory entry. -/
structure DirEntry where
  type : Nat
  flags : Nat
  off : Nat
  len : Nat
  crc : Nat
  deriving DecidableEq, Repr

def dirEntry (b : Bytes) (i : Nat) : DirEntry :=
  let o := 64 + 16 * i
  ⟨leAt b o 2, leAt b (o + 2) 2, leAt b (o + 4) 4, leAt b (o + 8) 4, leAt b (o + 12) 4⟩

/-- The directory, bounded by the 64 entries that NSEC may count. -/
def directory (b : Bytes) : List DirEntry := (List.range (min 64 (hNsec b))).map (dirEntry b)

/-- Sections rise, do not overlap one another or the directory, lie below the signature block, and each type appears once
(R227): for each entry, from the i-th on, its offset and whether it holds. lo: where the entry before it ends. -/
def dirItems (signed : Nat) : Nat → Nat → List Nat → List DirEntry → List (Nat × Bool)
  | _, _, _, [] => []
  | i, lo, seen, e :: t => (64 + 16 * i, e.off % 64 == 0 && lo ≤ e.off && e.off + e.len ≤ signed && !seen.contains e.type) ::
      dirItems signed (i + 1) (e.off + e.len) (e.type :: seen) t

/-- The header's counts and lengths (R226). -/
def layoutItems (b : Bytes) : List (Nat × Bool) :=
  [(6, 64 ≤ b.length && 1 ≤ hNsec b && hNsec b ≤ 64), (8, hTotal b % 64 == 0 && hTotal b ≤ 2 ^ 28 && hTotal b ≤ b.length),
   (12, hTotal b == hSigned b + 16640)]

/-- The directory index of a section type. -/
def secIdx (b : Bytes) (type : Nat) : Nat := (directory b).findIdx (fun e => e.type == type)

/-- The offset of a section type. -/
def secOff (b : Bytes) (type : Nat) : Nat :=
  match (directory b).find? (fun e => e.type == type) with
  | some e => e.off
  | none => 0

/-- A section's bytes; empty when it is absent. -/
def section_ (b : Bytes) (type : Nat) : Bytes :=
  match (directory b).find? (fun e => e.type == type) with
  | some e => sub b e.off e.len
  | none => []

def hasSection (b : Bytes) (type : Nat) : Bool := (directory b).any (fun e => e.type == type)

/-! Lengths of the sections' contents. -/

def facetLen (c : Bytes) : Nat :=
  64 + up64 (byteAt c 1) + up64 (2 * leAt c 2 2) + up64 (byteAt c 4) + up64 (byteAt c 5) + byteAt c 6

def routeFits (c : Bytes) : Bool :=
  let n := leAt c 0 4
  64 + 32 * n ≤ c.length && (List.range (min n (c.length / 32))).all (fun i =>
    let o := 64 + 32 * i
    leAt c (o + 16) 4 + 2 * byteAt c (o + 3) ≤ c.length && leAt c (o + 20) 4 + 8 * leAt c (o + 24) 2 ≤ c.length)

def programFits (c : Bytes) : Bool :=
  let n := leAt c 0 4
  64 + 16 * n + 8 * leAt c 4 4 ≤ c.length && (List.range (min n (c.length / 16))).all (fun i =>
    let o := 64 + 16 * i
    leAt c o 4 + leAt c (o + 4) 4 ≤ c.length)

def fabricRecs (nep : Nat) : Nat := up64 (4 * nep + 4)

/-- A known section is at least as long as its contents (R226, LAYOUT). -/
def sectionFits (b : Bytes) (e : DirEntry) : Bool :=
  let c := sub b e.off e.len
  let f := section_ b 1
  match e.type with
  | 1 => 64 ≤ e.len && facetLen c ≤ e.len
  | 2 => 128 ≤ e.len
  | 3 => 16 ≤ e.len
  | 4 => 64 ≤ e.len && routeFits c
  | 5 => e.len % 16 == 0
  | 6 => 64 ≤ e.len && programFits c
  | 7 => 64 ≤ e.len && 64 + 32 * leAt c 8 4 ≤ e.len
  | 8 => 64 ≤ e.len && 64 + 64 * leAt c 0 4 ≤ e.len
  | 9 => 64 ≤ e.len
  | 10 => 64 + 2 * byteAt f 4 ≤ e.len
  | 11 => 64 ≤ e.len && 64 + 8 * leAt c 0 2 ≤ e.len
  | 12 => fabricRecs (byteAt f 5) ≤ e.len && fabricRecs (byteAt f 5) + 16 * leAt c (4 * byteAt f 5) 4 ≤ e.len
  | _ => true

/-! Sections. -/

/-- Offsets of the lists of the FACET section, with their entries and the bytes of one (R231). -/
def facetLists (nr ns nq ne nb : Nat) : List (Nat × Nat × Nat) :=
  let o2 := 64 + up64 nr
  let o3 := o2 + up64 (2 * ns)
  let o4 := o3 + up64 nq
  [(64, nr, 1), (o2, ns, 2), (o3, nq, 1), (o4, ne, 1), (o4 + up64 ne, nb, 1)]

def parseFacet (c : Bytes) : FacetTable :=
  let l := facetLists (byteAt c 1) (leAt c 2 2) (byteAt c 4) (byteAt c 5) (byteAt c 6)
  let list (i : Nat) : List Nat := let e := l.getD i (0, 0, 1); nums c e.1 e.2.1 e.2.2
  { regions := list 0, slices := list 1, slots := list 2, eps := list 3, banks := list 4, jobTag := leAt c 8 2, mshare := leAt c 10 2, drain := byteAt c 12,
    stageDpa := leAt c 16 8, stageLen := leAt c 24 4 }

def parseRoute (c : Bytes) (i : Nat) : RouteRec :=
  let o := 64 + 32 * i
  let nrun := leAt c (o + 24) 2
  let runs := leAt c (o + 20) 4
  { num := leAt c o 2, mode := byteAt c (o + 2), src := leAt c (o + 4) 4, sink := leAt c (o + 8) 4,
    rate := leAt c (o + 12) 2, reserve := leAt c (o + 14) 2, path := nums c (leAt c (o + 16) 4) (byteAt c (o + 3)) 2,
    runs := (List.range nrun).map (fun j => ⟨leAt c (runs + 8 * j) 4, leAt c (runs + 8 * j + 4) 2, leAt c (runs + 8 * j + 6) 2⟩),
    latency := leAt c (o + 26) 2 }

def parseGrant (c : Bytes) (i : Nat) : GrantRec :=
  let o := 16 * i
  ⟨byteAt c o, byteAt c (o + 1), leAt c (o + 2) 2, leAt c (o + 4) 2, leAt c (o + 6) 2, leAt c (o + 8) 2⟩

def parseImage (c : Bytes) (i : Nat) : ImageRec :=
  let o := 64 + 16 * i
  ⟨sub c (o + 8) 8, sub c (leAt c o 4) (leAt c (o + 4) 4)⟩

def parseCell (c : Bytes) (nimg i : Nat) : CellRec :=
  let o := 64 + 16 * nimg + 8 * i
  ⟨byteAt c o, byteAt c (o + 1), byteAt c (o + 2), leAt c (o + 4) 2, leAt c (o + 6) 2⟩

def parseCmd (c : Bytes) (i : Nat) : CmdRec :=
  let o := 64 + 32 * i
  ⟨byteAt c o, leAt c (o + 2) 2, leAt c (o + 4) 2, byteAt c (o + 6), sub c (o + 8) 24⟩

def parseSchedule (c : Bytes) : ScheduleRec :=
  ⟨leAt c 0 4, byteAt c 4 % 2 == 1, byteAt c 4 / 2 % 2 == 1, (List.range (leAt c 8 4)).map (parseCmd c)⟩

def parseTensor (c : Bytes) (i : Nat) : TensorRec := ⟨leAt c (64 + 64 * i) 8, sub c (72 + 64 * i) 48⟩

def parseSession (c : Bytes) : SessionRec :=
  { qbase := leAt c 0 4, qn := leAt c 4 4, rqbase := leAt c 8 8, rqlog2 := byteAt c 16, gap := byteAt c 17,
    admitWait := leAt c 18 2, v := leAt c 20 4, eos := leAt c 24 4, qpctx := leAt c 28 8, stepin := leAt c 36 8,
    logits := leAt c 44 8, ep := byteAt c 52 }

def parseGroup (c : Bytes) (q : Nat) : GroupRec :=
  { g := leAt c 0 2, rank := leAt c 2 2, ilog2 := byteAt c 4, nb := leAt c 6 2, digest := sub c 8 8,
    next := leAt c 16 4 % 2 ^ 18, prev := leAt c 20 4 % 2 ^ 18, home := nums c 64 q 2 }

def parseLayer (c : Bytes) (i : Nat) : LayerRec :=
  let o := 64 + 8 * i
  ⟨leAt c o 2, leAt c (o + 2) 2, byteAt c (o + 4) % 4, byteAt c (o + 4) / 4 % 2 == 1, byteAt c (o + 5)⟩

def parseRes (c : Bytes) (nep i : Nat) : ResRec :=
  let o := fabricRecs nep + 16 * i
  ⟨leAt c o 4, byteAt c (o + 4), byteAt c (o + 5), leAt c (o + 8) 4, leAt c (o + 12) 4⟩

/-- The stream as the loader reads it, once its layout is known to be good. -/
def parseKcs (b : Bytes) : Kcs :=
  let t := parseFacet (section_ b 1)
  let ne := t.eps.length
  let fab := section_ b 12
  let pr := section_ b 6
  let nimg := leAt pr 0 4
  let rt := section_ b 4
  { facet := hFacet b, retain := byteAt b 25 == 2, streamId := leAt b 16 8, baseId := leAt b 32 8, svn := hSvn b,
    signed := hSigned b, digest := sha384 (sub b 0 (hSigned b)), dir := (directory b).map (fun e => (e.type, e.off, e.len)),
    table := t, capC := nums (section_ b 2) 0 16 4, capM := nums (section_ b 2) 64 16 4,
    points := nums (section_ b 3) 0 16 1, routes := (List.range (leAt rt 0 4)).map (parseRoute rt),
    grants := (List.range ((section_ b 5).length / 16)).map (parseGrant (section_ b 5)),
    images := (List.range nimg).map (parseImage pr), cells := (List.range (leAt pr 4 4)).map (parseCell pr nimg),
    schedule := parseSchedule (section_ b 7),
    tensors := (List.range (leAt (section_ b 8) 0 4)).map (parseTensor (section_ b 8)),
    session := if hasSection b 9 then some (parseSession (section_ b 9)) else none,
    group := if hasSection b 10 then some (parseGroup (section_ b 10) t.slots.length) else none,
    layers := (List.range (leAt (section_ b 11) 0 2)).map (parseLayer (section_ b 11)),
    eids := (nums fab 0 ne 4).map (· % 2 ^ 18), reservations := (List.range (leAt fab (4 * ne) 4)).map (parseRes fab ne),
    kept := section_ b 9 ++ section_ b 10 ++ t.slots.flatMap (leBytes 1), repair := [] }

/-! Reserved fields and values (RESERVED). -/

/-- A reserved field: n bytes from an offset, which are zero. -/
def zeroItem (c : Bytes) (off n : Nat) : Nat × Bool := (off, allZero (sub c off n))

/-- Gaps between sections, and those after the directory and before the signature block, hold zeros (R226). -/
def gapItems (b : Bytes) : Nat → List DirEntry → List (Nat × Bool)
  | lo, [] => [zeroItem b lo (hSigned b - lo)]
  | lo, e :: t => zeroItem b lo (e.off - lo) :: gapItems b (e.off + e.len) t

def headerReserved (b : Bytes) : List (Nat × Bool) :=
  [(16, leAt b 16 8 != 0), (25, byteAt b 25 == 1 || byteAt b 25 == 2), zeroItem b 26 2, (32, byteAt b 25 == 2 || leAt b 32 8 == 0),
   zeroItem b 40 24] ++ gapItems b (64 + 16 * hNsec b) (directory b) ++ [zeroItem b (hSigned b + 16624) 16]

/-- The operation of a schedule command is known, and its reserved and unused operand bytes are zero. -/
def cmdReserved (c : Bytes) (i : Nat) : List (Nat × Bool) :=
  let o := 64 + 32 * i
  let op := byteAt c o
  [(o, 1 ≤ op && op ≤ 4), zeroItem c (o + 1) 1, zeroItem c (o + 7) 1] ++
  (if op = 1 then [(o + 16, decide (leAt c (o + 16) 4 < 2 ^ 27)), zeroItem c (o + 20) 12]
   else if op = 2 then [zeroItem c (o + 9) 1, zeroItem c (o + 12) 20]
   else if op = 3 then [zeroItem c (o + 10) 22]
   else [zeroItem c (o + 8) 24])

/-- A link code names a link of its kind (R235). -/
def linkReserved (code : Nat) : Bool :=
  let x := nbits code 7 0
  match nbits code 9 8 with
  | 0 => x < 64 && x % 4 != 3
  | 1 => x < 32
  | 2 => x < 24
  | _ => x < 8

/-- Fields of a route that its mode does not use are zero (R235). -/
def routeModeOk (x : RouteRec) (slots : Nat) : Bool := if x.mode % 2 = 0 then x.rate == 0 else slots == 0

def endpointReserved (code : Nat) : Bool :=
  match nbits code 25 23 with
  | 0 => nbits code 3 3 == 0 && nbits code 22 11 == 0
  | 1 => nbits code 7 0 == 0 && nbits code 22 11 == 0
  | 2 => nbits code 22 2 == 0
  | 3 => nbits code 22 4 == 0 && nbits code 3 0 < 12
  | 4 => nbits code 22 5 == 0
  | _ => false

/-- Where a known section's contents end; what follows in it is padding. The images, link lists and slot runs lie where
their records place them, and nothing is said of bytes between (log 26). -/
def contentEnd (c f : Bytes) (type : Nat) : Nat :=
  match type with
  | 1 => facetLen c
  | 2 => 128
  | 3 => 16
  | 7 => 64 + 32 * leAt c 8 4
  | 8 => 64 + 64 * leAt c 0 4
  | 9 => 64
  | 10 => 64 + 2 * byteAt f 4
  | 11 => 64 + 8 * leAt c 0 2
  | 12 => fabricRecs (byteAt f 5) + 16 * leAt c (4 * byteAt f 5) 4
  | _ => c.length

/-- Padding behind the contents of a section, and between the lists of the FACET section, is zero (R226). -/
def paddingZero (c f : Bytes) (type : Nat) : List (Nat × Bool) :=
  (if type = 1 then (facetLists (byteAt c 1) (leAt c 2 2) (byteAt c 4) (byteAt c 5) (byteAt c 6)).map (fun e =>
      let n := e.2.1 * e.2.2
      zeroItem c (e.1 + n) (up64 n - n))
   else []) ++ [(contentEnd c f type, allZero (c.drop (contentEnd c f type)))]

/-- Reserved fields of a route record, and values that are reserved (R235). -/
def routeReserved (c : Bytes) (i : Nat) : List (Nat × Bool) :=
  let o := 64 + 32 * i
  let m := byteAt c (o + 2)
  let x := parseRoute c i
  [(o + 2, m / 16 == 0 && (m % 2 == 1 || m == 0)), (o + 4, endpointReserved (leAt c (o + 4) 4)),
   (o + 8, endpointReserved (leAt c (o + 8) 4)), (o + 12, routeModeOk x (leAt c (o + 20) 4)), zeroItem c (o + 28) 4] ++
  itemsAt (leAt c (o + 16) 4) 2 (x.path.map linkReserved)

/-- Reserved fields of a known section are zero and no field holds a reserved value: its items, from its beginning. -/
def sectionReserved (b : Bytes) (e : DirEntry) : List (Nat × Bool) :=
  let c := sub b e.off e.len
  let f := section_ b 1
  (match e.type with
  | 1 => [zeroItem c 7 1, zeroItem c 13 3, zeroItem c 28 36]
  | 3 => itemsAt 0 1 ((nums c 0 16 1).map (fun x => x == 0xFF || (x % 4 != 3 && x / 4 % 32 == 0)))
  | 4 => zeroItem c 4 60 :: (List.range (leAt c 0 4)).flatMap (routeReserved c)
  | 5 => (List.range (e.len / 16)).map (fun i => zeroItem c (16 * i + 10) 6)
  | 6 => zeroItem c 8 56 :: (List.range (leAt c 4 4)).map (fun i => zeroItem c (64 + 16 * leAt c 0 4 + 8 * i + 3) 1)
  | 7 => [(4, byteAt c 4 / 4 == 0), zeroItem c 5 3, zeroItem c 12 52] ++ (List.range (leAt c 8 4)).flatMap (cmdReserved c)
  | 8 => zeroItem c 4 60 :: (List.range (leAt c 0 4)).map (fun i => zeroItem c (120 + 64 * i) 8)
  | 9 => [zeroItem c 53 11]
  | 10 => [zeroItem c 5 1, (16, decide (leAt c 16 4 < 2 ^ 18)), (20, decide (leAt c 20 4 < 2 ^ 18)), zeroItem c 24 40]
  | 11 => zeroItem c 2 62 :: (List.range (leAt c 0 2)).flatMap (fun i =>
      [(68 + 8 * i, byteAt c (68 + 8 * i) / 8 == 0), zeroItem c (70 + 8 * i) 2])
  | 12 =>
    let n := byteAt f 5
    itemsAt 0 4 ((nums c 0 n 4).map (fun x => decide (x < 2 ^ 18))) ++ [zeroItem c (4 * n + 4) (fabricRecs n - (4 * n + 4))] ++
    (List.range (leAt c (4 * n) 4)).flatMap (fun i =>
      let o := fabricRecs n + 16 * i
      [(o, decide (leAt c o 4 < 2 ^ 18)), (o + 4, decide (byteAt c (o + 4) < 4)), zeroItem c (o + 6) 2])
  | _ => []) ++ paddingZero c f e.type

/-! Lists (R30, R231, R232). -/

/-- The offsets of the entries of a table's lists in the FACET section: 0 regions, 1 slices, 2 slots, 3 endpoints,
4 banks. -/
def FacetTable.listAt (t : FacetTable) (i : Nat) : Nat × Nat :=
  let e := (facetLists t.regions.length t.slices.length t.slots.length t.eps.length t.banks.length).getD i (0, 0, 1)
  (e.1, e.2.2)

/-- Counts, lists, and the fields with a range. -/
def listItems (t : FacetTable) : List (Nat × Bool) :=
  let n := t.regions.length
  [(1, 1 ≤ n && n ≤ 64), (2, 1 ≤ t.slices.length && t.slices.length ≤ 320), (4, t.slots.length ≤ 64),
   (5, 1 ≤ t.eps.length && t.eps.length ≤ 64), (6, t.banks.length ≤ 32), (10, 1 ≤ t.mshare), (12, 1 ≤ t.drain && t.drain ≤ 64),
   ((t.listAt 0).1, rising t.regions && t.regions.all (· < 64)), ((t.listAt 1).1, rising t.slices && t.slices.all (· < 320)),
   ((t.listAt 2).1, noDup t.slots && t.slots.all (· < 64)), ((t.listAt 3).1, noDup t.eps && t.eps.all (· < 64)),
   ((t.listAt 4).1, noDup t.banks && t.banks.all (· < 32))]

/-- Every byte of the range lies in slices of the list. -/
def inList (slices : List Nat) (a n : Nat) : Bool :=
  n == 0 || (List.range (sliceOf (a + n - 1) + 1 - sliceOf a)).all (fun i => slices.contains (sliceOf a + i))

/-- The stage area is aligned and lies inside slices of the list (R231, R232). -/
def areaOk (t : FacetTable) : Bool := t.stageLen ≤ 2 ^ 28 && (t.stageDpa == 0 || (t.stageDpa % 64 == 0 && inList t.slices t.stageDpa t.stageLen))

/-! Programs (R58, R233, R237). -/

/-- The instructions of a program image, in order. -/
def programOf (im : Bytes) : List (Option (CellOp × CellIns)) :=
  (List.range (im.length / 16)).map (fun i => decodeCell (BitVec.ofNat 128 (leAt im (16 * i) 16)))

/-- One round of marking the instruction indices that a program can reach. -/
def spread (p : List (Option (CellOp × CellIns))) (m : List Bool) : List Bool :=
  (List.range p.length).map (fun i => m.getD i false ||
    (0 < i && m.getD (i - 1) false && (match p.getD (i - 1) none with
      | some (o, _) => o != .endp
      | none => false)) ||
    (p.zip m).any (fun e => e.2 && (match e.1 with
      | some (o, f) => o == .loop && f.imm.toNat == i
      | none => false)))

def reachAll (p : List (Option (CellOp × CellIns))) : Nat → List Bool → List Bool
  | 0, m => m
  | n + 1, m => reachAll p n (spread p m)

/-- The program breaks no condition of R58 that its words show: every instruction is legal as written, LOOPs
branch inside it, and it does not run past its last instruction. -/
def programOk (im : Bytes) : Bool :=
  let p := programOf im
  let m := reachAll p p.length ((List.range p.length).map (· == 0))
  0 < p.length &&
  p.all (fun e => match e with
    | none => false
    | some (o, i) => !illegal (specOf o i) (timedOp o) i && (o != .loop || i.imm.toNat < p.length)) &&
  (!m.getD (p.length - 1) false || (match p.getD (p.length - 1) none with
    | some (o, _) => o == .endp
    | none => false))

/-- The images that run as programs. -/
def progImages (k : Kcs) : List Bytes :=
  ((List.range k.images.length).filter (fun i => k.cells.any (fun c => c.prog == i))).map (fun i => (k.images.getD i ⟨[], []⟩).data)

def imageLen (k : Kcs) (i : Nat) : Nat := if i = 0xFFFF then 0 else (k.images.getD i ⟨[], []⟩).data.length

/-- The image and cell entries of the PROGRAM section (R237). -/
def programItems (k : Kcs) : List (Nat × Bool) :=
  let run (i : Nat) : Bool := k.cells.any (fun c => c.prog == i)
  itemsAt 64 16 (k.images.zipIdx.map (fun e => e.1.data.length % 16 == 0 && e.1.data.length ≤ storeBytes &&
    e.1.digest == (sha384 e.1.data).take 8 && (!run e.2 || programOk e.1.data))) ++
  itemsAt (64 + 16 * k.images.length) 8 (k.cells.map (fun c => k.table.regions.contains c.region && c.block < 8 && c.cell < 16 &&
    (c.prog == 0xFFFF || c.prog < k.images.length) && (c.data == 0xFFFF || c.data < k.images.length) &&
    imageLen k c.prog + imageLen k c.data ≤ storeBytes))

def hasBit (l : List Nat) (w i : Nat) : Bool := (l.getD w 0).testBit i

/-- Every opcode and format that a program uses is in the capability that CAP requires (R73, R233, R286). An OP
that no opcode has is a matter of R58. -/
def capCovers (k : Kcs) : Bool :=
  (progImages k).all (fun im => (programOf im).all (fun e => match e with
    | none => true
    | some (o, i) => hasBit k.capC (o.code / 32) (o.code % 32) && (formatsUsed o i).all (fun f => hasBit k.capC 2 f)))

/-! Routes (R132, R140, R141). -/

/-- The order of a link within its region: from the row or the outside 0, column 1, across 2, out 3. -/
def linkRank (code : Nat) : Nat :=
  let x := nbits code 7 0
  match nbits code 9 8 with
  | 0 => if x % 4 = 2 then 2 else 1
  | 1 => if x % 2 = 0 then 0 else 3
  | _ => if x % 2 = 0 then 0 else 3

/-- Row, column, across, out in every region; vertical links before the seam, the seam at most once (R132). -/
def orderOk : Nat → Bool → List Nat → Bool
  | _, _, [] => true
  | rank, seam, l :: t =>
    let r := linkRank l
    let q := nbits l 7 0 / 2
    rank ≤ r && nbits l 9 8 < 4 &&
    (if (crossing l).isSome then (if q < 4 then !seam else !seam) && orderOk 0 (seam || 4 ≤ q) t else orderOk r seam t)

/-- Ticks from the start of a link to the start of the next (R126); a queue adds the 264 ticks of R141. -/
def linkTicks (code : Nat) : Nat :=
  match nbits code 9 8 with
  | 0 => 2
  | 1 => 1
  | 2 => if (crossing code).isSome then 264 else 0
  | _ => 2

/-- Ticks from the source to its first link: along the row to the west or the east row port; from a staging port 4
ticks to the row, and on from between logical cells 7 and 8 (R126). -/
def sourceTicks (x : RouteRec) : Nat :=
  match endOf x.src with
  | .cell c _ => if nbits (x.path.headD 0) 7 1 % 2 = 0 then c.cell.val + 1 else 16 - c.cell.val
  | .staging _ _ => 4 + 8
  | _ => 0

/-! The mesh that a path runs on (R125 to R127). -/

/-- Where a path stands: region, router row and column, as far as the links name them. -/
structure PathPos where
  region : Nat
  row : Option Nat
  col : Option Nat
  deriving DecidableEq, Repr

/-- A place may be another where no row or column that both name differs. -/
def PathPos.meets (a b : PathPos) : Bool :=
  a.region == b.region && (a.row.all (fun x => b.row.all (x == ·))) && (a.col.all (fun x => b.col.all (x == ·)))

/-- The router at which a VAP or a boundary link is attached. The manual names no router row for a vertical boundary
link and no column for a seam link. -/
def vapAt (r a : Nat) : PathPos := ⟨r, some (2 * a + 1), some (a % 2)⟩
def boundaryAt (r q : Nat) : PathPos := if q < 4 then ⟨r, none, some (q % 2)⟩ else ⟨r, some (q - 4), none⟩

/-- The ends of a link: where it starts and where it leads; none: the mesh has no such link. A row or a VAP has no place
of its own. -/
def linkEnds (code : Nat) : Option (Option PathPos × Option PathPos) :=
  let r := nbits code 15 10
  let x := nbits code 7 0
  match nbits code 9 8 with
  | 0 =>
    let b := x / 8
    let c := x / 4 % 2
    let here : PathPos := ⟨r, some b, some c⟩
    if 64 ≤ x then none
    else match x % 4 with
    | 0 => if b = 0 then none else some (some here, some ⟨r, some (b - 1), some c⟩)
    | 1 => if b = 7 then none else some (some here, some ⟨r, some (b + 1), some c⟩)
    | 2 => some (some here, some ⟨r, some b, some (1 - c)⟩)
    | _ => none
  | 1 =>
    let here : PathPos := ⟨r, some (x / 4), some (x / 2 % 2)⟩
    if 32 ≤ x then none else if x % 2 = 0 then some (none, some here) else some (some here, none)
  | 2 =>
    let q := x / 2
    if 24 ≤ x then none
    else match neighbour r q with
    | none => none
    | some n => if x % 2 = 1 then some (some (boundaryAt r q), some (boundaryAt n.1 n.2)) else some (some (boundaryAt r q), some (boundaryAt r q))
  | _ => if 8 ≤ x then none else if x % 2 = 0 then some (none, some (vapAt r (x / 2))) else some (some (vapAt r (x / 2)), none)

/-- Each link starts where the one before it leads. -/
def connected : Option PathPos → List Nat → Bool
  | _, [] => true
  | pos, l :: t =>
    match linkEnds l with
    | none => false
    | some (a, b) => (match pos, a with
        | some p, some q => p.meets q
        | some _, none => false
        | none, _ => true) && connected b t

/-- The link that a route's source begins with, or that its sink ends with: the row port of its block, its VAP, or its
boundary link. -/
def endLink (e : RouteEnd) (out : Bool) (l : Nat) : Bool :=
  let x := nbits l 7 0
  let port (r b : Nat) : Bool := nbits l 15 10 == r && nbits l 9 8 == 1 && x / 4 == b && x % 2 == b2n (!out)
  match e with
  | .cell c _ => port c.region.val c.block.val
  | .staging r b => port r b
  | .vap r a => nbits l 15 10 == r && nbits l 9 8 == 3 && x == a * 2 + b2n out
  | .link r q => if out then nbits l 15 10 == r && nbits l 9 8 == 2 && x == q * 2 + 1 else nbits l 15 10 == r
  | .bank _ => true

/-- The path is one of the mesh, from the route's source to its sink. -/
def pathOk (x : RouteRec) : Bool :=
  connected none x.path && endLink (endOf x.src) false (x.path.headD 0) && endLink (endOf x.sink) true (x.path.getLastD 0)

/-- The path's links with their offsets in work ticks. -/
def linkOffsets : Nat → List Nat → List (Nat × Nat)
  | _, [] => []
  | o, l :: t => (l, o) :: linkOffsets (o + linkTicks l) t

/-- The slots of a scheduled route in schedule time, over the whole step (R235). -/
def slotTimes (x : RouteRec) : List Nat := x.runs.flatMap (fun r => (List.range r.count).map (fun n => r.first + n * r.stride))

/-- Work ticks from the start of the step of a schedule time in a region at full or half rate; none in a guard
tick, where no slot is (R129, R141). -/
def workOf (half : Bool) (t : Nat) : Option Nat :=
  let u := if half then t / 2 else t
  if half ∧ t % 2 = 1 then none else if 248 ≤ u % 256 then none else some (u / 256 * 248 + u % 256)

/-- Whether a half is declared HALF. -/
def regionHalf (k : Kcs) (r : Nat) : Bool := k.points.getD (r / 4) 0xFF % 128 == 1

/-- The work tick at which a flit sent at a schedule time crosses in a region at full or half rate: in a guard tick the
next beat's, which the guard holds it for (R129, R148). -/
def crossTick (half : Bool) (t : Nat) : Nat :=
  let u := if half then t / 2 else t
  u / 256 * 248 + u % 256

/-- Occupied slots: link and work tick. -/
def slotUse (k : Kcs) : List (Nat × Nat) :=
  (k.routes.filter (fun x => x.mode % 2 == 0)).flatMap (fun x =>
    (linkOffsets (sourceTicks x) x.path).flatMap (fun l =>
      (slotTimes x).map (fun t => (l.1, crossTick (regionHalf k (nbits l.1 15 10)) t + l.2))))

def pairsDistinct : List (Nat × Nat) → Bool
  | [] => true
  | a :: t => !t.contains a && pairsDistinct t

/-- Declared rates of bounded routes of priorities 1–3 on a link. -/
def boundedRate (k : Kcs) (l : Nat) : Nat :=
  sumNat ((k.routes.filter (fun x => x.mode % 2 == 1 && x.prio != 0 && x.path.contains l)).map (·.rate))

/-- Flits per beat that a link may carry: 224, half of it at a half-width VAP, none at a VAP with a direction at zero width
(R132, R278, R279). width: the width code of a vertical group and direction. -/
def linkLimit (width : Nat → Bool → Nat) (l : Nat) : Nat :=
  if nbits l 9 8 = 3 then
    let x := nbits l 7 0
    let vap := nbits l 15 10 * 4 + x / 2
    let w := width vap (x % 2 == 1)
    if width vap true = 2 ∨ width vap false = 2 then 0 else if w = 0 then 224 else 112
  else 224

/-- The routes one by one, and then what they hold together (R132). -/
def linkItems (width : Nat → Bool → Nat) (k : Kcs) : List (Nat × Bool) :=
  let use := slotUse k
  let full (l : Nat) : Bool :=
    let mine := use.filter (fun e => e.1 == l)
    let lim := linkLimit width l
    0 < lim && boundedRate k l ≤ lim &&
    mine.all (fun e => (mine.filter (fun g => g.2 / 248 == e.2 / 248)).length + boundedRate k l ≤ lim)
  itemsAt 64 32 (k.routes.map (fun x => 1 ≤ x.path.length && x.path.length ≤ 32 && pathOk x &&
    (x.mode % 2 == 1 || (slotTimes x).all (fun t => (workOf (regionHalf k (nbits (x.path.headD 0) 15 10)) t).isSome)) &&
    (x.mode % 2 == 0 || orderOk 0 false x.path) && x.path.all full)) ++
  [(64, pairsDistinct ((k.routes.flatMap (fun x => [x.src, x.sink])).filter (fun e => nbits e 25 23 == 0) |>.map (fun e => (e, 0)))),
   (64, pairsDistinct use)]

/-- The largest number of slots in 528 consecutive ticks; the next step follows after the frames of one. -/
def burst (frames : Nat) (l : List Nat) : Nat :=
  let l := l ++ l.map (· + frames * 2 ^ 20)
  maxNat (l.map (fun t => (l.filter (fun u => t ≤ u && u < t + 528)).length))

/-- A number put into a list that does not fall. -/
def insertTime (a : Nat) : List Nat → List Nat
  | [] => [a]
  | b :: t => if a ≤ b then a :: b :: t else b :: insertTime a t

/-- Schedule times at which what route x sends may be taken at the earliest (R141). -/
def placedAt (k : Kcs) (x : RouteRec) : List Nat :=
  let tick := if regionHalf k (nbits (x.path.headD 0) 15 10) then 2 else 1
  (slotTimes x).map (fun t => t + tick * x.latency + 264)

/-- Each slot of the route that takes up route x lies late enough after the slot that fills the queue in the same turn:
flits leave in the order they entered (R141, R142). -/
def placedOk (k : Kcs) (x : RouteRec) : Bool :=
  match k.consumerOf x with
  | some y =>
    let from_ := k.routes.filter (fun z => (k.consumerOf z).any (fun w => w.num == y.num))
    (((from_.flatMap (placedAt k)).foldl (fun l t => insertTime t l) []).zip ((slotTimes y).foldl (fun l t => insertTime t l) [])).all
      (fun p => p.1 ≤ p.2)
  | none => true

def queueItems (k : Kcs) : List (Nat × Bool) :=
  itemsAt 64 32 (k.routes.map (fun x =>
    (queuesOf x).all (fun q => reservedIn k q ≤ (if q.2 < 12 then 624 else 1632)) &&
    (x.mode % 2 == 1 || (queuesOf x).isEmpty || burst k.schedule.stepFrames (slotTimes x) ≤ x.reserve) &&
    (x.mode % 2 == 1 || placedOk k x)))

/-! Prism grants (R236, R259, R265). -/

def siteOk (c : Nat) : Bool := c < 8 || (0x10 ≤ c && c < 0x24) || c == 0x30 || c == 0x40 || c == 0x41 || (0x60 ≤ c && c < 0x80)

def grantOk (k : Kcs) (g : GrantRec) : Bool :=
  siteOk g.src && siteOk g.dst && 1 ≤ g.channels && 1 ≤ g.beats && g.first + g.beats ≤ 4096 &&
  (g.frame == 0xFFFF || g.frame < k.schedule.stepFrames)

/-! Session, group, Loupe, schedule, fabric. -/

def sessionItems (k : Kcs) (x : SessionRec) : List (Nat × Bool) :=
  let q := k.table.slots.length
  let l := k.table.slices
  [(0, x.qbase + x.qn ≤ 262144), (4, 1 ≤ x.qn), (16, 4 ≤ x.rqlog2 && x.rqlog2 ≤ 12),
   (8, x.rqbase % 128 == 0 && (12 < x.rqlog2 || inList l x.rqbase (x.qn * 2 ^ x.rqlog2 * 128))), (17, x.gap ≤ 4),
   (20, 2 ≤ x.v && x.v ≤ 1048576), (24, x.eos < x.v), (28, x.qpctx % 64 == 0 && inList l x.qpctx (64 * x.qn)),
   (36, x.stepin % 64 == 0 && inList l x.stepin (2 * (64 + 16 * q))),
   (44, x.logits % 256 == 0 && inList l x.logits (q * x.v * 4)), (52, x.ep < k.table.eps.length)]

def groupItems (x : GroupRec) : List (Nat × Bool) :=
  [(0, 1 ≤ x.g && x.g ≤ 256), (2, x.rank < x.g), (4, x.ilog2 ≤ 11), (6, 1 ≤ x.nb && x.nb ≤ 2048)] ++
  itemsAt 64 2 (x.home.map (· < x.g))

def layerItems (l : List LayerRec) : List (Nat × Bool) :=
  itemsAt 64 8 (l.map (fun x => 1 ≤ x.k && x.k ≤ 2048 && x.nsink ≤ 4))

def cmdTime (c : CmdRec) : Nat := (c.frame * 4096 + c.beat) * 256 + c.tick

def ascending : List Nat → Bool
  | a :: b :: t => a ≤ b && ascending (b :: t)
  | _ => true

/-- Whether facet-local bank b may take jobs at a beat of frame f of a step of n frames; a span that passes the end of the
step covers frames of the next (R182). -/
def covered (cs : List CmdRec) (n b f beat : Nat) : Bool :=
  cs.any (fun c => c.op == 2 && byteAt c.args 0 == b &&
    (f * 4096 + beat + n * 4096 - (c.frame * 4096 + c.beat)) % (n * 4096) < leAt c.args 2 2)

/-- A command record names what the stream holds (R243, R244). -/
def cmdOk (k : Kcs) (c : CmdRec) : Bool :=
  if c.op = 1 then
    let e := leAt c.args 0 2
    let t := leAt c.args 2 2
    e < 4096 && k.table.regions.contains (e / 64) && t < k.tensors.length &&
    leAt c.args 4 4 < runCount (k.tensors.getD t ⟨0, []⟩).desc
  else if c.op = 2 then byteAt c.args 0 < k.table.banks.length
  else c.op != 3 || 32 ≤ leAt c.args 0 2

/-- The schedule as a whole (R144, R151, R182, R244). -/
def scheduleOk (k : Kcs) : Bool :=
  let s := k.schedule
  let last := s.stepFrames - 1
  let ends := s.cmds.filter (fun c => c.op == 4)
  let late (b : Nat) : Bool := !s.multi || 16 ≤ b
  ascending (s.cmds.map cmdTime) &&
  (k.routes.filter (fun x => x.mode % 2 == 0)).all (fun x => (slotTimes x).all (fun t =>
    late (t % 2 ^ 20 / (if regionHalf k (nbits (x.path.headD 0) 15 10) then 512 else 256)))) &&
  k.grants.all (fun g => late g.first) &&
  (s.noRetime || s.cmds.any (fun c => c.op == 3 && c.frame == last && ends.any (fun e => cmdTime e ≤ cmdTime c))) &&
  (List.range k.table.banks.length).all (fun b => (List.range s.stepFrames).all (fun f =>
    8 ≤ ((List.range 4096).filter (fun beat => !covered s.cmds s.stepFrames b f beat)).length)) &&
  ends.length == 1 && ends.all (fun e => e.frame == last)

def scheduleItems (k : Kcs) : List (Nat × Bool) :=
  let s := k.schedule
  [(0, 1 ≤ s.stepFrames && s.stepFrames ≤ 4096)] ++
  itemsAt 64 32 (s.cmds.map (fun c => c.frame < s.stepFrames && c.beat < 4096 && c.tick < 248 && (!s.multi || 16 ≤ c.beat) && cmdOk k c)) ++
  [(64, scheduleOk k)]

/-- Where the reservation records of a stream begin in its FABRIC section. -/
def resAt (k : Kcs) : Nat := fabricRecs k.table.eps.length

def fabricItems (k : Kcs) : List (Nat × Bool) :=
  [(0, noDup k.eids)] ++ itemsAt (resAt k) 16 (k.reservations.map (fun r => r.ep < k.table.eps.length && r.chan < 4))

/-- The tensors of the TENSOR section (R83, R238). -/
def tensorItems (k : Kcs) : List (Nat × Bool) :=
  itemsAt 64 64 (k.tensors.map (fun t => descriptorOk t.desc && inList k.table.slices t.dpa (tensorBytes t.desc)))

def required (b : Bytes) (k : Kcs) : Bool :=
  [1, 2, 3, 4, 5, 6, 7, 12].all (hasSection b) && (k.table.slots.isEmpty || hasSection b 9) &&
  (!hasSection b 9 || hasSection b 10) && (k.table.banks.isEmpty || hasSection b 11)

/-- Every half that holds a region of the facet carries a point (R234). -/
def pointsGiven (k : Kcs) : Bool := k.table.regions.all (fun r => k.points.getD (r / 4) 0xFF != 0xFF)

/-! The order of the checks at STAGE: the layout and what protects the bytes, then the codes of R255 in their
order (DESIGN CHOICE, log 26). -/

def layoutChecks (b : Bytes) : List Check :=
  let d := directory b
  let items := dirItems (hSigned b) 0 (64 + 16 * hNsec b) [] d
  [⟨1, 0xFF, 0, leAt b 0 4 == 0x3153434B⟩, ⟨1, 0xFF, 4, leAt b 4 2 == 1⟩, checkItems 2 0xFF 0 (layoutItems b)] ++
  (items.zipIdx.map (fun e => ⟨2, e.2, e.1.1, e.1.2⟩)) ++
  (d.zipIdx.map (fun e => ⟨2, e.2, e.1.off, sectionFits b e.1⟩)) ++
  (d.zipIdx.map (fun e => ⟨3, e.2, e.1.off, (crc32c (sub b e.1.off e.1.len)).toNat == e.1.crc⟩))

def known (t : Nat) : Bool := 1 ≤ t && t ≤ 12

/-- Checks on the sections' fields, before the programs and schedules. -/
def fieldChecks (b : Bytes) (k : Kcs) (facet : Nat) : List Check :=
  let d := directory b
  [⟨7, 0xFF, 64, required b k⟩] ++
  (d.zipIdx.map (fun e => ⟨7, e.2, 64 + 16 * e.2, known e.1.type || e.1.flags % 2 == 0⟩)) ++
  [checkItems 8 0xFF 0 (headerReserved b)] ++ (d.zipIdx.map (fun e => ⟨8, e.2, 66 + 16 * e.2, e.1.flags / 2 == 0⟩)) ++
  (d.zipIdx.map (fun e => checkItems 8 e.2 e.1.off (sectionReserved b e.1))) ++
  [⟨9, if k.facet < 64 && k.facet == facet then secIdx b 1 else 0xFF, if k.facet < 64 && k.facet == facet then secOff b 1 else 24, k.facet < 64 && byteAt (section_ b 1) 0 == k.facet && k.facet == facet⟩,
   checkItems 0x0A (secIdx b 1) (secOff b 1) (listItems k.table)]

/-- Checks on what the sections declare. pub: the published subset holds what CAP requires; width: the width code of
a vertical group and direction (true: out). -/
def contentChecks (b : Bytes) (k : Kcs) (pub : Bool) (width : Nat → Bool → Nat) : List Check :=
  let sec (code type : Nat) (l : List (Nat × Bool)) : Check := checkItems code (secIdx b type) (secOff b type) l
  [sec 0x0F 2 [(0, pub && capCovers k)], sec 0x11 4 (linkItems width k), sec 0x12 4 (queueItems k),
   sec 0x13 5 (itemsAt 0 16 (k.grants.map (grantOk k))), sec 0x14 6 (programItems k), sec 0x15 8 (tensorItems k),
   sec 0x16 9 (match k.session with
     | some x => sessionItems k x
     | none => []),
   sec 0x17 10 (match k.group with
     | some x => groupItems x
     | none => []),
   sec 0x18 11 (layerItems k.layers), sec 0x19 7 (scheduleItems k), sec 0x1A 12 (fabricItems k), sec 0x1B 1 [(16, areaOk k.table)]]

end Sys2Proof.Machine
end

