-- ==== Sys2Proof/Machine/Loader.lean ====
section
/-! DEFINITION. The loader (08): staging, commit, re-bind, unbinding (R245 to R258). -/
namespace Sys2Proof.Machine

/-- The step number a has been passed. -/
def stepAfter (step a : Nat) : Bool := (step + 2 ^ 32 - (a + 1)) % 2 ^ 32 < 2 ^ 31

/-! Peaks of a facet's grants (R266). -/

def grantFrames (gs : List GrantRec) : List Nat := 0xFFFF :: gs.map (·.frame)

def inFrame (g : GrantRec) (fr : Nat) : Bool := g.frame == 0xFFFF || g.frame == fr

/-- The largest number of channels that grants hold at a site, out of it or into it, in one beat. -/
def peak (gs : List GrantRec) (site : Nat) (out : Bool) : Nat :=
  let mine := gs.filter (fun g => (if out then g.src else g.dst) == site)
  maxNat ((grantFrames mine).flatMap (fun fr => mine.map (fun g =>
    sumNat ((mine.filter (fun h => inFrame h fr && h.first ≤ g.first && g.first < h.first + h.beats)).map (·.channels)))))

def grantSites (gs : List GrantRec) : List Nat := gs.foldl (fun l g => insertNat g.src (insertNat g.dst l)) []

namespace State

/-! Commands and refusals (R246, R255, R256). -/

/-- A refusal: CFG_RESULT names the facet, the code, the section and the item (R258). -/
def cfgRefuse (s : State) (f code sec at_ : Nat) : State :=
  (((s.setReg Reg.CFG_RESULT (BitVec.ofNat 32 (f * 2 ^ 26 + code * 2 ^ 16 + sec * 2 ^ 8))).setReg Reg.CFG_RESULT_AT
    (BitVec.ofNat 32 at_))).raise Reg.CFG_EVT 1

def refuseState (s : State) (f : Nat) : State := s.cfgRefuse f 0x1F 0xFF 0

/-- A command is given: while the loader is busy it is dropped and counted, else it runs (R246). -/
def loaderCmd (s : State) (act : State → State) : State :=
  if bit (s.reg Reg.CFG_STAT) 31 then s.addSat Reg.CFG_STAT 7 0 1 else act s

def showBusy (s : State) (b : Option (Nat × Nat)) : State :=
  let s := { s with loader := { s.loader with busy := b } }
  match b with
  | some (op, f) => ((s.wf Reg.CFG_STAT 31 31 1).wf Reg.CFG_STAT 27 24 op).wf Reg.CFG_STAT 21 16 f
  | none => ((s.wf Reg.CFG_STAT 31 31 0).wf Reg.CFG_STAT 27 24 0).wf Reg.CFG_STAT 21 16 0

def setStage (s : State) (f n : Nat) : State := s.wf (Reg.FACET_STAT f) 28 27 n

/-! Staging (R230, R247). -/

/-- The facet whose stage area begins at an address. -/
def areaFacet (s : State) (a : Nat) : Option Nat :=
  (List.range 64).find? (fun g => s.facetBound g && (s.kcs g).table.stageDpa == a && a != 0)

/-- Firmware's repair record for a stream's regions: positions mapped out in service (R71, R230). -/
def repairRecord (s : State) (regions : List Nat) : List (Nat × Nat × Nat) :=
  regions.flatMap (fun r => (List.range 8).filterMap (fun b =>
    let m := Reg.BLK_MAP r b
    let act := s.rf m 20 16
    if act < 17 ∧ act ≠ s.rf m 4 0 then some (r, b, act) else none))

/-- The bytes of a repair record: NREP, the check word, the entries, and padding (R230). -/
def recordBytes (l : List (Nat × Nat × Nat)) : Bytes :=
  let entries := l.flatMap (fun e => leBytes 4 (e.1 * 2 ^ 16 + e.2.1 * 2 ^ 8 + e.2.2))
  let n := 64 + entries.length
  leBytes 2 l.length ++ zeros 2 ++ leBytes 4 (crc32c entries).toNat ++ zeros 56 ++ entries ++ zeros (up64 n - n)

def recordCrc (b : Bytes) : Bool := leAt b 4 4 == (crc32c (sub b 64 (4 * leAt b 0 2))).toNat

/-- The positions that a record names: region, block, position. -/
def recordParse (b : Bytes) : List (Nat × Nat × Nat) :=
  (nums b 64 (leAt b 0 2) 4).map (fun w => (nbits w 21 16, nbits w 10 8, nbits w 4 0))

/-- A slot holds the RSA key and the SLH-DSA key named (R453, R454). -/
def ownerKeys (s : State) (rsa slh : Nat) : Bool :=
  (List.range 4).any (fun i => bit (s.reg Reg.SEC_STAT) (8 + i) &&
    (s.reg (Reg.KID (2 + i) 0)).toNat + (s.reg (Reg.KID (2 + i) 1)).toNat * 2 ^ 32 == rsa &&
    (s.reg (Reg.KID (2 + i) 2)).toNat + (s.reg (Reg.KID (2 + i) 3)).toNat * 2 ^ 32 == slh)

def ownerRsa (s : State) (rsa : Nat) : Bool :=
  (List.range 4).any (fun i => bit (s.reg Reg.SEC_STAT) (8 + i) &&
    (s.reg (Reg.KID (2 + i) 0)).toNat + (s.reg (Reg.KID (2 + i) 1)).toNat * 2 ^ 32 == rsa)

/-- The published common subset holds every required bit (R233, R287). -/
def capPublished (s : State) (k : Kcs) : Bool :=
  (List.range 16).all (fun w => (k.capC.getD w 0) &&& (s.reg (Reg.CAPC w)).toNat == k.capC.getD w 0 &&
    (k.capM.getD w 0) &&& (s.reg (Reg.CAPM w)).toNat == k.capM.getD w 0)

/-- Width code of a vertical group and direction (R290): 0 full, 1 half, 2 zero. -/
def groupWidth (s : State) (k : Nat) (out : Bool) : Nat :=
  if out then s.rf (Reg.VGRP k) 31 30 else s.rf (Reg.VGRP k) 29 28

/-- The first refusal of a stream at STAGE: what protects its bytes before what they say. -/
def stageBad (s : State) (f : Nat) (b : Bytes) (sig : SigCheck) : Option Check :=
  match firstBad (layoutChecks b) with
  | some c => some c
  | none =>
    let at_ := hSigned b
    let rsa := leAt b at_ 8
    let keys := [⟨4, 0xFF, at_, sig.rsa && s.ownerRsa rsa⟩, ⟨5, 0xFF, at_ + 8, sig.slh && s.ownerKeys rsa (leAt b (at_ + 8) 8)⟩,
      ⟨6, 0xFF, 28, s.rf Reg.SVN_MIN 7 0 ≤ hSvn b⟩]
    let k := parseKcs b
    match firstBad (keys ++ fieldChecks b k f) with
    | some c => some c
    | none => firstBad (contentChecks b k (s.capPublished k) s.groupWidth)

/-- A STAGE ends in a refusal: no stream is staged (R256). -/
def stageFail (s : State) (f : Nat) (c : Check) : State :=
  let s := if c.code = 4 ∨ c.code = 5 then s.raise Reg.SEC_EVT 5 else s
  let s := (s.setFacet f { s.facet f with staged := none }).setStage f 3
  (s.cfgRefuse f c.code c.sec c.at_).showBusy none

/-- The stream has been read and verified (R230, R247). -/
def stageEnd (s : State) (f : Nat) (stream : Bytes) (readOk : Bool) (sig : SigCheck) : State :=
  let l := s.loader
  let whole := if l.source = 2 then
      let head := s.readMem l.addr 64
      s.readMem l.addr (min (hTotal head) (match s.areaFacet l.addr with
        | some g => (s.kcs g).table.stageLen
        | none => 0))
    else stream.take l.len
  if l.source = 2 ∧ (s.areaFacet l.addr).isNone then s.stageFail f ⟨0x1B, 0xFF, 0, false⟩
  else if !readOk || (l.source == 2 && s.poisoned l.addr whole.length) then s.stageFail f ⟨0x20, 0xFF, 0, false⟩
  else match s.stageBad f whole sig with
    | some c => s.stageFail f c
    | none => if s.rf Reg.SEC_STAT 31 29 = 3 then s.stageFail f ⟨0x1F, 0xFF, 0, false⟩ else
      let k := parseKcs whole
      let total := k.signed + 16640
      let record := recordBytes (s.repairRecord k.table.regions)
      let area := match s.areaFacet l.addr with
        | some g => if l.source = 2 then (s.kcs g).table.stageLen else 0
        | none => 0
      if !recordCrc record then s.stageFail f ⟨3, 0xFF, total, false⟩
      else
        let s := if total + record.length ≤ area then s.writeMem (l.addr + total) record else s
        let s := s.setFacet f { s.facet f with staged := some ⟨{ k with repair := recordParse record }, l.source, l.addr, area, record⟩ }
        ((s.setStage f 2).raise Reg.CFG_EVT 2).showBusy none

/-! The present module against a stream (R248, R249, R255). others: the facets that keep or get another binding,
with their streams. -/

/-- Bound facets other than those that a COMMIT_ALL changes, with their streams. -/
def boundExcept (s : State) (fs : List Nat) : List (Nat × Kcs) :=
  ((List.range 64).filter (fun g => s.facetBound g && !fs.contains g)).map (fun g => (g, s.kcs g))

/-- Where a section of a stream lies: its directory index and its offset. -/
def secPlace (k : Kcs) (type : Nat) : Nat × Nat :=
  let i := k.dir.findIdx (fun e => e.1 == type)
  (i, (k.dir.getD i (0, 0, 0)).2.1)

/-- A check over items of a section of a staged stream (R258). -/
def secItems (k : Kcs) (code type : Nat) (l : List (Nat × Bool)) : Check :=
  checkItems code (secPlace k type).1 (secPlace k type).2 l

/-- The entries of list i of a stream's binding table. -/
def entryItems (k : Kcs) (i : Nat) (l : List Nat) (ok : Nat → Bool) : List (Nat × Bool) :=
  itemsAt (k.table.listAt i).1 (k.table.listAt i).2 (l.map ok)

/-- The queue-pair ranges of two streams meet. -/
def pairsMeet (k o : Kcs) : Bool :=
  match k.session, o.session with
  | some x, some y => x.qbase < y.qbase + y.qn && y.qbase < x.qbase + x.qn
  | _, _ => false

/-- Every named resource is idle, or held by no facet of others and no open key region; no slice is CLEARING (R29, R109,
R249). banks: a bank that is bound counts for the facet that holds it. -/
def heldChecks (s : State) (others : List (Nat × Kcs)) (k : Kcs) : List Check :=
  let t := k.table
  let free (l : FacetTable → List Nat) (x : Nat) : Bool := others.all (fun o => !(l o.2.table).contains x)
  [secItems k 0x0B 1 (
    entryItems k 0 t.regions (free (·.regions)) ++
    entryItems k 1 t.slices (fun n => free (·.slices) n && s.sliceState n != 2) ++
    entryItems k 2 t.slots (free (·.slots)) ++
    entryItems k 3 t.eps (fun e => free (·.eps) e && (s.epKey e).isNone) ++
    entryItems k 4 t.banks (fun b => !(s.bankBound b && others.any (fun o => o.1 == s.bankFacet b)))),
   secItems k 0x0B 9 [(0, others.all (fun o => !pairsMeet k o.2))]]

def resourceHeld (s : State) (others : List (Nat × Kcs)) (k : Kcs) : Bool := (firstBad (s.heldChecks others k)).isSome

/-- Two streams of one change name the same resource. -/
def sameNamed (k o : Kcs) : Bool :=
  let t := k.table
  let u := o.table
  t.regions.any u.regions.contains || t.slices.any u.slices.contains || t.slots.any u.slots.contains ||
  t.eps.any u.eps.contains || t.banks.any u.banks.contains || pairsMeet k o

/-- The point a half has after the stream's changes. -/
def pointAfter (s : State) (k : Kcs) (i : Nat) : Nat :=
  let x := k.points.getD i 0xFF
  if x ≠ 0xFF ∧ 128 ≤ x then x % 4 else s.regionPoint (4 * i)

/-- R149 and R234 against the present points. -/
def pointsOk (s : State) (others : List (Nat × Kcs)) (k : Kcs) : Bool :=
  let holds (t : FacetTable) (i : Nat) : Bool := t.regions.any (fun r => r / 4 == i)
  pointsGiven k &&
  (List.range 16).all (fun i =>
    let x := k.points.getD i 0xFF
    let p := x % 4
    x == 0xFF ||
    (if 128 ≤ x then others.all (fun o => !holds o.2.table i) && (p == 2 || (!s.domHeld i && s.domOn (quadDomain (i / 4))))
     else !holds k.table i || p == s.regionPoint (4 * i))) &&
  k.table.regions.all (fun r => s.pointAfter k (r / 4) != 2) &&
  k.routes.all (fun x => x.path.all (fun l => s.pointAfter k (nbits l 15 10 / 4) != 2 &&
    (match crossing l with
     | some n => s.pointAfter k (n.1 / 4) != 2
     | none => true))) &&
  (k.routes.filter (fun x => x.mode % 2 == 0)).all (fun x => x.path.all (fun l => match crossing l with
    | some n => s.pointAfter k (n.1 / 4) == s.pointAfter k (nbits l 15 10 / 4) ||
        (slotTimes x).all (fun t => (workOf true t).isSome && (slotTimes x).all (fun u => u ≤ t || t + 2 ≤ u))
    | none => true)) &&
  k.cells.all (fun c => c.prog == 0xFFFF || s.pointAfter k (c.region / 4) != 1 ||
    (programOf (k.images.getD c.prog ⟨[], []⟩).data).all (fun e => match e with
      | some (o, i) => !timedOp o || i.beat.toNat ≤ 2047
      | none => true))

def siteIn (s : State) (c : Nat) : Nat := s.rf (Reg.SITE_CH c) 25 16
def siteOut (s : State) (c : Nat) : Nat := s.rf (Reg.SITE_CH c) 9 0

/-- Peaks of all facets that would be bound fit the channels of every site, and a guest is named by one facet (R266). -/
def prismFits (s : State) (others : List (Nat × Kcs)) (k : Kcs) : Bool :=
  let all := k.grants :: others.map (fun o => o.2.grants)
  (grantSites all.flatten).all (fun c =>
    sumNat (all.map (fun g => peak g c true)) ≤ s.siteOut c && sumNat (all.map (fun g => peak g c false)) ≤ s.siteIn c) &&
  [0x40, 0x41].all (fun c => !(grantSites k.grants).contains c || others.all (fun o => !(grantSites o.2.grants).contains c))

/-- The port through which a route entry leads. -/
def routePort (s : State) (eid : Nat) : Nat := s.route eid % 32

/-- Reservations of a port by streams. -/
def portRes (s : State) (ks : List Kcs) (p : Nat) (bytes : Bool) : Nat :=
  sumNat (ks.flatMap (fun k => (k.reservations.filter (fun r => s.routePort r.eid == p)).map
    (fun r => if bytes then r.bytes else r.perFrame)))

/-- R242 and R327 at commit. -/
def fabricFits (s : State) (others : List (Nat × Kcs)) (k : Kcs) : List (Nat × Bool) :=
  let ks := k :: others.map (·.2)
  itemsAt 0 4 (k.eids.map (fun e => others.all (fun o => !o.2.eids.contains e) &&
    (List.range 8).all (fun i => match tget none s.msf.keys i with
      | some r => r.eid != e
      | none => true))) ++
  itemsAt (resAt k) 16 (k.reservations.map (fun r =>
    let p := s.routePort r.eid
    s.routeValid r.eid && !s.routeLocal r.eid && r.bytes % 64 == 0 && 8256 ≤ r.bytes &&
    s.portRes ks p true ≤ 917504 &&
    s.portRes ks p false ≤ (if bit (s.reg (Reg.PORT_STAT p)) 28 then 102000000 else 204000000)))

/-- No repair position conflicts with the fuse map, and no two lie in one block (R71). -/
def repairItems (s : State) (k : Kcs) : List (Nat × Bool) :=
  itemsAt (k.signed + 16640 + 64) 4 (k.repair.map (fun e =>
    let fuse := s.rf (Reg.BLK_MAP e.1 e.2.1) 4 0
    (17 ≤ fuse || fuse == e.2.2) &&
    (k.repair.filter (fun g => g.1 == e.1 && g.2.1 == e.2.1)).length == 1))

/-- A RETAIN stream replaces the stream it names, with the same session, group and slots (R250). -/
def retainOk (s : State) (f : Nat) (k : Kcs) : Bool :=
  !k.retain || (s.facetBound f && k.baseId == (s.kcs f).streamId && k.kept == (s.kcs f).kept)

/-- The stage area that a stream was read from is still its holder's, before and after the change (R251). -/
def sourceAreaOk (s : State) (x : Staged) (sets : List (Nat × Kcs)) : Bool :=
  x.source != 2 ||
  (match s.areaFacet x.addr with
   | none => false
   | some g =>
     let n := x.kcs.signed + 16640
     inList (s.kcs g).table.slices x.addr n &&
     (match sets.find? (fun e => e.1 == g) with
      | some e => inList e.2.table.slices x.addr n
      | none => true))

/-- No named slice is OFFLINE or RETIRED, no work lies on a retired block, and no named bank is in FAULT or OFFLINE. -/
def unusable (s : State) (k : Kcs) : List Check :=
  [secItems k 0x0C 1 (entryItems k 1 k.table.slices (fun n => s.sliceState n < 3)),
   secItems k 0x0D 6 (itemsAt (64 + 16 * k.images.length) 8 (k.cells.map (fun c => !bit (s.reg (Reg.BLK_MAP c.region c.block)) 24))),
   secItems k 0x0D 1 (entryItems k 4 k.table.banks (fun b => s.bankStateOf b < 4))]

/-- Reading the stream again fails, or gives other bytes than STAGE verified (R247, R255). -/
def readAgain (s : State) (x : Staged) (again : Reread) : Option Check :=
  if x.source = 2 then (if s.poisoned x.addr (x.kcs.signed + 16640) then some ⟨0x20, 0xFF, 0, false⟩ else none)
  else match again with
    | .bytes b => if sha384 (sub b 0 x.kcs.signed) = x.kcs.digest then none else some ⟨0x1C, 0xFF, 0, false⟩
    | .failed => some ⟨0x20, 0xFF, 0, false⟩

/-- Facets whose unbind has begun: what they hold is soon idle. -/
def unbinding (s : State) : List Nat := (List.range 64).filter (fun g => s.facetBound g && (s.facet g).drain == 2)

/-- The first refusal of a facet's staged stream at commit, in the order of the codes (log 26). sets: the
streams that the change binds; gone: bound facets that do not count. -/
def commitBad (s : State) (f : Nat) (x : Staged) (sets : List (Nat × Kcs)) (gone : List Nat) : Option Check :=
  let k := x.kcs
  let others := s.boundExcept (sets.map (·.1) ++ gone) ++ sets.filter (fun e => e.1 != f)
  firstBad ([
    ⟨0x0B, (secPlace k 1).1, (secPlace k 1).2, (sets.filter (fun e => e.1 != f)).all (fun o => !sameNamed k o.2)⟩] ++
    s.unusable k ++ [
    checkItems 0x0E 0xFF 0 (s.repairItems k),
    secItems k 0x0F 2 [(0, s.capPublished k)],
    secItems k 0x10 3 [(0, s.pointsOk others k)],
    secItems k 0x13 5 [(0, s.prismFits others k)],
    secItems k 0x15 8 (tensorItems k),
    secItems k 0x1A 12 (s.fabricFits others k),
    secItems k 0x1B 1 [(16, s.sourceAreaOk x sets)],
    ⟨0x1D, 0xFF, 32, s.retainOk f k⟩,
    secItems k 0x1E 1 [(8, k.table.jobTag != 0 && others.all (fun o => o.2.table.jobTag != k.table.jobTag))]])

/-! Releasing (R29, R108, R222, R249, R253). -/

/-- Window entries of an endpoint are cleared (R346), and its message queue is off (R368). -/
def clearWindows (s : State) (ep : Nat) : State :=
  ({ s with msf := { s.msf with windows := s.msf.windows.filter (fun e => e.1 % 64 != ep) } }).wf (Reg.MQ_CTL ep) 31 31 0

def releaseSlot (s : State) (p : Nat) : State :=
  ((s.setSlot p SlotState.reset).setReg (Reg.SLOT_STAT p) 0 |>.setReg (Reg.SLOT_QP p) 0).freed (2048 + p) s.dt

/-- A bank without a facet: no job waits or lists (R191). -/
def releaseBank (s : State) (b : Nat) : State :=
  let a := Reg.BANK_STAT b
  ((((s.wf a 29 24 0).wf a 23 23 0).wf a 4 0 0).setBank b { s.bank b with waiting := [], lists := [] }).freed (4096 + b) s.dt

def banksOf (s : State) (f : Nat) : List Nat := (List.range 32).filter (fun b => s.bankBound b && s.bankFacet b == f)

/-- The banks of a facet that table t does not name. -/
def leavingBanks (s : State) (f : Nat) (t : FacetTable) : List Nat := (s.banksOf f).filter (fun b => !t.banks.contains b)

/-- Requests to a slice that its home agents hold complete, and open merge entries are written back, before its clear
begins (R367). -/
def settleSlice (s : State) (n : Nat) : State :=
  let lines := s.msf.homes.flatMap (fun e => (e.2.queue.map (·.line) ++ e.2.merges.map (·.line)).filter (fun l => sliceOf (l * 128) == n))
  forEach lines s (fun t l => (t.homeFlush l).closeMerge (homeOf (l * 128)) l)

/-- The regions, slices and banks of facet f's binding that table t does not name are released, and leave the binding
(R249). -/
def releaseUnits (s : State) (f : Nat) (t : FacetTable) : State :=
  let k := s.kcs f
  let old := k.table
  let s := forEach (old.regions.filter (fun r => !t.regions.contains r)) s (fun u r =>
    if u.regionBound r && u.regionFacet r == f then u.releaseRegion r else u)
  let s := forEach (old.slices.filter (fun n => !t.slices.contains n)) s (fun u n => (u.settleSlice n).releaseSlice n)
  let s := forEach (s.leavingBanks f t) s (fun u b => u.releaseBank b)
  let table := { old with
    regions := old.regions.filter t.regions.contains, slices := old.slices.filter t.slices.contains
    banks := old.banks.filter t.banks.contains }
  s.setFacet f { s.facet f with kcs := { k with table := table, cells := k.cells.filter (fun c => t.regions.contains c.region) } }

/-- Slots and endpoints that table t does not name are released: an endpoint's flows are dropped, and its windows are
cleared (R29, R343, R346). The moment is kept for them and for the queue-pair range (R252). -/
def releaseEnds (s : State) (f : Nat) (t : FacetTable) (eids : List Nat) : State :=
  let k := s.kcs f
  let s := forEach (k.table.eps.filter (fun e => !t.eps.contains e)) s (fun u e => u.freed (3072 + e) u.dt)
  let s := match k.session with
    | some x => s.freed (8192 + x.qbase) (s.dt * 2 ^ 20 + x.qn)
    | none => s
  let s := forEach (k.table.slots.filter (fun p => !t.slots.contains p)) s (fun u p => u.releaseSlot p)
  let s := s.dropFlows f (k.table.eps.filter (fun e => !t.eps.contains e)) (k.eids.filter (fun e => !eids.contains e))
    ((s.session f).map (fun _ => s.sessionEid f))
  forEach k.table.eps s (fun u e => u.clearWindows e)

end State

/-- No resources. -/
def FacetTable.none : FacetTable := ⟨[], [], [], [], [], 0, 0, 0, 0, 0⟩

namespace State

/-- The facet's translation entries are cleared (R367). -/
def clearXlt (s : State) (f : Nat) : State :=
  { s with msf := { s.msf with xlt := s.msf.xlt.filter (fun e => e.1 / 16 != f) } }

/-- The unbind boundary (R253): UNBOUND entries, slices CLEARING, engines and banks stopped, all idle. A staged
stream is kept. -/
def unbindNow (s : State) (f : Nat) : State :=
  let s := (s.unboundEntries f).closeKeys f
  let s := (s.releaseEnds f FacetTable.none []).releaseUnits f FacetTable.none
  let s := (s.clearXlt f).setReg (Reg.GRP_CFG f) 0
  let x := s.facet f
  let s := s.setFacet f { FacetState.reset with staged := x.staged, commit := x.commit }
  let st := s.rf (Reg.FACET_STAT f) 28 27
  ((s.setReg (Reg.FACET_STAT f) (BitVec.ofNat 32 (st * 2 ^ 27))).setReg (Reg.FACET_ID f) 0).raise Reg.CFG_EVT 3

/-! Binding (R249, R250). -/

/-- A region is bound: its registers, queues and blocks begin afresh (R76, R97, R155, R403), and map-outs apply (R71). -/
def bindRegion (s : State) (f r : Nat) : State :=
  let a := Reg.REG_STAT r
  let s := (s.wf a 29 24 f).wf a 23 23 1
  let s := ((s.setReg (Reg.REG_SLIP r) 0).setReg (Reg.REG_LOST r) 0).setReg (Reg.RGEN r) 0
  let s := forEach (List.range 16) s (fun t q => t.setReg (Reg.QUE_STAT r q) (BitVec.ofNat 32
    (reservedIn (s.kcs f) (r, q) * 2 ^ 16)))
  let d := r / 8
  let s := (s.setReg (Reg.EBW_BLOCKS d) 0).setReg (Reg.EBW_CNT d) 0
  let s := s.setRegion r (s.region r).kept
  forEach (List.range 8) s (fun t b =>
    let m := Reg.BLK_MAP r b
    let rep := (s.kcs f).repair.find? (fun e => e.1 == r && e.2.1 == b)
    let kp := match rep with
      | some e => e.2.2
      | none => 0x1F
    let t := t.wf m 12 8 kp
    let fuse := t.rf m 4 0
    let act := if fuse < 17 then fuse else kp
    let t := if t.rf m 20 16 = act then t else
      forEach (List.range 17) (t.wf m 20 16 act) (fun u p =>
        u.setCell (posKey r b p) { u.cell (posKey r b p) with progLen := 0, progDigest := [], dataDigest := [] })
    forEach (List.range 17) t (fun u p =>
      let c := Reg.CELL_STAT r b p
      let k := posKey r b p
      let y := u.cell k
      let on := if act < 17 then p != act else p < 16
      (((u.wf c 23 16 0).wf c 11 4 0).wf c 1 1 (b2n on)).setCell k { CellState.reset with
        store := y.store, progLen := y.progLen, progDigest := y.progDigest, dataDigest := y.dataDigest
        mode := if y.mode = .faulted then .faulted else .idle }))

/-- A cell's images are written, unless it holds them already (R250). -/
def loadCell (s : State) (f : Nat) (x : CellRec) : State :=
  let im := (s.kcs f).images
  let dig (i : Nat) : Bytes := sha384 (if i = 0xFFFF then [] else (im.getD i ⟨[], []⟩).data)
  let c := s.cell (s.keyOf x.region x.block x.cell)
  if c.progDigest = dig x.prog ∧ c.dataDigest = dig x.data then s else s.placeImages f x

def bindSlots (s : State) (f : Nat) (keep : Bool) : State :=
  let l := (s.kcs f).table.slots
  forEach (l.zipIdx) s (fun t e =>
    if keep then t else
      let t := t.releaseSlot e.1
      t.setReg (Reg.SLOT_STAT e.1) (BitVec.ofNat 32 (2 ^ 31 + f * 2 ^ 22 + e.2 * 2 ^ 16)))

def bindBanks (s : State) (f : Nat) : State :=
  forEach ((s.kcs f).table.banks.zipIdx) s (fun t e =>
    let a := Reg.BANK_STAT e.1
    let t := ((t.wf a 29 24 f).wf a 23 23 1).wf a 4 0 e.2
    ((t.setReg (Reg.BANK_JOBS e.1) 0).wf (Reg.BANK_ENOB e.1) 7 0 0).setBank e.1 { t.bank e.1 with enobMin := none })

/-- Routes of the facet's endpoints: VALID, LOCAL and the endpoint; windows begin clear (R323, R346). -/
def bindEps (s : State) (f : Nat) : State :=
  let k := s.kcs f
  forEach (k.table.eps.zipIdx) s (fun t e =>
    let eid := k.eids.getD e.2 0
    let t := if t.fab.linger.any (fun l => l.1 == eid) then t.dropSends eid else t
    ((t.takeEid eid e.1).clearWindows e.1))

def bindGroup (s : State) (f : Nat) : State :=
  s.setReg (Reg.GRP_CFG f) (match (s.kcs f).group with
    | some g => BitVec.ofNat 32 (2 ^ 31 + g.ilog2 * 2 ^ 24 + g.rank * 2 ^ 16 + (g.g - 1) * 2 ^ 8)
    | none => 0)

/-- The contexts of queue pairs new to the facet are zero (R249). -/
def zeroContexts (s : State) (f : Nat) : State :=
  match (s.kcs f).session with
  | some x => { s with mem := tclear x.qpctx (x.qpctx + 64 * x.qn) s.mem }
  | none => s

/-- Counts that begin afresh with a bind (R193, R224, R290, R344, R368, R464). -/
def clearCounts (s : State) (f : Nat) : State :=
  let s := { s with prism := { s.prism with owed := s.prism.owed.filter (fun o => o.facet != f) } }
  forEach [Reg.SES_REQ f, Reg.SES_ERR f, Reg.SES_NAN f, Reg.LPE_CNT f, Reg.PRISM_LATE f, Reg.MSF_REF f, Reg.REC f, Reg.FCNT_RET f, Reg.FCNT_UND f] s
    (fun t a => t.setReg a 0)

/-- Domains and points of the stream's changes (R249). Every region of a half that changes between FULL and HALF, or
comes on, holds from now on and relocks at the next device beat boundary at which its outbound queues are empty; its window
is over before the facet's first frame (R150 to R152). -/
def changePoints (s : State) (k : Kcs) : State :=
  forEach (List.range 16) s (fun t i =>
    let x := k.points.getD i 0xFF
    if x ≠ 0xFF ∧ 128 ≤ x ∧ t.regionPoint (4 * i) ≠ x % 4 then
      let t := t.changePoint i (x % 4)
      if x % 4 = 2 then t
      else forEach (halfRegions i) t (fun u r =>
        let u := (u.askRelock r 0).wf (Reg.REG_STAT r) 18 18 1
        u.setRegion r { u.region r with newPoint := some (x % 4), relockDue := true, window := 0 })
    else t)

/-- The budget of a commit begins at the latest of its boundary, the moment the last named resource became idle and that at
which the last named slice became FREE (R252). -/
def budgetStart (s : State) (k : Kcs) (boundary : Nat) : Nat :=
  let t := k.table
  let at_ (key : Nat) : Nat := tget 0 s.loader.freed key
  let pairs := match k.session with
    | some x => (s.loader.freed.filter (fun e => 8192 ≤ e.1 && e.1 - 8192 < x.qbase + x.qn && x.qbase < e.1 - 8192 + e.2 % 2 ^ 20)).map (·.2 / 2 ^ 20)
    | none => []
  min s.dt (maxNat ([boundary] ++ t.slices.map at_ ++ t.regions.map (fun r => at_ (1024 + r)) ++ t.slots.map (fun p => at_ (2048 + p)) ++
    t.eps.map (fun e => at_ (3072 + e)) ++ t.banks.map (fun b => at_ (4096 + b)) ++ pairs))

/-- Steps 5 and 6 of R249: points change, the bindings are written, and the facet is LOADING. Its frame clock begins
afresh; under RETAIN the step number stays. start: when its budget began (R252). -/
def bindFacet (s : State) (f : Nat) (x : Staged) (run all : Bool) (start : Nat) : State :=
  let k := x.kcs
  let old := s.facet f
  let s := s.changePoints k
  let s := s.setFacet f { FacetState.reset with
    kcs := k, source := x.source, srcAddr := x.addr, step := if k.retain then old.step else 0, firstFrame := true
    load := some ⟨start, all, run⟩ }
  let s := s.setReg (Reg.FACET_STAT f) (BitVec.ofNat 32 (2 ^ 29 + b2n k.retain * 2 ^ 26 + k.table.jobTag))
  let s := s.setReg (Reg.FACET_ID f) (BitVec.ofNat 32 k.streamId)
  let s := forEach k.table.slices s (fun t n => t.setSlice n 1 f)
  let s := forEach k.table.regions s (fun t r => t.bindRegion f r)
  (((s.bindSlots f k.retain).bindBanks f).bindEps f).clearXlt f

/-- The budget of a commit in device ticks, 1,800 a microsecond (R252). -/
def commitBudget (s : State) (f : Nat) (all : Bool) : Nat :=
  let total := (s.kcs f).signed + 16640
  if all then 72000000
  else match (s.facet f).source with
    | 0 => 3600000 + total * 9 / 100
    | 1 => 3600000 + total * 36 / 7
    | _ => 3600000

/-- CFG_TIME, OVER_BUDGET and DONE (R252); those of a COMMIT_ALL come with its last facet. -/
def commitDone (s : State) (f : Nat) (w : LoadWait) : State :=
  let more := w.all && (List.range 64).any (fun g => match (s.facet g).load with
    | some v => v.all
    | none => false)
  if more then s
  else
    let n := s.dt - w.start
    let s := s.setReg Reg.CFG_TIME (BitVec.ofNat 32 (min (2 ^ 32 - 1) (n / 1800)))
    let s := if s.commitBudget f w.all < n then s.raise Reg.CFG_EVT 6 else s
    s.raise Reg.CFG_EVT 0

/-- Steps 7 to 9 of R249: images, descriptors and the group table are written, contexts are zero, per-bind registers
are clear, and the facet is HELD. A facet that was RUNNING starts its new stream at the next frame start. -/
def loadEnds (s : State) (f : Nat) (w : LoadWait) : State :=
  let k := s.kcs f
  let s := forEach k.cells s (fun t c => t.loadCell f c)
  let s := forEach k.tensors s (fun t e => t.writeMem e.dpa e.desc)
  let s := s.bindGroup f
  let s := if k.retain then s else s.zeroContexts f
  let s := s.clearCounts f
  let s := (s.setFacet f { s.facet f with load := none, startDue := w.running, autoStart := w.running }).setFacetState f 2
  s.commitDone f w

/-- A load ends in a refusal: the facet is STOPPED with its new resources held (R256, R257). -/
def loadFails (s : State) (f : Nat) (c : Check) : State :=
  ((s.setFacet f { s.facet f with load := none }).setFacetState f 5).cfgRefuse f c.code c.sec c.at_

/-- No named resource has become unusable during the load, a region by the loss of its supply among them (R257, R273;
log 34). -/
def lostInLoad (s : State) (f : Nat) (k : Kcs) : List Check :=
  s.unusable k ++ [secItems k 0x0D 1 (entryItems k 0 k.table.regions (fun r => s.regionBound r && s.regionFacet r == f))]

/-- The end of a load: its reads have failed, a resource has become unusable, or it is complete (R249, R256, R257). -/
def loadBoundary (s : State) (f : Nat) (w : LoadWait) (again : Reread) : State :=
  let x := s.facet f
  let failed := if x.source = 2 then s.poisoned x.srcAddr (x.kcs.signed + 16640) else again == .failed
  if failed then s.loadFails f ⟨0x20, 0xFF, 0, false⟩
  else match firstBad (s.lostInLoad f x.kcs) with
    | some c => s.loadFails f c
    | none => s.loadEnds f w

/-- The rest of the old binding goes: FULL ends its sessions, RETAIN keeps them (R250). -/
def releaseOld (s : State) (f : Nat) (k : Kcs) : State :=
  if !s.facetBound f then s
  else
    let s := if k.retain then s else s.unboundEntries f
    ((s.closeKeys f).releaseEnds f k.table k.eids).releaseUnits f k.table

/-- A commit ends in a refusal: the facet keeps its binding and state, and the staged stream (R256). -/
def commitFail (s : State) (f : Nat) (c : Check) : State :=
  let x := s.facet f
  let back : Bool := match x.commit with
    | some w => w.running
    | none => false
  let s := (s.setFacet f { x with commit := none }).cfgRefuse f c.code c.sec c.at_
  if back ∧ s.facetState f = 4 then s.setFacetState f 3 else s

/-- Facets of a COMMIT_ALL under way. -/
def allWaiting (s : State) : List Nat :=
  (List.range 64).filter (fun g => match (s.facet g).commit with
    | some c => c.all
    | none => false)

/-- A COMMIT_ALL ends: none of its streams is applied, and CFG_RESULT names the refusal of facet g (R251). -/
def failAll (s : State) (g : Nat) (c : Check) : State :=
  (forEach s.allWaiting s (fun t h => t.commitFail h c)).cfgRefuse g c.code c.sec c.at_

def wasRunning (s : State) (f : Nat) : Bool :=
  match (s.facet f).commit with
  | some c => c.running
  | none => false

def wasReleased (s : State) (f : Nat) : Bool :=
  match (s.facet f).commit with
  | some c => c.released
  | none => false

/-- A commit waits one more frame for resources (R249). -/
def waitMore (s : State) (f : Nat) : State :=
  let x := s.facet f
  s.setFacet f { x with commit := x.commit.map (fun c => { c with frames := c.frames + 1 }) }

/-- The second step of R249. -/
def releaseFor (s : State) (f : Nat) (k : Kcs) : State :=
  let s := if s.facetBound f then s.releaseUnits f k.table else s
  let x := s.facet f
  s.setFacet f { x with commit := x.commit.map (fun c => { c with released := true }) }

/-- A job is still on a bank that leaves the facet (R191). -/
def banksBusy (s : State) (f : Nat) (t : FacetTable) : Bool := (s.leavingBanks f t).any (fun b => !s.bankIdle b)

/-- The stream asks for a domain that is off while the write inhibit is in force: no domain is switched on until it
clears (R410, R429). -/
def switchWaits (s : State) (k : Kcs) : Bool :=
  s.inhibited && (List.range 16).any (fun i =>
    let x := k.points.getD i 0xFF
    x != 0xFF && 128 ≤ x && x % 4 != 2 && !(s.domOn i && s.domOn (midDomain (i / 2))))

/-- Commits of lower facets that can take their resources now (R257). -/
def lowerClaims (s : State) (f : Nat) : List (Nat × Kcs) :=
  (List.range f).filterMap (fun g => match (s.facet g).commit, (s.facet g).staged with
    | some c, some y =>
      if c.all || !s.commitDue g || s.resourceHeld (s.boundExcept [g]) y.kcs then none else some (g, y.kcs)
    | _, _ => none)

/-- Nothing but a facet that is being unbound stands in the way of the stream (R249). -/
def unbindWaits (s : State) (f : Nat) (x : Staged) (sets : List (Nat × Kcs)) : Bool :=
  (s.commitBad f x sets s.unbinding).isNone && (s.commitBad f x sets []).isSome

/-- The device tick of the commit boundary of a facet's commit. -/
def boundaryOf (s : State) (f : Nat) : Nat :=
  ((s.facet f).commit.bind (fun c => c.boundary)).getD s.dt

/-- The commit boundary has come: its moment is kept (R252). -/
def atBoundary (s : State) (f : Nat) : State :=
  let x := s.facet f
  s.setFacet f { x with commit := x.commit.map (fun c => { c with boundary := some (c.boundary.getD s.dt) }) }

/-- The commit boundary of a facet (R248 to R252). The checks of the fourth step come once before anything is released,
without what facets that are being unbound hold still, and once after the wait (log 34). -/
def commitOne (s : State) (f : Nat) (x : Staged) (again : Reread) : State :=
  let run := s.wasRunning f
  let k := x.kcs
  let early := if s.wasReleased f then none else s.commitBad f x [(f, k)] s.unbinding
  match s.readAgain x again, early with
  | some c, _ => s.commitFail f c
  | none, some c => s.commitFail f c
  | none, none =>
    if !s.wasReleased f && s.banksBusy f k.table then s.waitMore f
    else if s.switchWaits k then s
    else
      let s := if s.wasReleased f then s else s.releaseFor f k
      match firstBad (s.unusable k) with
      | some c => s.commitFail f c
      | none =>
        if s.resourceHeld (s.boundExcept [f] ++ s.lowerClaims f) k || s.unbindWaits f x [(f, k)] then s.waitMore f
        else match s.commitBad f x [(f, k)] [] with
          | some c => s.commitFail f c
          | none => (s.releaseOld f k).bindFacet f x run false (s.budgetStart k (s.boundaryOf f))

/-- COMMIT_ALL: when every facet is held, all streams apply together, or none does (R251). -/
def commitTogether (s : State) (f : Nat) (again : Reread) : State :=
  let x := s.facet f
  let s := s.setFacet f { x with commit := x.commit.map (fun c => { c with held := true }) }
  let fs := s.allWaiting
  let sets := fs.filterMap (fun g => (s.facet g).staged.map (fun y => (g, y)))
  let ks := sets.map (fun e => (e.1, e.2.kcs))
  let bad (t : State) (gone : List Nat) : Option (Nat × Check) :=
    sets.findSome? (fun e => (t.commitBad e.1 e.2 ks gone).map (fun c => (e.1, c)))
  let done := fs.any s.wasReleased
  match x.staged.bind (fun y => s.readAgain y again) with
  | some c => s.failAll f c
  | none =>
    if fs.any (fun g => match (s.facet g).commit with
        | some c => !c.held
        | none => true) then s
    else match (if done then none else bad s s.unbinding) with
      | some (g, c) => s.failAll g c
      | none =>
        if !done && sets.any (fun e => s.banksBusy e.1 e.2.kcs.table) then s.waitMore f
        else if sets.any (fun e => s.switchWaits e.2.kcs) then s
        else
          let s := if done then s else forEach sets s (fun t e => t.releaseFor e.1 e.2.kcs)
          if sets.any (fun e => s.resourceHeld (s.boundExcept fs) e.2.kcs || s.unbindWaits e.1 e.2 ks) then s.waitMore f
          else match bad s [] with
            | some (g, c) => s.failAll g c
            | none =>
              let runs := sets.map (fun e => (e.1, s.wasRunning e.1))
              let last := maxNat (fs.map s.boundaryOf)
              let start := maxNat (ks.map (fun e => s.budgetStart e.2 last))
              let s := forEach sets s (fun t e => t.releaseOld e.1 e.2.kcs)
              forEach sets s (fun t e => t.bindFacet e.1 e.2 (runs.any (fun r => r.1 == e.1 && r.2)) true start)

/-- A frame boundary of a facet that loads, or whose commit waits (R248). -/
def commitBoundary (s : State) (f : Nat) (again : Reread) : State :=
  let x := s.facet f
  match x.load, x.commit, x.staged with
  | some w, _, _ => s.loadBoundary f w again
  | none, some c, some st =>
    if x.drain = 2 then s
    else if s.commitDue f then
      let s := s.atBoundary f
      if c.all then s.commitTogether f again else s.commitOne f st again
    else if c.at_.isNone then s.setFacet f { x with drainLeft := x.drainLeft - 1 } else s
  | _, _, _ => s

/-! Holding and unbinding (R246, R253, R254). -/

/-- What an UNBIND cancels: a commit that waits (R257). -/
def cancelCommit (s : State) (f : Nat) : State := s.setFacet f { s.facet f with commit := none }

/-- The jobs that facet f has on a bank end without their lists (R191). -/
def endJobs (s : State) (f b : Nat) : State :=
  let x := s.bank b
  let on := x.lists.any (fun e => e.1 == f)
  s.setBank b { x with waiting := x.waiting.filter (fun e => e.1 != f), lists := x.lists.filter (fun e => e.1 != f)
                       heldUntil := if on then min x.heldUntil s.dt else x.heldUntil }

/-- A forced unbind isolates every cell of the facet's regions and stops frames; engines and banks end without output
(R33, R91, R191, R254). -/
def forceNow (s : State) (f : Nat) : State :=
  let s := forEach (s.kcs f).table.regions s (fun t r =>
    (forEach (List.range 8) t (fun u b => forEach (List.range 16) u (fun v l => v.isolateCell r b l))).stopEngines r)
  let s := forEach (List.range 32) s (fun t b => t.endJobs f b)
  let x := s.facet f
  (s.setFacet f { x with drain := 2, forced := true, inStep := false, void := false, startDue := false, commit := none, load := none }).setFacetState f 4

/-- A commit is given for a facet (R248). -/
def askCommit (s : State) (f : Nat) (at_ : Bool) (all : Bool) : State :=
  let x := s.facet f
  let run := s.facetState f == 3 || s.wasRunning f
  let a := if at_ then some (s.reg Reg.CFG_AT).toNat else none
  let s := s.setFacet f { x with commit := some ⟨0, a, all, run, false, false, none⟩, drainLeft := (s.kcs f).table.drain }
  if run && !at_ then s.setFacetState f 4 else s

/-- AT names a step that the facet has committed already (R255). -/
def atPast (s : State) (f : Nat) (at_ : Bool) : Bool :=
  at_ && s.facetBound f && stepAfter (s.facet f).step (s.reg Reg.CFG_AT).toNat

end State

/-- STAGE (R246, R247): the loader reads and verifies a stream; a stream staged before is replaced. -/
def State.cmdStage (f : Fin 64) (source : BitVec 2) (s : State) : State :=
  (s.loaderCmd (fun s =>
    if source = 3 then ((s.setFacet f.val { s.facet f.val with staged := none }).setStage f.val 3).cfgRefuse f.val 0x08 0xFF 0
    else
      let a := (s.reg Reg.CFG_SRC_LO).toNat + (s.reg Reg.CFG_SRC_HI).toNat * 2 ^ 32
      let s := { s with loader := { s.loader with source := source.toNat, addr := a, len := (s.reg Reg.CFG_LEN).toNat } }
      ((s.setFacet f.val { s.facet f.val with staged := none }).setStage f.val 1).showBusy (some (1, f.val))))

/-- The command Stage. -/
def execStage (f : Fin 64) (source : BitVec 2) (s : State) : Result := finish s (s.cmdStage f source)

/-- STAGED (R247, R255): reading and verifying end, with the bytes read from the host or the flash. -/
def execStaged (stream : Bytes) (readOk : Bool) (sig : SigCheck) (s : State) : Result :=
  finish s (match s.loader.busy with
    | some (1, f) => s.stageEnd f stream readOk sig
    | _ => s)

/-- COMMIT (R246, R248). -/
def State.cmdCommit (f : Fin 64) (at_ : Bool) (s : State) : State :=
  (s.loaderCmd (fun s =>
    if (s.facet f.val).staged.isNone || s.atPast f.val at_ then s.refuseState f.val
    else s.askCommit f.val at_ false))

/-- The command Commit. -/
def execCommit (f : Fin 64) (at_ : Bool) (s : State) : Result := finish s (s.cmdCommit f at_)

/-- COMMIT_ALL (R246, R251). -/
def State.cmdCommitAll (at_ : Bool) (s : State) : State :=
  (s.loaderCmd (fun s =>
    let fs := (List.range 64).filter (fun f => (s.facet f).staged.isSome)
    match fs.find? (fun f => s.atPast f at_) with
    | some f => s.refuseState f
    | none => if fs.isEmpty then s.refuseState 0 else forEach fs s (fun t f => t.askCommit f at_ true)))

/-- The command CommitAll. -/
def execCommitAll (at_ : Bool) (s : State) : Result := finish s (s.cmdCommitAll at_)

/-- START (R246): RUNNING from the next frame boundary. -/
def State.cmdStart (f : Fin 64) (s : State) : State :=
  (s.loaderCmd (fun s =>
    if s.facetState f.val = 2 then s.setFacet f.val { s.facet f.val with startDue := true, autoStart := false }
    else s.refuseState f.val))

/-- The command Start. -/
def execStart (f : Fin 64) (s : State) : Result := finish s (s.cmdStart f)

/-- HOLD (R246). -/
def State.cmdHold (f : Fin 64) (s : State) : State :=
  (s.loaderCmd (fun s =>
    if s.facetState f.val = 3 then
      (s.setFacet f.val { s.facet f.val with drain := 1, drainLeft := (s.kcs f.val).table.drain }).setFacetState f.val 4
    else s.refuseState f.val))

/-- The command Hold. -/
def execHold (f : Fin 64) (s : State) : Result := finish s (s.cmdHold f)

/-- UNBIND (R246, R253, R257). -/
def State.cmdUnbind (f : Fin 64) (s : State) : State :=
  (s.loaderCmd (fun s =>
    let st := s.facetState f.val
    let waits := (s.facet f.val).commit.isSome
    if st = 2 ∨ st = 3 ∨ st = 5 ∨ (st = 4 ∧ waits) then
      let s := s.cancelCommit f.val
      (s.setFacet f.val { s.facet f.val with drain := 2, drainLeft := (s.kcs f.val).table.drain, startDue := false }).setFacetState f.val 4
    else (if st = 0 then s.cancelCommit f.val else s).refuseState f.val))

/-- The command Unbind. -/
def execUnbind (f : Fin 64) (s : State) : Result := finish s (s.cmdUnbind f)

/-- FORCE_UNBIND (R246, R254, R257). An UNBOUND facet has nothing to unbind; a commit of it that waits is cancelled. -/
def State.cmdForceUnbind (f : Fin 64) (s : State) : State :=
  (s.loaderCmd (fun s =>
    if s.facetState f.val = 0 then (s.cancelCommit f.val).refuseState f.val else s.forceNow f.val))

/-- The command ForceUnbind. -/
def execForceUnbind (f : Fin 64) (s : State) : Result := finish s (s.cmdForceUnbind f)

/-- DISCARD (R246): the staged stream is dropped, its stage area unlocked, and a commit of it that waits ends. -/
def State.cmdDiscard (f : Fin 64) (s : State) : State :=
  (s.loaderCmd (fun s =>
    let s := if (s.facet f.val).commit.isSome then s.commitFail f.val ⟨0x1F, 0xFF, 0, false⟩ else s
    (s.setFacet f.val { s.facet f.val with staged := none }).setStage f.val 0))

/-- The command Discard. -/
def execDiscard (f : Fin 64) (s : State) : Result := finish s (s.cmdDiscard f)

/-- COMMIT_BOUNDARY (R249 to R252): a frame boundary of a facet with a commit that waits. -/
def execCommitBoundary (f : Fin 64) (again : Reread) (s : State) : Result := finish s (s.commitBoundary f.val again)

/-- DRAIN (R248): no step boundary came within DRAIN frames. -/
def execDrain (f : Fin 64) (s : State) : Result :=
  let x := s.facet f.val
  finish s (match x.commit with
    | some c =>
      let bad : Check := ⟨0x21, 0xFF, 0, false⟩
      if c.running ∧ c.at_.isNone ∧ x.inStep ∧ x.drainLeft = 0 then (if c.all then s.failAll f.val bad else s.commitFail f.val bad) else s
    | none => s)

/-- A commit whose resources are still held ends, and CFG_RESULT names the first facet that lacks one (R249, R251). -/
def State.busyNow (s : State) (f : Nat) (all : Bool) : State :=
  let fs := if all then s.allWaiting else [f]
  let sets := fs.filterMap (fun g => (s.facet g).staged.map (fun y => (g, y.kcs)))
  let late (g : Nat) (y : Staged) : Option Check :=
    if s.unbindWaits g y sets then (s.commitBad g y sets []).map (fun c => { c with code := 0x0B }) else none
  let held (g : Nat) : Option (Nat × Check) :=
    ((s.facet g).staged.bind (fun y =>
      (firstBad (s.heldChecks (s.boundExcept fs ++ (if all then [] else s.lowerClaims f)) y.kcs)).or (late g y))).map (fun c => (g, c))
  match fs.findSome? held with
  | some (g, c) => if all then s.failAll g c else s.commitFail g c
  | none => s

/-- BUSY (R249, R255): a named resource was still held after WAIT frames. -/
def execBusy (f : Fin 64) (s : State) : Result :=
  finish s (match (s.facet f.val).commit with
    | some c =>
      if s.commitDue f.val ∧ s.rf Reg.CFG_WAIT 15 0 ≤ c.frames ∧ 0 < c.frames then s.busyNow f.val c.all else s
    | none => s)

/-- UNBIND_BOUNDARY (R191, R253): a frame boundary of a facet whose unbind waits for its step, and for its banks' jobs. -/
def execUnbindBoundary (f : Fin 64) (s : State) : Result :=
  let x := s.facet f.val
  finish s (if x.drain = 2 then
    (if x.forced || (!x.inStep && (s.banksOf f.val).all s.bankIdle) then s.unbindNow f.val else s.setFacet f.val { x with drainLeft := x.drainLeft - 1 })
  else s)

/-- FORCED (R253): no step committed within DRAIN frames, and the unbind becomes forced. -/
def execForced (f : Fin 64) (s : State) : Result :=
  let x := s.facet f.val
  finish s (if x.drain = 2 ∧ !x.forced ∧ x.inStep ∧ x.drainLeft = 0 then (s.forceNow f.val).raise Reg.CFG_EVT 4 else s)

end Sys2Proof.Machine
end

