-- ==== Sys2Proof/Machine/Prism.lean ====
section
/-! DEFINITION. The photonic base (09): the Prism's device beat, vertical groups and their lanes, rails, guest
sites, module reset requests. -/
namespace Sys2Proof.Machine

/-- Site code of vertical group k (R259, R274). -/
def groupSite (k : Nat) : Nat :=
  if k < 256 then k / 32 else if k < 416 then 0x10 + (k - 256) / 8 else if k < 418 then 0x30 else 0x40 + (k - 418) / 8

/-- Half the channels of a group (R277). -/
def groupHalf (k : Nat) : Nat := if k < 256 then 12 else if k < 416 then 14 else if k < 418 then 16 else 8

/-- Data lanes and spare lanes of a group direction (R274); lanes are numbered data first, then spares (log 18). -/
def groupData (k : Nat) : Nat := if k < 256 then 96 else if k < 416 then 112 else if k < 418 then 128 else 64
def groupSpares (k : Nat) : Nat := if k < 416 then 6 else if k < 418 then 8 else Config.ucieRedundant

namespace State

/-- A base event; the first since all were clear is kept (R290). -/
def pblEvent (s : State) (f idx i : Nat) : State :=
  s.raiseFirst Reg.PBL_EVT Reg.PBL_FIRST i (f * 2 ^ 26 + idx * 2 ^ 16 + i)

/-- The module asks for RST_N: the output stages hold every region and issue no frame start (R441). -/
def moduleReset (s : State) : State :=
  let s := (s.wf Reg.CND_STAT 27 27 1).raise Reg.CND_EVT 3
  forEach (List.range 64) s (fun t r => if t.regionPoint r = 2 then t else t.wf (Reg.REG_STAT r) 18 18 1)

/-- Retired or dark. -/
def lineOut (s : State) (f i : Nat) : Bool := 2 ≤ s.rf (Reg.LINE f i) 28 27

end State

/-! Users of the comb lines (R292). -/

/-- The sites of a quadrant with Prism bus feeds, each with its buses each way (R259, R292). -/
def quadSites (k : Nat) : List (Nat × Nat) :=
  [(2 * k, 24), (2 * k + 1, 24)] ++ (List.range 5).map (fun i => (0x10 + 5 * k + i, 7)) ++
  (if k = 0 then [(0x30, 2)] else if k = 1 then [(0x40, 4)] else if k = 3 then [(0x41, 4)] else [])

/-- The 180 feeds of a quadrant, as fibre and way: its ways in order, each over the 20 fibres. -/
def quadFeeds (k : Nat) : List (Nat × Nat) :=
  (List.range 180).map (fun n => (16 * (2 * k + n % 20 / 10) + 4 + n % 10, n / 20))

/-- A layout keeps what R292 says of quadrant k: it feeds each site of the quadrant its buses each way, and no other, and no
fibre feeds more than three bus directions of one site. -/
def feedsOk (feed : Nat → Nat → Option (Nat × Bool)) (k : Nat) : Bool :=
  let l := (quadFeeds k).map (fun x => (x.1, feed x.1 x.2))
  (quadSites k).all (fun c =>
    [true, false].all (fun out => (l.filter (fun e => e.2 == some (c.1, out))).length == c.2) &&
    (List.range 20).all (fun n => (l.filter (fun e => e.1 == 16 * (2 * k + n / 10) + 4 + n % 10 && e.2.any (fun x => x.1 == c.1))).length ≤ 3)) &&
  l.all (fun e => e.2.all (fun x => (quadSites k).any (fun c => c.1 == x.1)))

/-- A layout that keeps them: the bus directions of a quadrant, site by site, over its fibres in turn. -/
def plainFeed (f w : Nat) : Option (Nat × Bool) :=
  ((quadSites (f / 32)).flatMap (fun c => List.replicate c.2 (c.1, true) ++ List.replicate c.2 (c.1, false)))[
    20 * w + 10 * (f / 16 % 2) + (f % 16 - 4)]?

/-- The site and direction of the Prism bus that a fibre feeds by a way: the base's own layout, where it keeps R292. -/
def busSite (f w : Nat) : Option (Nat × Bool) :=
  if f % 16 < 4 ∨ 14 ≤ f % 16 ∨ 9 ≤ w then none
  else if (List.range 4).all (feedsOk Config.busFeed) then Config.busFeed f w else plainFeed f w

/-- The line of channel c. -/
def BusState.lineOf (b : BusState) (c : Nat) : Nat := ((b.moved.find? (fun e => e.1 == c)).map (·.2)).getD c

/-- The channel that runs on line i. -/
def BusState.channel (b : BusState) (i : Nat) : Option Nat :=
  (List.range 32).find? (fun c => !b.lost.contains c && b.lineOf c == i)

/-- Channel c leaves its line for the first spare one of those that are good, or is lost. -/
def BusState.leave (b : BusState) (good : List Nat) (c : Nat) : BusState :=
  match good.find? (fun j => (b.channel j).isNone) with
  | some j => { b with moved := b.moved.filter (fun e => e.1 != c) ++ [(c, j)] }
  | none => { b with lost := b.lost ++ [c] }

namespace State

def bus (s : State) (k : Nat) : BusState := tget BusState.reset s.opt.buses k
def setBus (s : State) (k : Nat) (x : BusState) : State :=
  { s with opt := { s.opt with buses := tset BusState.reset s.opt.buses k x } }

/-- The channel of a user that runs on line i. -/
def busChannel (s : State) (k i : Nat) : Option Nat := (s.bus k).channel i

/-- Lines of fibre f that a user can still use. -/
def goodLines (s : State) (f k : Nat) : List Nat :=
  (List.range 36).filter (fun i => !s.lineOut f i && !(s.bus k).bad.contains i)

/-! The Prism's beat (R263 to R269). -/

end State

/-- The facet that a flow counts under, 64 for none. -/
def prismKey (x : PrismFlow) : Nat := match x.facet with
  | some f => f.val
  | none => 64

/-- One device beat under way: the state, and the flits that have used each site and direction (key 2 × code + 1 out,
2 × code in) and each VAP outbound (key 1024 + group). -/
structure Beat where
  st : State
  used : Tbl Nat
  deriving DecidableEq, Repr

namespace State

/-- The grant applies d device beats from now: counted from its facet's frame start, in its frame of the step or in
every frame, gap frames included (R265). -/
def grantAt (s : State) (f : Nat) (g : GrantRec) (d : Nat) : Bool :=
  let x := s.facet f
  let at_ := s.beat + d - x.startBeat
  x.frames != 0 && x.startBeat ≤ s.beat + d && g.first ≤ at_ && at_ < g.first + g.beats &&
  (g.frame == 0xFFFF || (x.inStep && inFrame g x.frame))

/-- The facet that holds guest site g (R284). -/
def guestFacet (s : State) (g : Nat) : Option Nat :=
  (List.range 64).find? (fun f => s.facetBound f && (grantSites (s.kcs f).grants).contains (0x40 + g))

/-- A flow from a guest is refused at the site unless the guest is ACTIVE, the flow counts under the facet that holds the
site, is of a function that the guest declared, and goes to a slice of that facet at the slice's site, or by an endpoint of
that facet to a port (R284). -/
def guestFlowOk (s : State) (x : PrismFlow) : Bool :=
  let a := x.src.toNat
  if a ≠ 0x40 ∧ a ≠ 0x41 then true
  else
    let g := a - 0x40
    match s.guestFacet g, x.guest with
    | some f, some u =>
      let d := x.dst.toNat
      let n := u.target.toNat
      s.rf (Reg.GST_STAT g) 31 29 == 4 && prismKey x == f && nbits (s.guest g).func u.func.val u.func.val == 1 &&
      (if u.func.val = 3 then 0x60 ≤ d && d < 0x80 && (s.kcs f).table.eps.contains n
       else s.sliceBound f n && d == 0x10 + n % 20)
    | _, _ => false

/-- Channels of a site and direction that are withheld while lines of their buses switch, or a flit is sent again (R304,
R313). -/
def heldBack (s : State) (code : Nat) (out : Bool) : Nat :=
  sumNat ((s.opt.withheld.filter (fun h => s.beat < h.until_ && 4 ≤ h.fibre % 16 && h.fibre % 16 < 14)).map (fun h =>
    ((List.range 9).filter (fun w => h.way.all (· == w) && busSite h.fibre w == some (code, out) &&
      (s.busChannel (9 * h.fibre + w) h.line).isSome)).length))

/-- Weight of a facet's marked traffic (R268). -/
def shareOf (s : State) (f : Nat) : Nat := if f < 64 then max 1 (s.kcs f).table.mshare else 64

end State

/-- Two flows of one facet between the same sites. -/
def sameFlow (x y : PrismFlow) : Bool := prismKey x == prismKey y && x.src == y.src && x.dst == y.dst

/-- The first flow of each facet and pair of sites. -/
def firstFlows (l : List PrismFlow) : List PrismFlow :=
  l.foldl (fun a x => if a.any (sameFlow x) then a else a ++ [x]) []

namespace Beat

def spend (b : Beat) (key n : Nat) : Beat := { b with used := tset 0 b.used key (tget 0 b.used key + n) }

/-- Flits that the channels of both sites still take in this beat, without those withheld (R262, R263, R313). -/
def room (b : Beat) (src dst : Nat) : Nat :=
  min (32 * (b.st.siteOut src - b.st.heldBack src true) - tget 0 b.used (2 * src + 1))
    (32 * (b.st.siteIn dst - b.st.heldBack dst false) - tget 0 b.used (2 * dst))

/-- Flits that the VAP of group k still gives in this beat: 24 channels' worth at full width (R264, R277). -/
def vapRoom (b : Beat) (k : Nat) : Nat :=
  32 * (match b.st.groupWidth k true with
    | 0 => 24
    | 1 => 12
    | _ => 0) - tget 0 b.used (1024 + k)

/-- n flits of a flow cross; those of a guest bear the job tag of their facet (R284). -/
def carry (b : Beat) (x : PrismFlow) (n : Nat) (data : List Bytes) : Beat :=
  if n = 0 then b
  else
    let t := if x.guest.isSome then b.st.emit (.stamped (x.src.toNat - 0x40) (b.st.jobTag (prismKey x)) n) else b.st
    (({ b with st := t.emit (.prism (x.facet.map (fun (z : Fin 64) => z.val)) x.src.toNat x.dst.toNat n data) }).spend
      (2 * x.src.toNat + 1) n).spend (2 * x.dst.toNat) n

end Beat

namespace State

/-- The flits at the head of a lane of VAP v's outbound queue that belong to the flow, oldest first. -/
def vapHeads (s : State) (x : PrismFlow) (lane v : Nat) : List (Nat × Flit) :=
  let r := 8 * x.src.toNat + v / 4
  if s.regionBound r && s.regionFacet r == prismKey x then
    (s.lane r (16 + v % 4) lane).takeWhile (fun e => x.vaps.any (fun y => y.1.val == v && y.2 == e.1))
  else []

/-- Flits of a flow that lie in its source queues, scheduled or marked. -/
def inSource (s : State) (x : PrismFlow) (marked : Bool) : Nat :=
  if 8 ≤ x.src.toNat then (if marked then x.marked else x.present)
  else sumNat ((if marked then [1, 2] else [0]).flatMap (fun l => (List.range 32).map (fun v => (s.vapHeads x l v).length)))

end State

namespace Beat

/-- At most n flits of a lane of one VAP's outbound queue cross, in the order sent (R264): the beat after, and how
many. -/
def fromVap (b : Beat) (x : PrismFlow) (lane v n : Nat) : Beat × Nat :=
  let heads := b.st.vapHeads x lane v
  let k := 32 * x.src.toNat + v
  let m := min (min n heads.length) (min (b.room x.src.toNat x.dst.toNat) (b.vapRoom k))
  if m = 0 then (b, 0)
  else
    let r := 8 * x.src.toNat + v / 4
    let q := 16 + v % 4
    let t := b.st.setLane r q lane ((b.st.lane r q lane).drop m)
    ((({ b with st := t }).spend (1024 + k) m).carry x m ((heads.take m).map (fun (e : Nat × Flit) => e.2.data)), m)

/-- At most n flits of a flow cross: the beat after, and how many. A compute site's come from its VAPs in ascending
order. -/
def send (b : Beat) (x : PrismFlow) (marked : Bool) (n : Nat) : Beat × Nat :=
  if 8 ≤ x.src.toNat then
    let m := min n (b.room x.src.toNat x.dst.toNat)
    (b.carry x m [], m)
  else ((if marked then [1, 2] else [0]).flatMap (fun l => (List.range 32).map (fun v => (l, v)))).foldl
    (fun a lv => let r := a.1.fromVap x lv.1 lv.2 (n - a.2); (r.1, a.2 + r.2)) (b, 0)

end Beat

/-- A flow's scheduled flits in one beat: those that wait for a grant, those late from beats before, and those that
lacked channels in this beat (R267). -/
structure Lot where
  flow : PrismFlow
  wait : Nat
  late : Nat
  lost : Nat
  deriving DecidableEq, Repr

/-- n flits have crossed. -/
def Lot.sent (y : Lot) (n : Nat) : Lot := { y with flow := { y.flow with present := y.flow.present - n } }

namespace State

/-- The scheduled flits of a flow: what it owes from beats before, and what is due. Traffic of no bound facet has no
grant. -/
def lotOf (s : State) (x : PrismFlow) : Lot :=
  if prismKey x < 64 ∧ s.facetBound (prismKey x) then
    match s.prism.owed.find? (fun o => o.facet == prismKey x && o.src == x.src.toNat && o.dst == x.dst.toNat) with
    | some o => ⟨x, o.due + x.due, o.late, 0⟩
    | none => ⟨x, x.due, 0, 0⟩
  else ⟨x, 0, 0, 0⟩

/-- The grants that apply in this beat, by ascending facet and record (R269). -/
def beatGrants (s : State) : List (Nat × GrantRec) :=
  (List.range 64).flatMap (fun f => if s.facetBound f then ((s.kcs f).grants.filter (fun g => s.grantAt f g 0)).map (fun g => (f, g)) else [])

end State

/-- A grant carries the flits that wait for it and lie in their source queue; those that its channels would carry and
the sites cannot are late (R265, R267, R269). -/
def serveGrant (a : Beat × List Lot) (fg : Nat × GrantRec) : Beat × List Lot :=
  a.2.foldl (fun acc y =>
    if prismKey y.flow = fg.1 ∧ y.flow.src.toNat = fg.2.src ∧ y.flow.dst.toNat = fg.2.dst then
      let n := min y.wait (min (32 * fg.2.channels) (acc.1.st.inSource y.flow false))
      let r := acc.1.send y.flow false n
      (r.1, acc.2 ++ [({ y with wait := y.wait - n, lost := y.lost + (n - r.2) }).sent r.2])
    else (acc.1, acc.2 ++ [y])) (a.1, [])

/-- Flits that are late from beats before cross on the channels left, counted in PRISM_LATE (R267). -/
def serveLate (a : Beat × List Lot) : Beat × List Lot :=
  a.2.foldl (fun acc y =>
    let r := acc.1.send y.flow false (min y.late (acc.1.st.inSource y.flow false))
    let b := if r.2 = 0 then r.1 else { r.1 with st := (r.1.st.count (Reg.PRISM_LATE (prismKey y.flow)) r.2).pblEvent (prismKey y.flow) 0 4 }
    (b, acc.2 ++ [({ y with late := y.late - r.2 }).sent r.2])) (a.1, [])

namespace State

/-- What a pair of sites owes after the beat: with its last beat a grant ends, and what still waits is late (R267). -/
def owesNow (s : State) (y : Lot) : Owed :=
  let more := (s.kcs (prismKey y.flow)).grants.any (fun g => g.src == y.flow.src.toNat && g.dst == y.flow.dst.toNat && s.grantAt (prismKey y.flow) g 1)
  ⟨prismKey y.flow, y.flow.src.toNat, y.flow.dst.toNat, if more then y.wait else 0, y.late + y.lost + (if more then 0 else y.wait)⟩

/-- The Prism keeps what is owed: by the flows of this beat, and by the pairs of bound facets that sent nothing. -/
def keepOwed (s : State) (l : List Lot) : State :=
  let others := s.prism.owed.filter (fun o => s.facetBound o.facet &&
    !l.any (fun y => prismKey y.flow == o.facet && y.flow.src.toNat == o.src && y.flow.dst.toNat == o.dst))
  let idle := others.map (fun o => s.owesNow ⟨⟨some (Fin.ofNat 64 o.facet), BitVec.ofNat 8 o.src, BitVec.ofNat 8 o.dst, 0, 0, 0, [], none⟩, o.due, o.late, 0⟩)
  { s with prism := { s.prism with owed := (l.map s.owesNow ++ idle).filter (fun o => o.due + o.late != 0) } }

/-! Marked class: weighted round robin over channel-beats (R268). -/

/-- Turns that a facet has taken in the present round, at the flow's source and at its destination. -/
def turnKeys (x : PrismFlow) : Nat × Nat := ((2 * x.src.toNat + 1) * 65 + prismKey x, 2 * x.dst.toNat * 65 + prismKey x)

/-- The more of the turns taken at both sites. -/
def turnsTaken (s : State) (x : PrismFlow) : Nat :=
  max (tget 0 s.prism.turns (turnKeys x).1) (tget 0 s.prism.turns (turnKeys x).2)

def setTurns (s : State) (t : Tbl Nat) : State := { s with prism := { s.prism with turns := t } }

/-- One channel-beat counts as a turn of its facet at both sites. -/
def countTurn (s : State) (x : PrismFlow) : State :=
  let t := s.prism.turns
  let k := turnKeys x
  let t := tset 0 t k.1 (tget 0 t k.1 + 1)
  s.setTurns (tset 0 t k.2 (tget 0 t k.2 + 1))

/-- A new round begins at both sites of a flow. -/
def newRound (s : State) (x : PrismFlow) : State :=
  let a := (2 * x.src.toNat + 1) * 65
  let b := 2 * x.dst.toNat * 65
  s.setTurns (tclear a (a + 65) (tclear b (b + 65) s.prism.turns))

/-- The next turn: of the flows whose facet has turns left in the round at both sites, the one with the fewest taken
for its weight. -/
def nextTurn (s : State) (l : List (Nat × PrismFlow)) : Option (Nat × PrismFlow) :=
  (l.filter (fun e => s.turnsTaken e.2 < s.shareOf (prismKey e.2))).foldl (fun best e => match best with
    | none => some e
    | some b => if s.turnsTaken e.2 * s.shareOf (prismKey b.2) < s.turnsTaken b.2 * s.shareOf (prismKey e.2) then some e else some b) none

end State

/-- Turns of at most one channel-beat, 32 flits, until no flow can send. A flow that cannot send in its turn yields for
the rest of the beat; when no flow has turns left, a new round begins at the sites of the first. -/
def markedTurns : Nat → Beat → List (Nat × PrismFlow) → Beat
  | 0, b, _ => b
  | _ + 1, b, [] => b
  | n + 1, b, e :: l =>
    match b.st.nextTurn (e :: l) with
    | none => markedTurns n { b with st := b.st.newRound e.2 } (e :: l)
    | some c =>
      let r := b.send c.2 true (min 32 (b.st.inSource c.2 true))
      if r.2 = 0 then markedTurns n r.1 ((e :: l).filter (fun y => y.1 != c.1))
      else markedTurns n { r.1 with st := r.1.st.countTurn c.2 }
        ((e :: l).map (fun y => if y.1 = c.1 then (y.1, { y.2 with marked := y.2.marked - r.2 }) else y))

namespace State

/-- One device beat of the Prism: scheduled grants, then late flits, then the marked class. Flows that a guest may not
send are refused and logged (R284; log 31). -/
def prismBeat (s : State) (flows : List PrismFlow) : State :=
  let ok := firstFlows (flows.filter s.guestFlowOk)
  let s := if flows.all s.guestFlowOk then s else s.raise Reg.MSF_EVT 0
  let lots := (List.range 65).flatMap (fun f => (ok.filter (fun x => prismKey x == f)).map s.lotOf)
  let a := serveLate (s.beatGrants.foldl serveGrant (⟨s, []⟩, lots))
  let b := { a.1 with st := a.1.st.keepOwed a.2 }
  let fuel := 3 * (sumNat (ok.map (fun x => s.inSource x true / 32 + 33)) + 1)
  (markedTurns fuel b (ok.zipIdx.map (fun e => (e.2, e.1)))).st

/-! Vertical groups (R275 to R280). -/

end State

/-- The lane that carries data lane i. -/
def LaneMap.carrier (m : LaneMap) (i : Nat) : Nat := ((m.moved.find? (fun e => e.1 == i)).map (·.2)).getD i

/-- The data lanes of a direction of d that carry: all of them, or those of the half that it keeps (R277). -/
def LaneMap.active (m : LaneMap) (d : Nat) : List Nat :=
  if !m.half then List.range d else (List.range (d / 2)).map (fun i => if m.upper then d / 2 + i else i)

/-- The data lane that a lane carries at present. -/
def LaneMap.carriedBy (m : LaneMap) (d l : Nat) : Option Nat := (m.active d).find? (fun i => m.carrier i == l)

/-- Spare lanes of n that are good and stand in for no lane. A spare that stood in for a lane of the half left off stays
spent (log 18). -/
def LaneMap.spares (m : LaneMap) (d n : Nat) : List Nat :=
  (List.range n).map (d + ·) |>.filter (fun l => !m.bad.contains l && m.moved.all (fun e => e.2 != l))

/-- Lanes that can replace a failing one, in the order in which they are taken: spares, then, at half width, good lanes of
the other half (R276, R277). -/
def LaneMap.pool (m : LaneMap) (d n : Nat) : List Nat :=
  let act := m.active d
  m.spares d n ++ (if m.half then
    ((List.range d).filter (fun i => !act.contains i)).map m.carrier |>.filter (fun l =>
      !m.bad.contains l && act.all (fun i => m.carrier i != l))
  else [])

/-- Data lane i is carried by lane l. -/
def LaneMap.put (m : LaneMap) (i l : Nat) : LaneMap := { m with moved := m.moved.filter (fun e => e.1 != i) ++ [(i, l)] }

/-- Half width (R277): the half of d data lanes with fewer failed ones is kept, the lower of equal ones (log 18), and good
lanes take the place of the failed ones in it. -/
def LaneMap.halve (m : LaneMap) (d n : Nat) : LaneMap :=
  let low := (m.bad.filter (fun l => l < d / 2)).length
  let high := (m.bad.filter (fun l => d / 2 ≤ l && l < d)).length
  let m := { m with half := true, upper := high < low }
  ((m.active d).filter (fun i => m.bad.contains (m.carrier i))).foldl (fun m i => match m.pool d n with
    | l :: _ => m.put i l
    | [] => m) m

/-- The bytes of a map as its check word covers them. -/
def LaneMap.bytes (m : LaneMap) : Bytes :=
  (m.bad ++ m.moved.flatMap (fun e => [e.1, e.2]) ++ [b2n m.half, b2n m.upper]).flatMap (leBytes 2)

/-- The map in force is in the store, with its check word (R280). -/
def GroupDir.store (x : GroupDir) : GroupDir := { x with stored := x.map, crc := crc32c x.map.bytes }

namespace State

def groupDir (s : State) (k : Nat) (out : Bool) : GroupDir := s.group (2 * k + b2n out)
def setGroupDir (s : State) (k : Nat) (out : Bool) (x : GroupDir) : State := s.setGroup (2 * k + b2n out) x

/-- VGRP shows the free spare lanes and the failed lanes; of a guest module the lanes that repair has replaced alone
(R290). -/
def showGroup (s : State) (k : Nat) : State :=
  let a := Reg.VGRP k
  let free (out : Bool) : Nat := if k < 418 then ((s.groupDir k out).map.spares (groupData k) (groupSpares k)).length else 0
  let bad := sumNat ([true, false].map (fun out =>
    let m := (s.groupDir k out).map
    if k < 418 then m.bad.length else m.moved.length))
  ((s.wf a 15 12 (free true)).wf a 11 8 (free false)).wf a 7 0 (min 255 bad)

/-- A repair map in force is kept. -/
def setLanes (s : State) (k : Nat) (out : Bool) (x : GroupDir) : State := (s.setGroupDir k out x).showGroup k

/-- The repair maps of a group are in the store. -/
def storeLanes (s : State) (k : Nat) : State :=
  forEach [true, false] s (fun t out => t.setGroupDir k out (t.groupDir k out).store)

/-- A repair map is written to the non-volatile store (R280). -/
def storeRepair (s : State) (k : Nat) : State :=
  if s.inhibited then
    (({ s with nvDue := insertNat (Reg.VGRP k) s.nvDue }).pblEvent 0 k 9)
  else (s.nvCommit (Reg.VGRP k)).storeLanes k

/-- Some vertical group of the site is below full width (R290). -/
def reduced (s : State) (code : Nat) : Bool :=
  (List.range 434).any (fun k => groupSite k == code && (s.groupWidth k true != 0 || s.groupWidth k false != 0))

/-- A site has n channels in one direction; SITE_CH of a guest site shows them while the guest is ACTIVE (R291). -/
def setSite (s : State) (code : Nat) (out : Bool) (n : Nat) : State :=
  let a := Reg.SITE_CH code
  let s := if out then s.wf a 9 0 n else s.wf a 25 16 n
  if code < 0x40 then s.nvQuiet a else s

/-- A guest site's offer changes to n channels in one direction. -/
def setOffer (s : State) (g : Nat) (out : Bool) (n : Nat) : State :=
  let x := s.guest g
  let s := s.setGuest g (if out then { x with chOut := n } else { x with chIn := n })
  if s.rf (Reg.GST_STAT g) 31 29 = 4 then
    (s.setSite (0x40 + g) out n).wf (Reg.GST_STAT g) 23 16 (min (s.guest g).chIn (s.guest g).chOut) else s

/-- A site loses n channels in one direction at once (R277, R315). -/
def cutSite (s : State) (code : Nat) (out : Bool) (n : Nat) : State :=
  if code = 0x40 ∨ code = 0x41 then
    let x := s.guest (code - 0x40)
    s.setOffer (code - 0x40) out ((if out then x.chOut else x.chIn) - n)
  else s.setSite code out ((if out then s.siteOut code else s.siteIn code) - n)

/-- A site gets n channels back. -/
def addSite (s : State) (code : Nat) (out : Bool) (n : Nat) : State :=
  if code = 0x40 ∨ code = 0x41 then
    let x := s.guest (code - 0x40)
    if s.rf (Reg.GST_STAT (code - 0x40)) 31 29 = 4 then s.setOffer (code - 0x40) out (min 128 ((if out then x.chOut else x.chIn) + n)) else s
  else s.setSite code out (min (siteChannels code) ((if out then s.siteOut code else s.siteIn code) + n))

/-- A group's site loses n channels in one direction; half of that at a guest site that runs at 16 GT/s (R277, R281). -/
def cutGroup (s : State) (k : Nat) (out : Bool) (n : Nat) : State :=
  let n := if 418 ≤ k ∧ bit (s.reg (Reg.GST_STAT ((k - 418) / 8))) 11 then n / 2 else n
  s.cutSite (groupSite k) out n

/-- A group direction takes width code w, which PBL_STAT counts and SITE_CH tells (R290). -/
def setWidth (s : State) (k : Nat) (out : Bool) (w : Nat) : State :=
  let old := s.groupWidth k out
  let s := if out then s.wf (Reg.VGRP k) 31 30 w else s.wf (Reg.VGRP k) 29 28 w
  let h := s.rf Reg.PBL_STAT 25 16
  let z := s.rf Reg.PBL_STAT 9 0
  let s := s.wf Reg.PBL_STAT 25 16 (h + b2n (w == 1) - b2n (old == 1))
  let s := (s.wf Reg.PBL_STAT 9 0 (z + b2n (w == 2) - b2n (old == 2))).nvQuiet Reg.PBL_STAT
  let code := groupSite k
  if 0x40 ≤ code ∧ s.rf (Reg.GST_STAT (code - 0x40)) 31 29 ≠ 4 then s
  else s.wf (Reg.SITE_CH code) 31 31 (b2n (s.reduced code))

/-- A route crosses VAP a of region r (R278). -/
def routesVap (k : Kcs) (r a : Nat) : Bool :=
  k.routes.any (fun x => (queuesOf x).contains (r, 12 + a) || (queuesOf x).contains (r, 16 + a))

/-- A group direction at zero width (R278). -/
def zeroWidth (s : State) (k : Nat) (out : Bool) : State :=
  if s.groupWidth k out = 2 then s
  else
    let left := if s.groupWidth k out = 0 then 2 * groupHalf k else groupHalf k
    let s := ((s.setWidth k out 2).cutGroup k out left).storeRepair k
    let s := s.pblEvent 0 k 2
    if k < 256 then
      forEach ((List.range 64).filter (fun f => s.facetBound f && routesVap (s.kcs f) (k / 4) (k % 4))) s (fun t f => t.faultStop f)
    else if k < 416 then s.domFall (stackDomain ((k - 256) / 8)) false
    else if k < 418 then
      (if s.groupWidth 416 out = 2 ∧ s.groupWidth 417 out = 2 then s.moduleReset else s)
    else if s.groupWidth k (!out) = 2 then s
    else let a := Reg.GST_STAT ((k - 418) / 8); s.wf a 15 12 (s.rf a 15 12 - 1)

/-- A group direction drops to half width (R277). -/
def halfWidth (s : State) (k : Nat) (out : Bool) : State :=
  let x := s.groupDir k out
  let s := s.setLanes k out { x with map := x.map.halve (groupData k) (groupSpares k), swapping := [] }
  ((s.setWidth k out 1).cutGroup k out (groupHalf k)).storeRepair k |>.pblEvent 0 k 1

/-- A group direction with no lane left to replace a failing one: half width, or zero from there (R277, R278); a guest's
module at half width only where the guest allows it (R281). -/
def loseWidth (s : State) (k : Nat) (out : Bool) : State :=
  if (s.groupDir k out).map.half ∨ 418 ≤ k ∧ !bit (s.reg (Reg.GCAP ((k - 418) / 8) 3)) 4 then s.zeroWidth k out
  else s.halfWidth k out

end State

/-- Swaps by the number of the lane that fails. -/
def laneOrder (l : List LaneSwap) : List LaneSwap :=
  l.foldr (fun x a => a.takeWhile (fun y => y.lane < x.lane) ++ x :: a.dropWhile (fun y => y.lane < x.lane)) []

/-- Lanes marked in one beat are spared in lane order (R280): they get the carriers that they have together. -/
def spareInOrder (m : LaneMap) (l : List LaneSwap) : LaneMap :=
  ((laneOrder l).zip (l.map (fun x => m.carrier x.pos))).foldl (fun m e => m.put e.1.pos e.2) m

namespace State

/-- A lane is marked failing (R276 to R278, R280). A lane that carries nothing is lost to the pool alone. A lane that fails
while a swap is in progress ends it: its own swap comes first, and the one that has ended is made again after it, onto
the spare that stays reserved (log 18). -/
def laneFails (s : State) (k : Nat) (out : Bool) (lane : Nat) : State :=
  let x := s.groupDir k out
  let d := groupData k
  let n := groupSpares k
  if x.map.bad.contains lane || d + n ≤ lane || s.groupWidth k out == 2 then s
  else
    let m := { x.map with bad := x.map.bad ++ [lane] }
    match x.map.carriedBy d lane with
    | none => (s.setLanes k out { x with map := m }).storeRepair k
    | some i =>
      let now := x.swapping.filter (fun y => y.beat == s.beat) ++ [⟨i, lane, s.beat⟩]
      let old := x.swapping.filter (fun y => y.beat != s.beat && y.pos != i)
      match m.pool d n with
      | l :: _ => s.setLanes k out { x with map := spareInOrder (m.put i l) now, swapping := laneOrder now ++ old }
      | [] => (s.setLanes k out { x with map := spareInOrder m now, swapping := [] }).loseWidth k out

/-- The swap in progress completes (R276). -/
def laneSwapped (s : State) (k : Nat) (out : Bool) : State :=
  let x := s.groupDir k out
  match x.swapping with
  | [] => s
  | _ :: t => ((s.setGroupDir k out { x with swapping := t }).storeRepair k).pblEvent 0 k 0

/-- A flit is replayed until it passes, or the group retrains after eight failures (R275). -/
def replay (s : State) (k : Nat) (out : Bool) (fails : Nat) (retrains : Bool) : State :=
  let s := s.addSat (Reg.VGRP k) 23 16 (min 8 (fails + 1))
  if fails < 8 then s
  else
    let s := s.pblEvent 0 k 3
    if retrains then s else s.zeroWidth k out

/-! Guest sites (R281 to R285). -/

/-- A guest site's state and cause; its channels are offered only while it is ACTIVE (R291). -/
def setGuestState (s : State) (g st cause : Nat) : State :=
  let s := (s.wf (Reg.GST_STAT g) 31 29 st).wf (Reg.GST_STAT g) 10 8 cause
  if st = 4 then
    let x := s.guest g
    s.setReg (Reg.SITE_CH (0x40 + g)) (BitVec.ofNat 32 (b2n (s.reduced (0x40 + g)) * 2 ^ 31 + x.chIn * 2 ^ 16 + x.chOut))
  else s.setReg (Reg.SITE_CH (0x40 + g)) 0

def stopGuestFacet (s : State) (g : Nat) : State :=
  match s.guestFacet g with
  | some f => s.faultStop f
  | none => s

/-- A guest site's rails are off: it has no channels and no modules (R270, R285). -/
def guestRailsOff (s : State) (g : Nat) : State :=
  let a := Reg.GST_STAT g
  (((s.wf a 23 16 0).wf a 15 12 0).wf a 11 11 0).setGuest g
    { s.guest g with linkUp := false, chIn := 0, chOut := 0, viog := false, vddg := 0 }

/-- A guest site enters FAULT: rails off, and the facet that holds it stopped (R285). -/
def guestFault (s : State) (g cause : Nat) : State :=
  let f := (s.guestFacet g).getD 0
  let s := ((s.setGuestState g 5 cause).wf (Reg.GST_CTL g) 30 30 0).guestRailsOff g
  (s.stopGuestFacet g).pblEvent f g 8

/-- A guest site whose supply goes off. -/
def guestOff (s : State) (g : Nat) : State :=
  (s.setGuestState g (if (s.guest g).present then 1 else 0) 0).guestRailsOff g

end State

/-- The ranges of the capability words (R282). -/
def guestWordsOk (l : List Word) : Bool :=
  let w (i : Nat) : Word := l.getD i 0
  l.length == 16 && w 15 == crc32c ((l.take 15).flatMap (fun x => leBytes 4 x.toNat)) &&
  fld (w 0) 31 24 == 1 && fld (w 0) 15 0 != 0 && fld (w 1) 15 8 != 0 &&
  650 ≤ fld (w 2) 31 16 && fld (w 2) 31 16 ≤ 950 && 1 ≤ fld (w 2) 15 0 && fld (w 2) 15 0 ≤ 400 &&
  fld (w 3) 31 6 == 0 && 1 ≤ fld (w 3) 3 0 && fld (w 3) 3 0 ≤ 8 &&
  1 ≤ fld (w 4) 23 16 && fld (w 4) 23 16 ≤ fld (w 4) 31 24 && fld (w 4) 31 24 ≤ 128 &&
  1 ≤ fld (w 4) 7 0 && fld (w 4) 7 0 ≤ fld (w 4) 15 8 && fld (w 4) 15 8 ≤ 128 &&
  fld (w 5) 31 4 == 0 && w 14 == 0

namespace State

/-- The domain that feeds a guest site's rails (R270). -/
def guestDomain (g : Nat) : Nat := if g = 0 then 45 else 47

/-- The modules of a guest site come up at the widths that training gives them (R281): what an earlier bring-up left of
them is gone. widths: those of the modules that the guest populates. -/
def guestModules (s : State) (g : Nat) (widths : List Nat) : State :=
  let s := forEach (List.range 8) s (fun t m =>
    let k := 418 + 8 * g + m
    forEach [true, false] t (fun u out => (u.setLanes k out GroupDir.reset).setWidth k out 0))
  forEach widths.zipIdx s (fun t e =>
    let k := 418 + 8 * g + e.2
    let t := forEach [true, false] t (fun u out => (u.setGroupDir k out
      { GroupDir.reset with map := { LaneMap.reset with half := e.1 == 1 } }).setWidth k out e.1)
    if e.1 = 1 then t.pblEvent 0 k 1 else if e.1 = 2 then t.pblEvent 0 k 2 else t)

/-- Bring-up of a guest site up to its offer (R283). Where it ends in TRAIN or WORDS, DIE_ID(38 + g) stays as it was
(DESIGN CHOICE, log 18). -/
def guestBringUp (s : State) (g : Nat) (b : GuestBringUp) : State :=
  let st := s.rf (Reg.GST_STAT g) 31 29
  if !bit (s.reg (Reg.GST_CTL g)) 31 || !s.domOn (guestDomain g) || 3 ≤ st then s
  else
    let s := s.setGuest g { s.guest g with present := true, linkUp := b.trained, viog := true, vddg := 750 }
    let s := s.setGuestState g 2 0
    let w (i : Nat) : Word := b.words.getD i 0
    let slow := b.slow || bit (s.reg (Reg.GST_CTL g)) 0
    if !b.trained || (slow && !bit (w 3) 5) then s.guestFault g 1
    else
      let s := forEach (List.range 16) s (fun t i => t.setReg (Reg.GCAP g i) (w i))
      if !guestWordsOk b.words then s.guestFault g 2
      else
        let s := s.setReg (Reg.DIE_ID (38 + g)) (BitVec.ofNat 32 (6 * 2 ^ 28 + fld (w 1) 15 8 * 2 ^ 16 + fld (w 1) 7 0 * 2 ^ 8 + g))
        let widths := (List.range (fld (w 3) 3 0)).map (fun m =>
          let x := ((b.widths[m]?).map (fun (y : Fin 3) => y.val)).getD 2
          if x = 1 ∧ !bit (w 3) 4 then 2 else x)
        let s := s.guestModules g widths
        let avail := sumNat (widths.map (fun x => if x = 0 then 16 else if x = 1 then 8 else 0)) / (if slow then 2 else 1)
        if avail < fld (w 4) 23 16 ∨ avail < fld (w 4) 7 0 then s.guestFault g 3
        else
          let cin := min (fld (w 4) 31 24) avail
          let cout := min (fld (w 4) 15 8) avail
          let power := min (fld (w 2) 15 0) 400
          let modules := (widths.zipIdx.filter (fun e => e.1 != 2)).map (·.2)
          let s := s.setGuest g { s.guest g with chIn := cin, chOut := cout, power := power, func := fld (w 5) 3 0, vddg := fld (w 2) 31 16 }
          let a := Reg.GST_STAT g
          let s := ((s.wf a 23 16 (min cin cout)).wf a 15 12 modules.length).wf a 11 11 (b2n slow)
          (s.setGuestState g 3 0).emit (.offer g cin cout power (fld (w 2) 31 16) modules slow)

/-- The guest accepts its offer (R283). -/
def guestUp (s : State) (g : Nat) : State :=
  if s.rf (Reg.GST_STAT g) 31 29 = 3 then ((s.setGuestState g 4 0).wf (Reg.GST_CTL g) 30 30 0).pblEvent ((s.guestFacet g).getD 0) g 7
  else s

/-- A site reset, which a bound facet that names the site shuts out (R285). -/
def guestReset (s : State) (g : Nat) : State :=
  if (s.guestFacet g).isSome then s.wf (Reg.GST_CTL g) 30 30 0
  else
    let s := s.guestOff g
    s.wf (Reg.GST_CTL g) 30 30 (b2n (bit (s.reg (Reg.GST_CTL g)) 31 && (s.guest g).present))

/-- A guest site that is present and not in FAULT. -/
def guestLive (s : State) (g : Nat) : Bool :=
  let st := s.rf (Reg.GST_STAT g) 31 29
  2 ≤ st && st ≤ 4

end State

/-- PRISM_BEAT (R263 to R269). -/
def execPrismBeat (flows : List PrismFlow) (s : State) : Result := finish s (s.prismBeat flows)

/-- GROUP_REPLAY (R275). -/
def execGroupReplay (k : Fin 434) (out : Bool) (fails : Fin 9) (retrains : Bool) (s : State) : Result :=
  finish s (s.replay k.val out fails.val retrains)

/-- LANE_FAILING (R276 to R278, R281). -/
def execLaneFailing (k : Fin 434) (out : Bool) (lane : Byte) (s : State) : Result :=
  finish s (s.laneFails k.val out lane.toNat)

/-- LANE_SPARED (R276). -/
def execLaneSpared (k : Fin 434) (out : Bool) (s : State) : Result := finish s (s.laneSwapped k.val out)

/-- RAIL_FAULT (R273). -/
def execRailFault (d : Fin 24) (s : State) : Result :=
  finish s (if s.domOn d.val then
    let regs := if d.val < 16 then State.halfRegions d.val else State.halfRegions (2 * (d.val - 16)) ++ State.halfRegions (2 * (d.val - 16) + 1)
    let f := ((regs.filter (fun r => s.regionBound r)).map (fun r => s.regionFacet r)).headD 0
    let down := (List.range 24).filter (fun e => s.domOn e && (e == d.val || 16 ≤ d.val && e / 2 == d.val - 16))
    (forEach down (s.domFall d.val true) (fun t e => t.wf (Reg.RAIL e) 30 30 1)).pblEvent f d.val 5
  else s)

/-- REG_FAULT (R119): the stack's slices are OFFLINE at once, and its domain goes off. -/
def execRegFault (m : Fin 20) (s : State) : Result :=
  finish s (if s.domOn (stackDomain m.val) then (s.domFall (stackDomain m.val) true).raise (Reg.MST_EVT m.val) 5 else s)

/-- GUEST_BRING_UP (R281 to R283). -/
def execGuestBringUp (g : Fin 2) (b : GuestBringUp) (s : State) : Result := finish s (s.guestBringUp g.val b)

/-- GUEST_UP (R283). -/
def execGuestUp (g : Fin 2) (s : State) : Result := finish s (s.guestUp g.val)

/-- GUEST_FAULT (R285); cause 4 POWER, 5 PROTOCOL, 6 LINK, and those of bring-up. -/
def execGuestFault (g : Fin 2) (cause : BitVec 3) (s : State) : Result :=
  finish s (if s.guestLive g.val ∧ cause ≠ 0 ∧ cause ≠ 7 then s.guestFault g.val cause.toNat else s)

/-- GUEST_SITE_RESET (R285). -/
def execGuestSiteReset (g : Fin 2) (s : State) : Result := finish s (s.guestReset g.val)

/-- GUEST_LINK_DROP (R285): one retrain of at most 100 µs. -/
def execGuestLinkDrop (g : Fin 2) (retrained : Bool) (s : State) : Result :=
  finish s (if s.guestLive g.val then (if retrained then s else s.guestFault g.val 6) else s)

end Sys2Proof.Machine
end

