-- ==== Sys2Proof/Machine/Conductor.lean ====
section
/-! DEFINITION. The mirror pair, switch-over and the firmware update (15): R432 to R441, R448 to R452. -/
namespace Sys2Proof.Machine

/-! The firmware image (R448, R449). -/

/-- What the module keeps of an image. -/
def imageOf (b : Bytes) : FwImage :=
  ⟨sha384 (sub b 0 (leAt b 8 4)), leAt b 12 4, BitVec.ofNat 32 (leAt b 16 4), leAt b 22 2⟩

/-- The layout of an image: header, body, signature block. -/
def imageForm (b : Bytes) : Bool :=
  64 ≤ b.length && leAt b 0 4 == 0x3157464B && leAt b 4 4 == b.length && b.length % 64 == 0 && b.length ≤ 48 * 2 ^ 20 &&
  64 ≤ leAt b 8 4 && leAt b 8 4 + 16640 == b.length && allZero (sub b 24 40)

namespace State

/-- Slot n holds the two keys named (R453, R454). -/
def keysIn (s : State) (n rsa slh : Nat) : Bool :=
  (s.reg (Reg.KID n 0)).toNat + (s.reg (Reg.KID n 1)).toNat * 2 ^ 32 == rsa &&
  (s.reg (Reg.KID n 2)).toNat + (s.reg (Reg.KID n 3)).toNat * 2 ^ 32 == slh

/-- A valid firmware slot holds the keys that an image names; with rsa alone where slh is none. -/
def firmwareKeys (s : State) (rsa : Nat) (slh : Option Nat) : Bool :=
  [0, 1].any (fun i => bit (s.reg Reg.SEC_STAT) i && s.keysIn i rsa (slh.getD
    ((s.reg (Reg.KID i 2)).toNat + (s.reg (Reg.KID i 3)).toNat * 2 ^ 32)))

/-- Why an image is not accepted, as UPD_STAT codes it: 1 SOURCE, 2 LAYOUT, 3 SIG_RSA, 4 SIG_SLH, 5 SVN (R449,
R454). -/
def imageBad (s : State) (b : Bytes) (readOk : Bool) (sig : SigCheck) : Option Nat :=
  let at_ := leAt b 8 4
  let rsa := leAt b at_ 8
  if !readOk then some 1
  else if !imageForm b then some 2
  else if !sig.rsa || !s.firmwareKeys rsa none then some 3
  else if !sig.slh || !s.firmwareKeys rsa (some (leAt b (at_ + 8) 8)) then some 4
  else if leAt b 12 4 < s.rf Reg.SVN_MIN 23 16 then some 5
  else none

/-- A signature that fails is an event of the security block (R465). -/
def sigEvent (s : State) (cause : Nat) : State := if cause = 3 ∨ cause = 4 then s.raise Reg.SEC_EVT 5 else s

/-! Units: 0 is A, 1 is B. -/

def setCnd (s : State) (c : CndState) : State := { s with sys := { s.sys with cnd := c } }
def activeUnit (s : State) : Nat := s.rf Reg.CND_STAT 31 31
def standbyUnit (s : State) : Nat := 1 - s.activeUnit
def standby (s : State) : Nat := s.rf Reg.CND_STAT 30 28
def setStandby (s : State) (n : Nat) : State := s.wf Reg.CND_STAT 30 28 n

/-- LEVEL of a unit (R433): bit 0 of a claim is fixed. -/
def claimLevel (s : State) (u : Nat) : Nat := if u = 0 then s.rf Reg.CND_CLAIM 15 1 else s.rf Reg.CND_CLAIM 31 17
def setLevel (s : State) (u n : Nat) : State :=
  if u = 0 then s.wf Reg.CND_CLAIM 15 0 (2 * n) else s.wf Reg.CND_CLAIM 31 16 (2 * n + 1)

def imageIn (s : State) (u : Nat) : FwImage := if u = 0 then s.sys.cnd.imageA else s.sys.cnd.imageB

/-- A unit runs an image, and FW_VER shows it. -/
def setImage (s : State) (u : Nat) (x : FwImage) : State :=
  let c := s.sys.cnd
  (s.setCnd (if u = 0 then { c with imageA := x } else { c with imageB := x })).setReg (Reg.FW_VER u) x.version

/-- The step of R450 in progress. -/
def updStep (s : State) : Nat := s.rf Reg.UPD_STAT 31 29
def setUpdStep (s : State) (n : Nat) : State := s.wf Reg.UPD_STAT 31 29 n

/-- A command of CND_CMD ends with a result. -/
def cndDone (s : State) (result : Nat) : State :=
  let s := (s.wf Reg.CND_CMD 31 31 0).wf Reg.CND_CMD 21 20 result
  if result = 1 then s.raise Reg.CND_EVT 3 else s

/-- An update in its second or third step, or in any where `all`, fails: the standby reloads the old image from flash
(R451, R452). -/
def updFail (s : State) (cause : Nat) : State :=
  let st := s.updStep
  if st = 0 ∨ st = 7 then s
  else
    let s := (((s.setUpdStep 0).wf Reg.UPD_STAT 23 16 cause).raise Reg.CND_EVT 5).sigEvent cause
    let s := s.setCnd { s.sys.cnd with new := none, copies := 0, flashDue := false }
    if s.standby = 4 then s.setStandby 1 else s

/-! Switch-over (R437 to R441). -/

/-- Every region of every facet holds for n device beats at a beat boundary (R146, R438). -/
def holdAll (s : State) (n : Nat) : State :=
  forEach (List.range 64) s (fun t r =>
    if t.regionBound r ∧ t.regionPoint r ≠ 2 then t.holdFor r n else t)

/-- The standby takes over: its LEVEL is one above the active unit's, and the former active unit is reset and
reloads. A STAGE or a load in progress begins again (R257), and notices of this frame are sent again (R386). -/
def takeOver (s : State) (hold : Nat) : State :=
  let old := s.activeUnit
  let new := s.standbyUnit
  let s := (s.setLevel new (s.claimLevel old + 1)).wf Reg.CND_STAT 31 31 new
  let s := (s.setStandby 1).setCnd { s.sys.cnd with replay := false, levelsDue := false }
  let s := ((s.count Reg.SWITCHES 1).raise Reg.CND_EVT 0).holdAll hold
  let loads := (List.range 64).filter (fun f => (s.facet f).load.isSome)
  let s := forEach loads s (fun t f => t.setFacet f { t.facet f with load := (t.facet f).load.map (fun w => { w with start := t.dt }) })
  let s := if s.loader.busy.isSome || loads != [] then s.raise Reg.CFG_EVT 5 else s
  s.tellAgain

/-- The active unit stops its heartbeat (R438, R441). A READY standby, or one in the second or third step of an
update, which then fails (R452), takes over. -/
def heartbeatLost (s : State) : State :=
  let s := s.raise Reg.CND_EVT 1
  if s.standby = 3 ∨ s.standby = 4 then (s.takeOver 3).updFail 8
  else s.moduleReset

/-- SWITCH (R437, R439): the standby raises its claim at the next device frame boundary; GO reads 1 until then. -/
def orderSwitch (s : State) : State :=
  if s.sys.cnd.romBoot then s.cndDone 3
  else if s.standby ≠ 3 then s.cndDone 1
  else (s.wf Reg.CND_CMD 31 31 1).setCnd { s.sys.cnd with switchDue := true }

/-- A device frame boundary: an ordered switch-over happens, if its standby is READY still, and the levels return to 2
and 1 (R437, R440). -/
def unitsBoundary (s : State) : State :=
  let s := if s.sys.cnd.levelsDue then
      ((s.setCnd { s.sys.cnd with levelsDue := false }).setLevel s.standbyUnit 1).setLevel s.activeUnit 2
    else s
  if s.sys.cnd.switchDue then
    let s := s.setCnd { s.sys.cnd with switchDue := false }
    if s.standby = 3 then (s.takeOver 1).cndDone 0 else s.cndDone 1
  else s

/-- CND_CMD OP 3: the standby is reset and reloads (R440, R464). An update under way ends as a failed boot. -/
def restartStandby (s : State) : State :=
  if s.sys.cnd.romBoot then s.cndDone 3
  else ((s.updFail 7).setStandby 1).cndDone 0

/-- Both units run the same image, without which no standby is READY (R436). -/
def sameImage (s : State) : Bool := s.sys.cnd.imageA == s.sys.cnd.imageB

/-- A frame copy (R435, R450): a standby that syncs takes it; one that is READY compares; one that shadows an update
must match. -/
def frameCopied (s : State) (matched : Bool) : State :=
  let st := s.standby
  if st = 2 then (if s.sys.cnd.replay ∨ !s.sameImage then s else s.setStandby 3)
  else if st = 3 then
    (if matched then s
     else ((s.raise Reg.CND_EVT 2).setStandby 2).setCnd { s.sys.cnd with replay := true })
  else if st = 4 ∧ s.updStep = 3 then
    (if matched then s.setCnd { s.sys.cnd with copies := s.sys.cnd.copies + 1 } else (s.raise Reg.CND_EVT 2).updFail 6)
  else s

/-- The former active unit has reloaded (R440): READY where it runs the active unit's image (R436), and at the next device
frame boundary the levels return to 1 and 2; a unit that fails its self-test stays with LEVEL 0. -/
def standbyLoaded (s : State) (selfTest : Bool) : State :=
  let u := s.standbyUnit
  if s.standby ≠ 1 then s
  else if !selfTest then ((s.setLevel u 0).setStandby 5).raise Reg.CND_EVT 1
  else
    let image := if s.updStep = 5 then s.sys.cnd.new.getD s.sys.cnd.flash else s.sys.cnd.flash
    let s := s.setImage u image
    let s := if s.sameImage then (s.setStandby 3).setCnd { s.sys.cnd with levelsDue := true } else s.setStandby 2
    if s.updStep = 5 then s.setUpdStep 6 else s

/-! The update (R450 to R452). -/

/-- UPDATE of a running module: refused while the loader is BUSY or no standby is READY; else the standby reads and
verifies the image and starts it. -/
def startUpdate (s : State) (b : Bytes) (readOk : Bool) (sig : SigCheck) : State :=
  if s.loader.busy.isSome then s.cndDone 2
  else if s.standby ≠ 3 then s.cndDone 1
  else
    let s := ((s.cndDone 0).setUpdStep 2).wf Reg.UPD_STAT 23 16 0
    let s := s.setStandby 4
    let now := (s.imageIn s.activeUnit).format
    match s.imageBad b readOk sig with
    | some c => s.updFail c
    | none =>
      if now < leAt b 20 2 ∨ leAt b 22 2 < now then s.updFail 6
      else (s.setUpdStep 3).setCnd { s.sys.cnd with new := some (imageOf b), copies := 0 }

/-- After 16 matching copies the standby takes over on the new image in an ordered switch-over. -/
def switchUpdate (s : State) : State :=
  if s.updStep ≠ 3 ∨ s.sys.cnd.copies < 16 then s
  else
    let u := s.standbyUnit
    let s := s.setImage u (s.sys.cnd.new.getD FwImage.none)
    (s.takeOver 1).setUpdStep 5

/-- The image is in flash. -/
def flashWritten (s : State) : State :=
  let c := s.sys.cnd
  ((s.setCnd { c with flash := c.new.getD c.flash, new := none, copies := 0, flashDue := false }).setUpdStep 7).raise Reg.CND_EVT 4

/-- The sixth step: the flash write, which waits for the supply. -/
def endUpdate (s : State) : State :=
  if s.updStep ≠ 6 then s
  else if s.inhibited then (s.setCnd { s.sys.cnd with flashDue := true }).raise Reg.CND_EVT 6
  else s.flashWritten

end State

/-- SWITCHOVER (R437, R438, R441). -/
def execSwitchover (s : State) : Result := finish s s.heartbeatLost

/-- SWITCH (R439). -/
def execSwitch (s : State) : Result := finish s s.orderSwitch

/-- STANDBY_RESTART (R440). -/
def execStandbyRestart (s : State) : Result := finish s s.restartStandby

/-- FRAME_COPY (R435). -/
def execFrameCopy (matched : Bool) (s : State) : Result := finish s (s.frameCopied matched)

/-- STANDBY_READY (R440, R450). -/
def execStandbyReady (selfTest : Bool) (s : State) : Result := finish s (s.standbyLoaded selfTest)

/-- UPDATE_SWITCH (R450). -/
def execUpdateSwitch (s : State) : Result := finish s s.switchUpdate

/-- UPD_FAIL (R451): step 2 or 3 fails, or takes too long. -/
def execUpdFail (cause : Byte) (s : State) : Result :=
  finish s (if s.updStep = 2 ∨ s.updStep = 3 then s.updFail cause.toNat else s)

/-- UPD_DONE (R450, R452). -/
def execUpdDone (s : State) : Result := finish s s.endUpdate

/-- STANDBY_REPLAY_END (R435). -/
def execStandbyReplayEnd (s : State) : Result :=
  finish s (if s.sys.cnd.replay then (s.setStandby 3).setCnd { s.sys.cnd with replay := false } else s)

end Sys2Proof.Machine
end

