-- ==== Sys2Proof/Machine/Security.lean ====
section
/-! DEFINITION. Keys, presence, security commands, the seal, zeroisation and attestation (15): R453 to R465. -/
namespace Sys2Proof.Machine

namespace State

def setSec (s : State) (x : SecState) : State := { s with sys := { s.sys with sec := x } }
def lifecycle (s : State) : Nat := s.rf Reg.SEC_STAT 31 29
def policy (s : State) : Nat := s.rf Reg.SEC_STAT 27 26
def zeroised (s : State) : Bool := bit (s.reg Reg.SEC_STAT) 23
def slotValid (s : State) (n : Nat) : Bool := bit (s.reg Reg.SEC_STAT) (6 + n)

/-- Key identifiers of slot n: RSA and SLH-DSA. -/
def setKids (s : State) (n rsa slh : Nat) : State :=
  let a := Reg.KID n
  let s := (((s.setReg (a 0) (BitVec.ofNat 32 rsa)).setReg (a 1) (BitVec.ofNat 32 (rsa / 2 ^ 32))).setReg (a 2)
    (BitVec.ofNat 32 slh)).setReg (a 3) (BitVec.ofNat 32 (slh / 2 ^ 32))
  forEach [0, 1, 2, 3] s (fun t i => t.nvCommit (a i))

/-- Owner slot n, 2 to 5, becomes valid or empty. -/
def setSlotValid (s : State) (n v : Nat) : State := s.wf Reg.SEC_STAT (6 + n) (6 + n) v

def setLifecycle (s : State) (n : Nat) : State := s.wf Reg.SEC_STAT 31 29 n

/-- Zeroisation (R461): the key store is overwritten and stays locked until the next power-on. An update under way
ends (R452). -/
def zeroise (s : State) : State :=
  let s := (s.wf Reg.SEC_STAT 23 23 1).raise Reg.SEC_EVT 3
  (s.setSec { s.sys.sec with signed := none }).updFail 9

/-- Every facet is force-unbound (R254); its resources go at its next frame boundary. -/
def forceAll (s : State) : State :=
  forEach (List.range 64) s (fun t f =>
    if t.facetBound f then t.forceNow f else if (t.facet f).commit.isSome then t.cancelCommit f else t)

end State

/-! Security commands (R459, R460). -/

/-- The blob of a security command: header, payload padded to 64 B, signature block. -/
structure Blob where
  op : Nat
  nonce : Nat
  slot : Nat
  value : Nat
  payload : Bytes
  rsa : Nat
  slh : Nat
  deriving DecidableEq, Repr

/-- A command that carries keys: TAKE_OWNERSHIP and ADD_KEY. -/
def keyCommand (op : Nat) : Bool := op == 1 || op == 2

/-- The blob of command op, if it is well formed: bytes the header does not name are zero, and the payload is the two
public keys or nothing. -/
def parseBlob (op : Nat) (b : Bytes) : Option Blob :=
  let pay := if keyCommand op then 448 else 0
  let ok := b.length == 64 + pay + 16640 && leAt b 0 4 == 0x3143534B && byteAt b 4 == op && allZero (sub b 5 3) &&
    allZero (sub b 12 4) && allZero (sub b 18 2) && allZero (sub b 24 40) && (!keyCommand op || allZero (sub b (64 + 432) 16))
  if ok then
    some ⟨op, leAt b 8 4, leAt b 16 2, leAt b 20 4, sub b 64 (if keyCommand op then 432 else 0), leAt b (64 + pay) 8, leAt b (72 + pay) 8⟩
  else none

/-- A key identifier: the first 8 B of the SHA-384 of the key as the payload gives it (log 30). -/
def keyId (b : Bytes) : Nat := leNat ((sha384 b).take 8)

def Blob.rsaKey (x : Blob) : Nat := keyId (sub x.payload 0 384)
def Blob.slhKey (x : Blob) : Nat := keyId (sub x.payload 384 48)

namespace State

/-- The slots that sign: a valid owner slot with both keys, or for TAKE_OWNERSHIP the keys of the payload (R454). -/
def blobSigned (s : State) (x : Blob) (sig : SigCheck) : Bool :=
  sig.rsa && sig.slh &&
  (if x.op = 1 then x.rsa == x.rsaKey && x.slh == x.slhKey
   else [2, 3, 4, 5].any (fun n => s.slotValid n && s.keysIn n x.rsa x.slh))

def slotsValid (s : State) : Nat := ([2, 3, 4, 5].filter (fun n => s.slotValid n)).length

/-- SLOT as the command needs it. -/
def slotOk (s : State) (x : Blob) : Bool :=
  if x.op = 2 then 3 ≤ x.slot && x.slot ≤ 5 && !s.slotValid x.slot
  else if x.op = 3 then 2 ≤ x.slot && x.slot ≤ 5 && s.slotValid x.slot && s.slotsValid != 1
  else true

/-- The refusal code of R460, in the order FORMAT, PRESENCE, NONCE, SIGNATURE, STATE, SLOT, INHIBIT (log 30). -/
def secBad (s : State) (op : Nat) (b : Bytes) (sig : SigCheck) : Option Nat :=
  match parseBlob op b with
  | none => some 6
  | some x =>
    if !bit (s.reg Reg.SEC_STAT) 28 then some 1
    else if s.sys.sec.nonce ≠ some (BitVec.ofNat 32 x.nonce) then some 2
    else if !s.blobSigned x sig then some 3
    else if s.lifecycle ≠ (if op = 1 then 0 else 1) then some 4
    else if !s.slotOk x then some 5
    else if op = 4 ∧ (64 < nbits x.value 7 0 ∨ 64 < nbits x.value 23 16) then some 6
    else if s.inhibited then some 7
    else none

/-- The effect of a command that is accepted. -/
def secEffect (s : State) (op : Nat) (x : Blob) : State :=
  match op with
  | 1 => (((s.setKids 2 x.rsaKey x.slhKey).setSlotValid 2 1).setLifecycle 1).nvCommit Reg.SEC_STAT
  | 2 => ((s.setKids x.slot x.rsaKey x.slhKey).setSlotValid x.slot 1).nvCommit Reg.SEC_STAT
  | 3 => ((s.setKids x.slot 0 0).setSlotValid x.slot 0).nvCommit Reg.SEC_STAT
  | 4 =>
    let s := s.wf Reg.SVN_MIN 7 0 (max (s.rf Reg.SVN_MIN 7 0) (nbits x.value 7 0))
    (s.wf Reg.SVN_MIN 23 16 (max (s.rf Reg.SVN_MIN 23 16) (nbits x.value 23 16))).nvCommit Reg.SVN_MIN
  | 5 =>
    let s := forEach [2, 3, 4, 5] s.forceAll (fun t n => (t.setKids n 0 0).setSlotValid n 0)
    (s.setLifecycle 0).nvCommit Reg.SEC_STAT
  | 6 =>
    let s := ((s.zeroise.setLifecycle 2).wf Reg.SEC_STAT 22 22 1).raise Reg.SEC_EVT 4
    s.setSec { s.sys.sec with unlocks := s.sys.sec.unlocks + 1 }
  | _ => (s.zeroise.forceAll.setLifecycle 3).nvCommit Reg.SEC_STAT

/-- A security command ends: RESULT and OP, and an event. -/
def secDone (s : State) (op result : Nat) : State :=
  let s := ((s.wf Reg.SEC_CMD 31 31 0).wf Reg.SEC_CMD 7 4 result).wf Reg.SEC_CMD 3 0 op
  let s := if result = 3 then s.raise Reg.SEC_EVT 5 else s
  s.raise Reg.SEC_EVT (if result = 0 then 0 else 1)

/-- A security command (R459): accepted, it consumes the NONCE and ends a BUTTON window. -/
def security (s : State) (op : Nat) (b : Bytes) (sig : SigCheck) : State :=
  match s.secBad op b sig, parseBlob op b with
  | none, some x =>
    let s := s.setSec { s.sys.sec with nonce := none }
    let s := if s.policy = 0 then s.wf Reg.SEC_STAT 28 28 0 else s
    (s.secEffect op x).secDone op 0
  | some c, _ => s.secDone op c
  | none, none => s.secDone op 6

/-! The seal (R462, R463). -/

/-- The loop opens, or shows a loop fault: zeroisation, every facet unbound, every key region closed, slices through
CLEARING, and the count of TAMPER. A command in progress ends with STATE. -/
def sealOpens (s : State) (fault : Bool) : State :=
  if s.rf Reg.SEC_STAT 25 24 ≠ 0 then s
  else
    let s := (s.wf Reg.SEC_STAT 25 24 (if fault then 2 else 1)).zeroise
    let s := forEach (List.range 64) s.forceAll (fun t f => if t.facetBound f then t.unbindNow f else t)
    let s := forEach (List.range 8) s (fun t k => t.closeKey k)
    let s := if bit (s.reg Reg.SEC_CMD) 31 then s.secDone 0 4 else s
    ((s.raise Reg.SEC_EVT 2).count Reg.TAMPER 1).nvQuiet Reg.TAMPER

/-! Presence (R457). -/

def presenceLow (s : State) : State :=
  let s := s.setSec { s.sys.sec with low := true }
  if s.policy < 2 then s.wf Reg.SEC_STAT 28 28 1 else s

def presenceHigh (s : State) : State :=
  let s := s.setSec { s.sys.sec with low := false }
  if s.policy = 1 then s.wf Reg.SEC_STAT 28 28 0 else s

/-! Attestation (R455, R456). -/

/-- The content of a measurement block. -/
def measurement (s : State) (i : Nat) : Option Bytes :=
  let dig (x : BitVec 384) : Bytes := leBytes 48 x.toNat
  if i = 1 then some (dig (Config.freeMeasurement 0))
  else if i = 2 then some (padTo 48 (s.imageIn s.activeUnit).digest)
  else if i = 3 then some (padTo 48 (s.imageIn s.standbyUnit).digest)
  else if i = 4 then
    some (Config.securityState s.lifecycle (s.reg Reg.SVN_MIN).toNat
      ([2, 3, 4, 5].flatMap (fun n => [0, 1, 2, 3].map (fun j => s.reg (Reg.KID n j)))) (s.rf Reg.SEC_STAT 25 24)
      (s.reg Reg.TAMPER).toNat s.sys.sec.unlocks)
  else if i = 5 then some (dig (Config.freeMeasurement 1))
  else if i = 6 then some ((List.range 40).flatMap (fun n => leBytes 4 (s.reg (Reg.DIE_ID n)).toNat))
  else if 0x10 ≤ i ∧ i < 0x50 then
    some (if s.facetBound (i - 0x10) then padTo 48 (s.kcs (i - 0x10)).digest else zeros 48)
  else none

/-- A signed response: it is kept for DUAL_SIG, and after zeroisation it is an error. -/
def signedAnswer (s : State) (data : Bytes) : State :=
  if s.zeroised then s.emit .spdmError
  else
    let s := s.emit (.spdm (data ++ Config.freeSignature 0 s.free))
    (s.setSec { s.sys.sec with signed := some data }).useFree 1

/-- An SPDM request. Index 0 asks for the number of blocks, 0xFF for all of them. -/
def spdm (s : State) : SpdmReq → State
  | .plain b => s.emit (.spdm (Config.spdmAnswer b))
  | .challenge b => s.signedAnswer (Config.spdmAnswer b)
  | .measurements i signed _ =>
    let all := ((List.range 80).filterMap (fun n => s.measurement n)).flatten
    let data := if i = 0 then some [70#8] else if i = 0xFF then some all else s.measurement i.toNat
    match data with
    | none => s.emit .spdmError
    | some d => if signed then s.signedAnswer d else s.emit (.spdm d)

/-- DUAL_SIG: the SLH-DSA signature over the same message, for the last signed response only. -/
def dualSignature (s : State) : State :=
  if s.zeroised ∨ s.sys.sec.signed.isNone then s.emit .spdmError
  else (s.emit (.spdm (Config.freeSignature 1 s.free))).useFree 1

end State

/-- TAKE_OWNERSHIP (R459). -/
def execTakeOwnership (blob : Bytes) (sig : SigCheck) (s : State) : Result := finish s (s.security 1 blob sig)

/-- ADD_KEY (R459). -/
def execAddKey (blob : Bytes) (sig : SigCheck) (s : State) : Result := finish s (s.security 2 blob sig)

/-- REVOKE_KEY (R459). -/
def execRevokeKey (blob : Bytes) (sig : SigCheck) (s : State) : Result := finish s (s.security 3 blob sig)

/-- RAISE_SVN (R459). -/
def execRaiseSvn (blob : Bytes) (sig : SigCheck) (s : State) : Result := finish s (s.security 4 blob sig)

/-- RELEASE (R459). -/
def execRelease (blob : Bytes) (sig : SigCheck) (s : State) : Result := finish s (s.security 5 blob sig)

/-- DEBUG_UNLOCK (R459, R462). -/
def execDebugUnlock (blob : Bytes) (sig : SigCheck) (s : State) : Result := finish s (s.security 6 blob sig)

/-- DECOMMISSION (R459). -/
def execDecommission (blob : Bytes) (sig : SigCheck) (s : State) : Result := finish s (s.security 7 blob sig)

/-- SEC_NONCE (R459, R465): a read gives a fresh value, which becomes the expected NONCE. -/
def execSecNonce (who : Requester) (s : State) : Result :=
  let _ := who
  let w := s.freeWord
  finish s ((((s.setSec { s.sys.sec with nonce := some w }).setReg Reg.SEC_NONCE w).useFree 1).emit (.read w))

/-- PRESENCE (R457): PRESENCE_N has been low for 50 ms. -/
def execPresence (s : State) : Result := finish s s.presenceLow

/-- PRESENCE_RELEASE (R457). -/
def execPresenceRelease (s : State) : Result := finish s s.presenceHigh

/-- PRESENCE_WINDOW_CLOSE (R457). -/
def execPresenceWindowClose (s : State) : Result :=
  finish s (if s.policy = 0 then s.wf Reg.SEC_STAT 28 28 0 else s)

/-- SEAL_OPEN (R462). -/
def execSealOpen (fault : Bool) (s : State) : Result := finish s (s.sealOpens fault)

/-- SEAL_CLOSE (R462, R465). -/
def execSealClose (s : State) : Result := finish s (s.wf Reg.SEC_STAT 25 24 0)

/-- SPDM_REQUEST (R455, R456, R461). -/
def execSpdmRequest (r : SpdmReq) (s : State) : Result := finish s (s.spdm r)

/-- DUAL_SIG (R456). -/
def execDualSig (s : State) : Result := finish s s.dualSignature

/-- DUAL_CERT (R456). -/
def execDualCert (s : State) : Result := finish s (s.emit (.spdm Config.freeChain))

end Sys2Proof.Machine
end

