-- ==== Sys2Proof/Machine/Fabric.lean ====
section
/-! DEFINITION. Fabric routing, ordering and flow control (11): arrival and forwarding of packets, receive flows,
acknowledgements, retry, tails, fences, multicast, and the route and multicast tables. -/
namespace Sys2Proof.Machine

/-- a lies in the 32,768 values below b, mod 2^16. -/
def seqBelow (a b : Nat) : Bool := 0 < (b + 65536 - a) % 65536 && (b + 65536 - a) % 65536 ≤ 32768

namespace State

/-! Forwarding (R320, R323 to R325, R329, R337, R339, R341). -/

/-- A module refuses a packet in transit: a RETURN, but an RSP packet is discarded (R341). -/
def refuseTransit (s : State) (port : Nat) (p : Packet) (status : Nat) : State :=
  let s := if status = 0x03 ∨ status = 0x05 then s.fabEvent 0 port 3 else s
  if p.chan = 2 then s.refuseRsp else s.returnPacket p status

/-- A packet for another module: NO_ROUTE, DATELINE and DOWN are returned, else it goes on, with DL set at a
dateline. -/
def forwardPacket (s : State) (port : Nat) (p : Packet) : State :=
  let e := s.route p.dst.toNat
  if !e.testBit 31 ∨ !p.marked then s.refuseTransit port p 0x03
  else if e.testBit 28 ∧ p.dl then s.refuseTransit port p 0x05
  else
    let q := if e.testBit 28 then sealHeader { p with dl := true } else p
    match s.egressBad q with
    | some st => s.refuseTransit port p st
    | none => s.egress q

/-! Receive flows (R330, R331, R333, R334). -/

def recvFlow (s : State) (k : Nat) : Option RecvFlow := (s.fab.recv.find? (fun e => e.1 == k)).map (·.2)

def putRecv (s : State) (x : RecvFlow) : State :=
  { s with fab := { s.fab with recv := tput (flowKey x.id) x s.fab.recv } }

def newRecv (s : State) (p : Packet) : RecvFlow :=
  { id := flowOf p, tag := p.jobTag.toNat, base := p.seq.toNat, cum := p.seq.toNat, got := [], newN := 0, ceN := 0,
    lastAt := s.dt, held := [], naks := [], ackDue := false, epochs := [], tailsDue := [] }

end State

/-- The flow has received a SEQ: it lies below CUM or was received beyond it (R330). -/
def RecvFlow.has (x : RecvFlow) (q : Nat) : Bool := seqBelow q x.cum || x.got.contains q

/-- Every SEQ before q has been received (R333). -/
def RecvFlow.allBefore (x : RecvFlow) (q : Nat) : Bool :=
  (List.range ((q + 65536 - x.cum) % 65536)).all (fun i => x.got.contains ((x.cum + i) % 65536))

/-- CUM moves over the SEQs received. -/
def RecvFlow.advance (x : RecvFlow) : Nat → RecvFlow
  | 0 => x
  | n + 1 => if x.got.contains x.cum then
      RecvFlow.advance { x with cum := (x.cum + 1) % 65536, got := x.got.filter (· != x.cum) } n else x

def RecvFlow.take (x : RecvFlow) (p : Packet) (ce : Bool) (now : Nat) : RecvFlow :=
  let y := { x with got := x.got ++ [p.seq.toNat], newN := x.newN + 1, ceN := x.ceN + b2n ce, lastAt := now, tag := p.jobTag.toNat, epochs := x.epochs ++ [(p.seq.toNat, p.epoch.toNat)] }
  y.advance (y.got.length)

/-- The ACK payload (R331). -/
def ackPayload (x : RecvFlow) : Bytes :=
  let sack := sumNat ((List.range 256).map (fun i => if x.got.contains ((x.cum + 1 + i) % 65536) then 2 ^ i else 0))
  leBytes 2 x.cum ++ leBytes 1 x.id.chan.toNat ++ zeros 1 ++ leBytes 2 x.newN ++ leBytes 2 x.ceN ++ leBytes 32 sack ++
  leBytes 2 ((x.naks.head?.map (·.1)).getD 0) ++ leBytes 1 ((x.naks.head?.map (·.2)).getD 0) ++ zeros 21

namespace State

/-- An ACK or TAIL_ACK goes out at once: through the Prism, or on a port where no packet of its buffer waits and the credits
cover it. Until then it is state of the flow, and no queued packet (R328). -/
def answerRoom (s : State) (p : Packet) : Bool :=
  let d := p.dst.toNat
  s.routeLocal d || (s.egressBad p).isSome || (match s.moveOf d, s.choosePort (s.route d) p with
    | none, some o => s.egressFill o (bufferOf p) == 0 && packetUnits p ≤ creditFree (s.port o) (bufferOf p)
    | _, _ => false)

/-- An ACK goes out, or stays due; it takes no SEQ and is not acknowledged itself (R328, R331; log 28). It reports one
refused RSP packet; the next ACK reports the next. -/
def sendAck (s : State) (k : Nat) : State :=
  match s.recvFlow k with
  | none => s
  | some x =>
    let p := { mkPacket x.id.src.toNat x.id.dst.toNat 2 0x12 x.tag 0 false (ackPayload x) with echo := 0 < x.ceN }
    if s.answerRoom p then
      (s.putRecv { x with newN := 0, ceN := 0, naks := x.naks.tail, ackDue := !x.naks.tail.isEmpty }).sendOut p
    else s.putRecv { x with ackDue := true }

/-! Tails (R335). -/

/-- The TAIL_ACK that answers a TAIL of a flow. -/
def tailAck (i : FlowId) (r : TailOut) (over_ : Bool) : Packet :=
  let body := leBytes 1 r.epoch ++ leBytes 1 i.chan.toNat ++ leBytes 2 r.first ++ leBytes 2 r.last ++ leBytes 1 (b2n over_) ++ zeros 57
  mkPacket i.src.toNat i.dst.toNat 2 0x15 r.tag 0 false body

/-- A TAIL_ACK goes out, or stays due (R328). -/
def sendTailAck (s : State) (i : FlowId) (r : TailOut) (over_ : Bool) : State :=
  if s.answerRoom (tailAck i r over_) then s.sendOut (tailAck i r over_)
  else { s with fab := { s.fab with tailAcks := s.fab.tailAcks ++ [(i, r, over_)] } }

/-- Acknowledgements that are due go out, as far as there is room (R328). -/
def flushAcks (s : State) : State :=
  let s := forEach (s.fab.recv.filter (fun e => e.2.ackDue)) s (fun t e => t.sendAck e.1)
  let l := s.fab.tailAcks
  if l.isEmpty then s
  else forEach l { s with fab := { s.fab with tailAcks := [] } } (fun t e => t.sendTailAck e.1 e.2.1 e.2.2)

/-- A TAIL is answered when its range has been received or lies below the base; STATUS 1 when a SEQ of the epoch
outside the range was received. -/
def answerTail (s : State) (k : Nat) (r : TailOut) : State :=
  match s.recvFlow k with
  | none => s
  | some x =>
    let n := (r.last + 65536 - r.first) % 65536 + 1
    let all := (List.range n).all (fun i => x.has ((r.first + i) % 65536))
    if !all then s
    else
      let over_ := x.epochs.any (fun e => e.2 == r.epoch && n ≤ (e.1 + 65536 - r.first) % 65536)
      let x := { x with tailsDue := x.tailsDue.erase r, epochs := x.epochs.filter (fun e => e.2 != r.epoch) }
      (s.putRecv x).sendTailAck x.id r over_

def answerTails (s : State) (k : Nat) : State :=
  match s.recvFlow k with
  | none => s
  | some x => forEach x.tailsDue s (fun t e => t.answerTail k e)

/-- The endpoint's checks on a packet of a flow: bound or keyed, with its tag or key, and well formed (R31, R360, R504). -/
def checkedAt (s : State) (p : Packet) (act : State) : State :=
  let ep := s.routeEp p.dst.toNat
  match s.epFacet ep, s.epKey ep with
  | some f, _ => if p.jobTag.toNat ≠ s.jobTag f then s.refusePacket p 0x02 else if !wellFormedOp p then s.refusePacket p 0x06 else act
  | none, some k => (match s.keyRegion k with
    | some r => if p.jobTag.toNat ≠ r.key.toNat then s.wrongKey k r p else if !wellFormedOp p then s.refusePacket p 0x06 else act
    | none => s)
  | none, none => s.refusePacket p 0x01

/-- A TAIL of a flow at its destination. Of a flow that is unknown here, or is freed, every SEQ lies below the base: the
packets of the epoch have gone before the TAIL on its path (log 28). -/
def tailAt (s : State) (p : Packet) : State :=
  let b := p.payload
  let t : TailOut := ⟨byteAt b 0 % 4, leAt b 2 2, leAt b 4 2, p.jobTag.toNat, 0⟩
  let i : FlowId := ⟨p.src, p.dst, true, BitVec.ofNat 2 (byteAt b 1)⟩
  s.checkedAt p (match s.recvFlow (flowKey i) with
    | some x => ((s.putRecv { x with tailsDue := if x.tailsDue.contains t then x.tailsDue else x.tailsDue ++ [t] })).answerTails (flowKey i)
    | none => s.sendTailAck i t false)

/-! Route changes (R335, R337). -/

/-- An old epoch of an entry still has tails out on some flow. -/
def epochOpen (s : State) (eid e : Nat) : Bool :=
  s.fab.send.any (fun x => x.2.id.dst.toNat == eid && x.2.tails.any (fun t => t.epoch == e))

/-- The TAIL of a flow that closes a range. -/
def tailPacket (i : FlowId) (t : TailOut) : Packet :=
  let body := leBytes 1 t.epoch ++ leBytes 1 i.chan.toNat ++ leBytes 2 t.first ++ leBytes 2 t.last ++ zeros 58
  { mkPacket i.dst.toNat i.src.toNat i.chan.toNat 0x14 t.tag 0 false body with epoch := BitVec.ofNat 2 t.epoch }

/-- The flow's TAIL of its present epoch leaves on the old path (R335). -/
def sendTail (s : State) (x : SendFlow) : State :=
  if x.nextSeq = x.epochFirst ∨ !x.id.marked then s
  else
    let last := (x.nextSeq + 65535) % 65536
    let t : TailOut := ⟨x.epoch, x.epochFirst, last, x.tag, 0⟩
    (s.putFlow { x with tails := x.tails ++ [t] }).sendOut (tailPacket x.id t)

end State

/-- Bits that the host driver writes in a route entry (R322). -/
def routeWritable (v : Nat) : Nat := v / 2 ^ 32 * 2 ^ 32 + (nbits v 31 31) * 2 ^ 31 + nbits v 29 28 * 2 ^ 28 + v % 32

/-- Bits whose change is a re-route: PORT, AMASK, ADAPT, DATELINE (R335). -/
def routePath (v : Nat) : Nat := v / 2 ^ 32 * 2 ^ 32 + nbits v 29 28 * 2 ^ 28 + v % 32

namespace State

/-- The ports that an entry may use. -/
def entryPorts (e : Nat) : List Nat :=
  (List.range 32).filter (fun p => p == e % 32 || (e.testBit 29 && e.testBit (32 + p)))

/-- An entry takes new bits. A changed path raises EPOCH, after tails on the old path (R335); packets for the EID wait until
the old ports have let theirs go, and those that wait behind an earlier change leave by the entry of that time (R337). -/
def reroute (s : State) (eid v : Nat) : State :=
  let old := s.route eid
  let e := s.routeEpoch eid
  if routePath old = routePath v then s.setRoute eid (v + e * 2 ^ 26)
  else
    let n := (e + 1) % 4
    let flows := s.fab.send.filter (fun x => x.2.id.dst.toNat == eid)
    let s := forEach flows s (fun t x => t.sendTail x.2)
    let s := forEach flows s (fun t x => match t.sendFlow x.1 with
      | some y => t.putFlow { y with epoch := n, epochFirst := y.nextSeq }
      | none => t)
    let ports := entryPorts old
    let busy := ports.any (fun p => (s.port p).queue.any (fun q => q.dst.toNat == eid)) || s.fab.moves.any (fun m => m.eid == eid)
    let moves := s.fab.moves.map (fun m => if m.eid = eid ∧ m.entry = none then { m with entry := some old } else m)
    let s := if busy then { s with fab := { s.fab with moves := moves ++ [⟨eid, ports, none, [], s.dt⟩] } } else s
    s.setRoute eid (v + n * 2 ^ 26)

/-- Entries that waited with PEND apply once the epoch they would reuse is free (R335, R343). -/
def pendCheck (s : State) (eid : Nat) : State :=
  match s.fab.pendRoutes.find? (fun e => e.1 == eid) with
  | none => s
  | some (_, v) =>
    if s.epochOpen eid ((s.routeEpoch eid + 1) % 4) then s
    else
      let s := { s with fab := { s.fab with pendRoutes := s.fab.pendRoutes.filter (fun e => e.1 != eid) } }
      let s := s.setRoute eid (s.route eid - (if (s.route eid).testBit 25 then 2 ^ 25 else 0))
      let s := if s.rf Reg.RT_CMD 17 0 = eid then s.wf Reg.RT_CMD 27 27 0 else s
      s.reroute eid v

/-! What settles at the source: ACK, RETURN, TAIL_ACK, abandonment (R331, R332, R336, R338, R340, R341). -/

/-- The facet of a send flow. -/
def flowFacet (s : State) (i : FlowId) : Option Nat := s.eidFacet i.src.toNat

/-- A flow that a fence covers: from an endpoint, to one destination or all. -/
def fenceCovers (s : State) (x : FenceState) (i : FlowId) : Bool := i.marked && s.fenceMeets x i.src.toNat i.dst.toNat

/-- The packets of a fence's flows that have not entered them: those that wait for a flow, and those behind the n fences
that are older (R330, R336). -/
def beforeFence (s : State) (n : Nat) : List Packet := s.fab.blocked ++ (s.fab.fences.take n).flatMap (fun y => y.after)

/-- A fence with n older ones: its flows have nothing unacknowledged and no tail unanswered, and every packet of them has
entered. -/
def fenceDone (s : State) (n : Nat) (x : FenceState) : Bool :=
  x.flows.all (fun i => match s.sendFlow (flowKey i) with
    | none => true
    | some y => y.unacked.isEmpty && y.waiting.isEmpty && y.tails.isEmpty) &&
  !(s.beforeFence n).any (fun p => x.flows.contains (flowOf p))

/-- A fence completes: an error is an event, and the packets held behind it go (R336). -/
def fenceEnds (s : State) (x : FenceState) : State :=
  let n := s.fab.fences.findIdx (· == x)
  let s := { s with fab := { s.fab with fences := s.fab.fences.eraseIdx n } }
  let s := if x.error then s.fabEvent ((s.epFacet x.ep).getD 0) 0 7 else s
  forEach x.after s (fun t p => t.sendBehind n p)

/-- Fences that are done complete (R336). -/
def fenceCheck (s : State) : State :=
  forEach ((s.fab.fences.zipIdx.filter (fun e => s.fenceDone e.2 e.1)).map (·.1)) s (fun t x => t.fenceEnds x)

/-- A fence that covers a flow meets an error. -/
def fenceError (s : State) (i : FlowId) : State :=
  { s with fab := { s.fab with fences := s.fab.fences.map (fun x =>
      if x.flows.contains i then { x with error := true } else x) } }

end State

/-- The delivery bitmap of a multicast: target i at bit i. -/
def McState.bitmap (m : McState) : Nat := sumNat (m.targets.zipIdx.map (fun e => if e.1.out || e.1.missed then 0 else 2 ^ e.2))

/-- The copy with a SEQ of a flow is delivered, or missed. -/
def McState.settle (m : McState) (k seq : Nat) (missed : Bool) : McState :=
  { m with targets := m.targets.map (fun t => if t.key = k ∧ t.seq = some seq then { t with out := false, missed := missed } else t) }

namespace State

/-- A copy of a marked multicast is delivered, or missed: that is reported to the unit with the bitmap (R338). -/
def mcastSettle (s : State) (k seq : Nat) (missed : Bool) : State :=
  match s.fab.mcasts.findIdx? (fun m => m.targets.any (fun t => t.key == k && t.seq == some seq && t.out)) with
  | none => s
  | some i =>
    let ms := s.fab.mcasts.modify i (fun m => m.settle k seq missed)
    let s := { s with fab := { s.fab with mcasts := ms.filter (fun m => m.targets.any (·.out)) } }
    match ms[i]? with
    | some m => if missed then (s.fabEvent m.facet 0 8).emit (.missed m.facet m.group m.bitmap) else s
    | none => s

/-- SEQs of a flow settle; then its waiting packets and its fences go on. -/
def settle (s : State) (k : Nat) (seqs : List Nat) (missed : Bool) : State :=
  match s.sendFlow k with
  | none => s
  | some x =>
    let gone := x.unacked.filter (fun u => seqs.contains u.seq)
    let s := s.putFlow { x with unacked := x.unacked.filter (fun u => !seqs.contains u.seq) }
    let s := forEach gone s (fun t u =>
      let t := if missed then t.forgetAnswer u.packet else t
      if u.packet.mc then t.mcastSettle k u.seq missed else t)
    (s.flowAdvance k x.waiting.length).fenceCheck

end State

/-- The window after an ACK of n packets, e of them marked (R340). -/
def windowAfter (x : SendFlow) (n e now wMin wMax ai : Nat) : SendFlow :=
  if 0 < e then
    (if x.hold ≤ now then { x with w := max wMin (x.w - x.w * e / (2 * n)), hold := now + 14400 } else x)
  else if x.grow ≤ now then { x with w := min wMax (x.w + ai), grow := now + 14400 } else x

namespace State

/-- An RSP packet that answers a flow carries the tag that the flow's packet carried (R31, R341). -/
def answersFlow (x : SendFlow) (p : Packet) : Bool :=
  x.tag == p.jobTag.toNat || x.unacked.any (fun u => u.packet.jobTag == p.jobTag)

/-- An answer for no flow of this module is discarded and counted (R343); a malformed one is refused (R321). -/
def stray (s : State) (p : Packet) : State :=
  if wellFormedOp p then { s with fab := { s.fab with strays := s.fab.strays + 1 } } else s.refusePacket p 0x06

/-- An endpoint's packet comes back: counted and raised (R344). -/
def cameBack (s : State) (i : FlowId) : State :=
  let f := s.flowFacet i
  let s := match f with
    | some g => s.count (Reg.FCNT_RET g) 1
    | none => s
  s.fabEvent (f.getD 0) 0 0

/-- ACK at its source (R331, R340). -/
def ackAt (s : State) (p : Packet) : State :=
  let b := p.payload
  let k := flowKey ⟨p.dst, p.src, true, BitVec.ofNat 2 (byteAt b 2)⟩
  match s.sendFlow k with
  | none => s.stray p
  | some x =>
    if !answersFlow x p then s.refusePacket p 0x02
    else if !wellFormedOp p then s.refusePacket p 0x06
    else
      let cum := leAt b 0 2
      let sack := leAt b 8 32
      let acked (q : Nat) : Bool := seqBelow q cum || (let d := (q + 65536 - (cum + 1)) % 65536
        d < 256 && sack.testBit d)
      let n := leAt b 4 2
      let s := s.putFlow (windowAfter x n (leAt b 6 2) s.dt s.wMin s.wMax s.wStep)
      let s := s.settle k ((x.unacked.filter (fun u => acked u.seq)).map (·.seq)) false
      if byteAt b 42 = 0 then s
      else (s.cameBack x.id).settle k [leAt b 40 2] true

/-- The TAIL of an epoch comes back, or is abandoned: it is answered with an error (R332, R335, R336). -/
def tailFails (s : State) (k epoch : Nat) : State :=
  match s.sendFlow k with
  | none => s
  | some x =>
    (((s.fenceError x.id).putFlow { x with tails := x.tails.filter (fun t => t.epoch != epoch) }).pendCheck x.id.dst.toNat).fenceCheck

/-- Packets that came back from this module's own egress settle (R341). -/
def settleBack (s : State) : State :=
  let l := s.fab.back
  if l.isEmpty then s
  else forEach l { s with fab := { s.fab with back := [] } } (fun t q =>
    let k := flowKey (flowOf q)
    if q.op = 0x14 then t.tailFails k q.epoch.toNat else if hasSeq q then t.settle k [q.seq.toNat] true else t)

/-- A RELAY that comes back to its gateway is dropped (R364). -/
def relayDrop (s : State) (ep : Nat) : State := (s.addSat (Reg.MQ_CNT ep) 15 0 1).msfEvent ((s.epFacet ep).getD 0) ep 8

/-- RETURN at its source (R31, R341): it must name a packet that is out, with the tag that this was sent with. The SEQ settles
and a reply that comes back fails its queue pair (R219). A packet that has settled is out no more, and its RETURN changes
nothing; one of the scheduled class has no acknowledgement to settle. -/
def returnAt (s : State) (p : Packet) : State :=
  let h := parseHeader p.payload
  let k := flowKey (flowOf h)
  if !wellFormedOp p ∨ h.src ≠ p.dst then s.refusePacket p 0x06
  else match s.sendFlow k with
  | none => s.stray p
  | some x =>
    if h.jobTag ≠ p.jobTag then s.refusePacket p 0x02
    else if h.op = 0x14 then
      if x.tails.any (fun t => t.epoch == h.epoch.toNat && t.tag == p.jobTag.toNat) then s.tailFails k h.epoch.toNat
      else s.refusePacket p 0x02
    else if !hasSeq h then s.cameBack x.id
    else if !h.marked then
      if x.tag = p.jobTag.toNat then s.cameBack x.id else s.refusePacket p 0x02
    else match x.unacked.find? (fun u => u.seq == h.seq.toNat) with
      | none => s
      | some u =>
        if u.packet.jobTag ≠ p.jobTag then s.refusePacket p 0x02
        else
          let s := ((s.cameBack x.id).settle k [h.seq.toNat] true).replyFails u.packet
          if h.op = 8 then s.relayDrop (s.routeEp p.dst.toNat) else s

/-- TAIL_ACK at its source (R335, R336), with the tag of the TAIL that it answers (R31). -/
def tailAckAt (s : State) (p : Packet) : State :=
  let b := p.payload
  let k := flowKey ⟨p.dst, p.src, true, BitVec.ofNat 2 (byteAt b 1)⟩
  match s.sendFlow k with
  | none => s.stray p
  | some x =>
    if x.tails.all (fun t => t.tag != p.jobTag.toNat) then s.refusePacket p 0x02
    else if !wellFormedOp p then s.refusePacket p 0x06
    else
      let hit (t : TailOut) : Bool := t.epoch == byteAt b 0 && t.first == leAt b 2 2 && t.last == leAt b 4 2 && t.tag == p.jobTag.toNat
      let s := if byteAt b 6 ≠ 0 ∧ x.tails.any hit then s.fenceError x.id else s
      let s := s.putFlow { x with tails := x.tails.filter (fun t => !hit t) }
      (s.pendCheck p.src.toNat).fenceCheck

/-! Delivery (R321, R504). -/

/-- A packet is delivered at its endpoint, by its operation. A reserved operation is MALFORMED. -/
def deliver (s : State) (p : Packet) : State :=
  let o := p.op.toNat
  if o = 1 ∨ o = 2 ∨ o = 3 then s.requestAt p
  else if o = 4 then s.doorbellAt p
  else if o = 5 then s.ringMsgAt p
  else if o = 6 then s.sendAt p
  else if o = 7 then s.timeAt p
  else if o = 8 then s.relayAt p
  else if o = 9 then s.fwdReqAt p
  else if o = 0x10 then s.dataAt p
  else if o = 0x11 then s.doneAt p
  else s.acceptAt p (fun _ => s)

/-- A held LAST packet is delivered when the home queues that it needs have room (R355). -/
def heldOut (s : State) (k : Nat) (h : HeldLast) : State :=
  match s.recvFlow k with
  | none => s
  | some x =>
    if s.homeRoom (s.packetLines h.packet) then (s.putRecv { x with held := x.held.erase h }).deliver h.packet else s

/-- Held LAST packets whose earlier SEQs are all there are delivered (R333). -/
def releaseHeld (s : State) (k : Nat) : State :=
  match s.recvFlow k with
  | none => s
  | some x =>
    let go := x.held.filter (fun h => x.allBefore h.packet.seq.toNat || seqBelow h.packet.seq.toNat x.cum)
    if go.isEmpty then s else (forEach go s (fun t h => t.heldOut k h)).showRob

/-- The ACK that is due after a packet of flow k: at once for FENCE or MC, and after 16 packets (R331). -/
def ackDue (s : State) (k : Nat) (p : Packet) : State :=
  match s.recvFlow k with
  | none => s
  | some x => if p.fence || p.mc || 16 ≤ x.newN then s.sendAck k else s

/-- A packet of the scheduled class at its endpoint: delivered in order of arrival, and a gap is an event (R333). Of a flow
beyond 16,384 nothing is kept (R330; log 28). -/
def receiveScheduled (s : State) (port : Nat) (p : Packet) (act : State → Packet → State) : State :=
  let k := flowKey (flowOf p)
  let x := (s.recvFlow k).getD (s.newRecv p)
  let s := if p.seq.toNat ≠ x.cum then s.fabEvent ((s.eidFacet p.dst.toNat).getD 0) port 12 else s
  let full := (s.recvFlow k).isNone && 16384 ≤ s.fab.recv.length
  act (if full then s else s.putRecv { x with cum := (p.seq.toNat + 1) % 65536, lastAt := s.dt }) p

/-- A scheduled packet arrives for an endpoint of this module: a flow whose packets in the receive buffer pass its
reservation is an event (R327). -/
def reserveCheck (s : State) (port : Nat) (p : Packet) : State :=
  let f := s.eidFacet p.dst.toNat
  let inFull : Nat := sumNat ((p :: (s.msf.waiting.map (·.2)).filter (fun q => flowOf q == flowOf p)).map (fun q => packetUnits q * 64))
  let reserved : Bool := match f with
    | some g => inFull ≤ sumNat (((s.kcs g).reservations.filter (fun r => r.eid == p.src.toNat && r.chan == p.chan.toNat &&
        (s.kcs g).eids.getD r.ep 0 == p.dst.toNat)).map (·.bytes))
    | none => true
  if p.marked || reserved then s else s.fabEvent (f.getD 0) port 11

/-- A marked packet at its endpoint (R330, R331, R333, R334): a duplicate is acknowledged again; a LAST packet waits
for the earlier ones in a reorder slot, or is discarded without one. A flow beyond 16,384 is not received, and its
source's retry comes again (log 28). -/
def receiveMarked (s : State) (port : Nat) (p : Packet) (act : State → Packet → State) : State :=
  let k := flowKey (flowOf p)
  let x := (s.recvFlow k).getD (s.newRecv p)
  let f := (s.eidFacet p.dst.toNat).getD 0
  let q := p.seq.toNat
  if x.has q then (s.putRecv { x with lastAt := s.dt }).sendAck k
  else if (s.recvFlow k).isNone ∧ 16384 ≤ s.fab.recv.length then s
  else
    let ce := p.ce || s.homeMarks p
    if p.last && !x.allBefore q then
      if 1024 ≤ s.slotsUsed then s.fabEvent f port 4
      else
        let y := x.take p ce s.dt
        (((s.putRecv { y with held := y.held ++ [⟨p, s.dt⟩] }).showRob).ackDue k p).answerTails k
    else
      let s := s.putRecv (x.take p ce s.dt)
      (((act s p).releaseHeld k).ackDue k p).answerTails k

/-- A request waits in the receive buffer while a home queue that it needs has no room, or one of its flow waits
(R355). -/
def mustWait (s : State) (p : Packet) : Bool :=
  !s.homeRoom (s.packetLines p) || s.msf.waiting.any (fun e => flowOf e.2 == flowOf p)

/-- Credits that the consumption of a packet returns to the port's peer (R326); what the Prism brings from this module
came by no port. -/
def returnCredit (s : State) (port : Nat) (p : Packet) : State :=
  let x := s.port port
  if 32 ≤ port then s else s.setPort port { x with owed := tset 0 x.owed (bufferOf p) (tget 0 x.owed (bufferOf p) + packetUnits p) }

/-- A port whose buffers are empty: every credit is back at its sender. -/
def freshPort (q : List Packet) : PortState :=
  { PortState.reset with queue := q, credit := (List.range 10).map (fun b => (b, bufferSize b)) }

/-- The link credits of a port do not balance: it retrains with empty buffers, so what they held is lost (R342). -/
def creditFault (s : State) (p : Nat) : State :=
  let s := { s with msf := { s.msf with waiting := s.msf.waiting.filter (fun e => e.1 != p) } }
  (((s.setPort p (freshPort (s.port p).queue)).wf (Reg.PORT_STAT p) 31 29 1).wf (Reg.PORT_STAT p) 27 25 1).fabEvent 0 p 6

/-- A packet finds no space in its receive buffer beside the packets that wait there and the credits not returned yet: its
sender has sent without credits (R326, R342). -/
def overfull (s : State) (port : Nat) (p : Packet) : Bool :=
  let b := bufferOf p
  let held := (s.msf.waiting.filter (fun e => e.1 == port && bufferOf e.2 == b)).map (fun e => packetUnits e.2)
  port < 32 && bufferSize b < tget 0 (s.port port).owed b + sumNat held + packetUnits p

/-- A packet at an endpoint of this module. ACK, TAIL and TAIL_ACK stand outside the flows' SEQs (log 28). -/
def receiveLocal (s : State) (port : Nat) (p : Packet) (act : State → Packet → State) : State :=
  let o := p.op.toNat
  if o = 0x12 then s.ackAt p
  else if o = 0x15 then s.tailAckAt p
  else if o = 0x14 then s.tailAt p
  else if o = 0x13 then s.receiveMarked port p (fun t q => t.returnAt q)
  else if !p.marked then s.receiveScheduled port p act
  else s.receiveMarked port p act

/-- A packet is for an endpoint of this module. -/
def isLocal (s : State) (p : Packet) : Bool := s.routeLocal p.dst.toNat && s.routeValid p.dst.toNat

/-- A packet in the receive buffer goes on, is delivered, or waits for a home queue; the first two return its credits. -/
def takeIn (s : State) (port : Nat) (p : Packet) (act : State → Packet → State) : State :=
  if !s.isLocal p then (s.forwardPacket port p).returnCredit port p
  else if s.mustWait p then { s with msf := { s.msf with waiting := s.msf.waiting ++ [(port, p)] } }
  else (s.receiveLocal port p act).returnCredit port p

/-- A packet arrives on a port (R319 to R325): a header that fails its CRC is discarded and counted, and its space is free
again; PAD is fill. -/
def receiveWith (s : State) (port : Nat) (p : Packet) (act : State → Packet → State) : State :=
  if !hcrcOk p then ((s.count (Reg.PFAB_HCRC port) 1).fabEvent 0 port 2).returnCredit port p
  else if p.op = 0 then s
  else if s.overfull port p then s.creditFault port
  else (if s.isLocal p then s.reserveCheck port p else s).takeIn port p act

def receive (s : State) (port : Nat) (p : Packet) : State := s.receiveWith port p (fun t q => t.deliver q)

/-- Packets of this module for its own endpoints are delivered through the Prism (R323, R338). -/
def deliverHome (s : State) : State :=
  let l := s.fab.home
  if l.isEmpty then s
  else forEach l { s with fab := { s.fab with home := [] } } (fun t p =>
    if !t.routeLocal p.dst.toNat then t.sendOut p else t.receive 32 p)

/-- Packets that waited for a home queue try again, in order, and so do the held LAST packets (R355). -/
def retryWaiting (s : State) : State :=
  let s := forEach (s.fab.recv.filter (fun e => !e.2.held.isEmpty)) s (fun t e => t.releaseHeld e.1)
  let w := s.msf.waiting
  if w.isEmpty then s
  else forEach w { s with msf := { s.msf with waiting := [] } } (fun t e => t.takeIn e.1 e.2 (fun u q => u.deliver q))

/-- A row of one operation: the packet arrives when it carries that operation. -/
def receiveOp (s : State) (port : Nat) (p : Packet) (op : Nat) : State :=
  if p.op.toNat = op then s.receive port p else s

/-! Retry (R332) and the end of flows (R330, R334). -/

/-- RETRIES (R344). -/
def retries (s : State) : Nat := max 1 (fld (s.hw Reg.FAB_CTL) 31 24)

/-- A packet of a flow is abandoned (R332): counted, and an error to the fences that cover the flow. -/
def abandon (s : State) (i : FlowId) : State :=
  let f := s.flowFacet i
  let s := match f with
    | some g => s.count (Reg.FCNT_UND g) 1
    | none => s
  (s.fabEvent (f.getD 0) 0 1).fenceError i

/-- A TAIL that is not answered is sent again, or abandoned after RETRIES (R332, R335). -/
def resendTail (s : State) (x : SendFlow) (t : TailOut) : State :=
  if t.resends < s.retries then
    (s.putFlow { x with tails := x.tails.map (fun v => if v = t then { v with resends := v.resends + 1 } else v), lastSent := s.dt }).sendOut (tailPacket x.id t)
  else (s.abandon x.id).tailFails (flowKey x.id) t.epoch

/-- A packet is sent again with its SEQ and EPOCH, or abandoned after RETRIES; a reply that is abandoned fails its queue
pair (R219). Where no packet of that SEQ is out, it is the TAIL that closes with it. -/
def resend (s : State) (k seq : Nat) : State :=
  match s.sendFlow k with
  | none => s
  | some x => match x.unacked.find? (fun u => u.seq == seq) with
    | none => (match x.tails.find? (fun t => t.last == seq) with
      | some t => s.resendTail x t
      | none => s)
    | some u =>
      if u.resends < s.retries then
        (s.putFlow { x with unacked := x.unacked.map (fun v => if v.seq == seq then { v with resends := v.resends + 1, sentAt := s.dt } else v), lastSent := s.dt }).sendOut u.packet
      else ((s.abandon x.id).settle k [seq] true).replyFails u.packet

/-- Packets whose units wait for a send flow try again. -/
def retryBlocked (s : State) : State :=
  let b := s.fab.blocked
  if b.isEmpty then s
  else forEach b { s with fab := { s.fab with blocked := [] } } (fun t p => t.flowEnter p)

/-! Multicast (R338). -/

def mcHeader (s : State) (g : Nat) : Nat := tget 0 s.fab.mcHdr g
def mcTargets (s : State) (g : Nat) : List Nat :=
  (List.range (s.mcHeader g % 256 + 1)).map (fun i => tget 0 s.fab.mcDst (g * 256 + i))

/-- The source holds reservation credit at every target at once. -/
def mcCredit (s : State) (p : Packet) (targets : List Nat) : Bool :=
  let far := targets.filter (fun d => !s.routeLocal d)
  let ports := far.map (fun d => s.route d % 32)
  ports.all (fun o => packetUnits p * (ports.filter (· == o)).length ≤ creditFree (s.port o) (6 + p.chan.toNat))

/-- One copy to each target, in the target's own flow, with MC = 1. -/
def mcSend (s : State) (f ep g : Nat) (targets : List Nat) (p : Packet) : State :=
  let copy (d : Nat) : Packet := { p with dst := BitVec.ofNat 18 d, src := BitVec.ofNat 18 (s.eidOf f ep), mc := true, jobTag := BitVec.ofNat 16 (s.jobTag f) }
  let out := targets.map (fun d => McTarget.mk (flowKey (flowOf (copy d))) none true false)
  let s := if p.marked then
      { s with fab := { s.fab with mcasts := s.fab.mcasts ++ [⟨g, f, out⟩] } } else s
  forEach targets s (fun t d => t.unitSend (copy d))

/-- A multicast of facet f's unit: the group is VALID and belongs to the facet. -/
def multicast (s : State) (f ep g : Nat) (p : Packet) : State :=
  let h := s.mcHeader g
  if !h.testBit 31 ∨ nbits h 29 24 ≠ f ∨ !s.facetBound f ∨ !(s.kcs f).table.eps.contains ep then s
  else if !p.marked ∧ !s.mcCredit p (s.mcTargets g) then
    ({ s with fab := { s.fab with mcWait := s.fab.mcWait ++ [McWait.mk f ep g (s.mcTargets g) p] } }).fabEvent f 0 10
  else s.mcSend f ep g (s.mcTargets g) p

/-- Multicasts that waited for credit try again. -/
def retryMulticast (s : State) : State :=
  let w := s.fab.mcWait
  if w.isEmpty then s
  else forEach w { s with fab := { s.fab with mcWait := [] } } (fun t e =>
    if t.mcCredit e.packet e.targets then t.mcSend e.facet e.ep e.group e.targets e.packet
    else { t with fab := { t.fab with mcWait := t.fab.mcWait ++ [e] } })

/-! A port that goes down with packets queued (R343), and packets held too long (R339). -/

/-- A queued packet leaves by another AMASK port, keeping its EPOCH, or is returned with DOWN. -/
def redirect (s : State) (p : Nat) (q : Packet) : State :=
  if s.adaptive q then s.egress q
  else if s.routeLocal q.src.toNat then s.bounced q 0x04
  else s.refuseTransit p q 0x04

def portLost (s : State) (p : Nat) : State :=
  let x := s.port p
  forEach x.queue (s.setPort p { x with queue := [] }) (fun t q => t.redirect p q)

/-- A packet that was held more than 250 µs on its way out is returned with AGED. -/
def agedOut (s : State) (port : Nat) (p : Packet) : State :=
  if s.routeLocal p.src.toNat then s.bounced p 0x07 else s.refuseTransit port p 0x07

/-- A marked packet held more than 250 µs is returned with AGED: in a port's queue, unless its first bytes have gone; where it
waits for an adaptive port or behind a re-route; or in the receive buffer, behind a full home queue. -/
def age (s : State) (port : Nat) (p : Packet) : State :=
  let x := s.port port
  let n := if x.sent = 0 then 0 else 1
  if !p.marked then s
  else if (x.queue.drop n).contains p then (s.setPort port { x with queue := x.queue.take n ++ (x.queue.drop n).erase p }).agedOut port p
  else if s.fab.adapt.contains p then ({ s with fab := { s.fab with adapt := s.fab.adapt.erase p } }).agedOut port p
  else match s.fab.moves.findIdx? (fun m => m.waiting.contains p) with
    | some i =>
      ({ s with fab := { s.fab with moves := s.fab.moves.modify i (fun m => { m with waiting := m.waiting.erase p }) } }).agedOut port p
    | none =>
      if s.msf.waiting.contains (port, p) then
        (({ s with msf := { s.msf with waiting := s.msf.waiting.erase (port, p) } }).refusePacket p 0x07).returnCredit port p
      else s

/-! The route table (R322, R323, R335). -/

/-- Why a write to an entry is refused: 0 for none (R323, R344). -/
def routeBad (s : State) (eid v : Nat) : Nat :=
  let ep := s.routeEp eid
  let ours := match s.epHolder ep with
    | some f => (s.kcs f).eids.contains eid
    | none => match s.epKey ep with
      | some k => (match s.keyRegion k with
        | some r => r.eid == eid
        | none => false)
      | none => false
  if s.routeLocal eid && ours then 1
  else if v.testBit 29 && v.testBit 28 then 2
  else if v.testBit 29 && !v.testBit (32 + v % 32) then 3
  else 0

/-- A write to an entry is accepted: LOCAL is cleared; a path change whose epoch is still open waits with PEND. Any other
takes the place of a change that waits (R343). -/
def routeWrite (s : State) (eid v : Nat) : State :=
  let v := routeWritable v
  let old := s.route eid
  if routePath old ≠ routePath v ∧ (s.epochOpen eid ((s.routeEpoch eid + 1) % 4) ∨ old.testBit 25) then
    let s := { s with fab := { s.fab with pendRoutes := tput eid v s.fab.pendRoutes } }
    if old.testBit 25 then s else s.setRoute eid (old + 2 ^ 25)
  else ({ s with fab := { s.fab with pendRoutes := s.fab.pendRoutes.filter (fun e => e.1 != eid) } }).reroute eid v

end State

/-- WRITE (R356): acknowledged once every line has entered the home queue. -/
def execWrite (port : Fin 32) (p : Packet) (s : State) : Result := finish s (s.receiveOp port.val p 1)

/-- READ (R350). -/
def execRead (port : Fin 32) (p : Packet) (s : State) : Result := finish s (s.receiveOp port.val p 2)

/-- ATOMIC (R350, R351). -/
def execAtomic (port : Fin 32) (p : Packet) (s : State) : Result := finish s (s.receiveOp port.val p 3)

/-- SEND (R363, R364). -/
def execSend (port : Fin 32) (p : Packet) (s : State) : Result := finish s (s.receiveOp port.val p 6)

/-- RELAY (R364). -/
def execRelay (port : Fin 32) (p : Packet) (s : State) : Result := finish s (s.receiveOp port.val p 8)

/-- FWD_REQ (R365). -/
def execFwdReq (port : Fin 32) (p : Packet) (s : State) : Result := finish s (s.receiveOp port.val p 9)

/-- DATA (R346, R358). -/
def execData (port : Fin 32) (p : Packet) (s : State) : Result := finish s (s.receiveOp port.val p 0x10)

/-- DONE (R349, R358). -/
def execDone (port : Fin 32) (p : Packet) (s : State) : Result := finish s (s.receiveOp port.val p 0x11)

/-- ACK (R331, R340). -/
def execAck (port : Fin 32) (p : Packet) (s : State) : Result := finish s (s.receiveOp port.val p 0x12)

/-- RETURN (R341). -/
def execReturn (port : Fin 32) (p : Packet) (s : State) : Result := finish s (s.receiveOp port.val p 0x13)

/-- TAIL (R335). -/
def execTail (port : Fin 32) (p : Packet) (s : State) : Result := finish s (s.receiveOp port.val p 0x14)

/-- TAIL_ACK (R335, R336). -/
def execTailAck (port : Fin 32) (p : Packet) (s : State) : Result := finish s (s.receiveOp port.val p 0x15)

/-- SYNC_REQ (R379): with the fractions of T2 and T3. -/
def execSyncReq (port : Fin 32) (p : Packet) (frac2 frac3 : BitVec 4) (s : State) : Result :=
  finish s (if p.op = 7 then s.receiveWith port.val p (fun t q => t.syncReqAt q frac2.toNat frac3.toNat) else s)

/-- SYNC_RESP (R379): with the fraction of T4. -/
def execSyncResp (port : Fin 32) (p : Packet) (frac : BitVec 4) (s : State) : Result :=
  finish s (if p.op = 7 then s.receiveWith port.val p (fun t q => t.syncRespAt q frac.toNat) else s)

/-- PACKET_FORWARD (R324, R325): any packet that arrives on a port; one for this module is delivered. -/
def execPacketForward (port : Fin 32) (p : Packet) (s : State) : Result := finish s (s.receive port.val p)

/-- ACK_TIMER (R331): 2 µs after the first packet not yet acknowledged; a refused RSP packet is reported as well (R341). -/
def execAckTimer (fl : FlowId) (s : State) : Result :=
  finish s (match s.recvFlow (flowKey fl) with
    | some x => if (0 < x.newN ∨ x.naks ≠ []) ∧ fl.marked then s.sendAck (flowKey fl) else s
    | none => s)

/-- RESEND_TIMEOUT (R332). -/
def execResendTimeout (fl : FlowId) (seq : BitVec 16) (s : State) : Result :=
  finish s (s.resend (flowKey fl) seq.toNat)

/-- RECEIVE_FLOW_FREE (R330, R342): a slot still held is freed and counted. -/
def execReceiveFlowFree (fl : FlowId) (s : State) : Result :=
  let k := flowKey fl
  finish s (match s.recvFlow k with
    | some x =>
      let u := ({ s with fab := { s.fab with recv := s.fab.recv.filter (fun e => e.1 != k) } }).showRob
      if x.held.isEmpty then u else u.fabEvent ((s.eidFacet fl.dst.toNat).getD 0) 0 5
    | none => s)

/-- SEND_FLOW_FREE (R330): a flow with nothing unacknowledged and no tail out. -/
def execSendFlowFree (fl : FlowId) (s : State) : Result :=
  let k := flowKey fl
  finish s (match s.sendFlow k with
    | some x =>
      if x.unacked.isEmpty ∧ x.tails.isEmpty ∧ x.waiting.isEmpty then
        ({ s with fab := { s.fab with send := s.fab.send.filter (fun e => e.1 != k) } }).retryBlocked
      else s
    | none => s)

/-- LAST_EXPIRED (R334): a packet held for 4 ms is discarded. -/
def execLastExpired (fl : FlowId) (seq : BitVec 16) (s : State) : Result :=
  finish s (match s.recvFlow (flowKey fl) with
    | some x =>
      if x.held.any (fun h => h.packet.seq == seq) then
        ((s.putRecv { x with held := x.held.filter (fun h => h.packet.seq != seq) }).showRob).fabEvent
          ((s.eidFacet fl.dst.toNat).getD 0) 0 5
      else s
    | none => s)

/-- AGED (R339). -/
def execAged (port : Fin 32) (p : Packet) (s : State) : Result := finish s (s.age port.val p)

/-- FENCE is set on the last packet of a flow among those of a list. -/
def markLast (i : FlowId) (l : List Packet) : List Packet :=
  match (l.zipIdx.reverse.find? (fun e => flowOf e.1 == i)).map (·.2) with
  | some n => l.modify n (fun p => { p with fence := true })
  | none => l

namespace State

/-- FENCE is set on the last packet of a flow that has not gone out (log 28): behind an older fence, in a unit that waits for
the flow, or in the flow. -/
def markFence (s : State) (i : FlowId) : State :=
  match (s.fab.fences.zipIdx.reverse.find? (fun e => e.1.after.any (fun p => flowOf p == i))).map (·.2) with
  | some n => { s with fab := { s.fab with fences := s.fab.fences.modify n (fun x => { x with after := markLast i x.after }) } }
  | none =>
    let s := { s with fab := { s.fab with blocked := markLast i s.fab.blocked } }
    match s.sendFlow (flowKey i) with
    | some y => s.putFlow { y with waiting := markLast i y.waiting }
    | none => s

/-- A fence of an endpoint for one destination, or for all: it covers their flows, those of packets that wait to enter one
included. -/
def openFence (s : State) (ep : Nat) (dst : Option Nat) : State :=
  let x : FenceState := ⟨ep, dst, [], false, []⟩
  let sent := (s.fab.send.map (fun e => e.2.id)).filter (s.fenceCovers x)
  let waiting := ((s.beforeFence s.fab.fences.length).map flowOf).filter (fun i => s.fenceCovers x i && !sent.contains i)
  let flows := sent ++ waiting.eraseDups
  let u := forEach flows s (fun t i => t.markFence i)
  ({ u with fab := { u.fab with fences := u.fab.fences ++ [{ x with flows := flows }] } }).fenceCheck

end State

/-- FENCE (R336). -/
def execFence (ep : Fin 64) (dst : Option (BitVec 18)) (s : State) : Result :=
  finish s (s.openFence ep.val (dst.map BitVec.toNat))

/-- MULTICAST (R338). -/
def execMulticast (f : Fin 64) (ep : Fin 64) (group : BitVec 10) (p : Packet) (s : State) : Result :=
  finish s (s.multicast f.val ep.val group.toNat p)

/-- RT_WRITE (R323, R335, R344). -/
def State.cmdRtWrite (eid : BitVec 18) (s : State) : State :=
  let v := (s.reg Reg.RT_LO).toNat + (s.reg Reg.RT_HI).toNat * 2 ^ 32
  let e := eid.toNat
  let bad := s.routeBad e v
  let u := if bad = 0 then s.routeWrite e v else s.fabEvent 0 0 9
  let pend := b2n (bad == 0 && (u.route e).testBit 25)
  (u.setReg Reg.RT_CMD (BitVec.ofNat 32 (2 ^ 30 + bad * 2 ^ 28 + pend * 2 ^ 27 + e)))

/-- The command RtWrite. -/
def execRtWrite (eid : BitVec 18) (s : State) : Result := finish s (s.cmdRtWrite eid)

/-- RT_READ (R344). -/
def State.cmdRtRead (eid : BitVec 18) (s : State) : State :=
  let v := s.route eid.toNat
  (((s.setReg Reg.RT_LO (BitVec.ofNat 32 v)).setReg Reg.RT_HI (BitVec.ofNat 32 (v / 2 ^ 32))).setReg Reg.RT_CMD
    (BitVec.ofNat 32 eid.toNat))

/-- The command RtRead. -/
def execRtRead (eid : BitVec 18) (s : State) : Result := finish s (s.cmdRtRead eid)

/-- The writable bits of a group header and of a target (R344). -/
def mcBits (hdr : Bool) (w : Word) : Nat :=
  if hdr then fld w 31 31 * 2 ^ 31 + fld w 29 24 * 2 ^ 24 + fld w 7 0 else fld w 17 0

def mcCmd (write : Bool) (group : Nat) (hdr : Bool) (index : Nat) : Word :=
  BitVec.ofNat 32 (b2n write * 2 ^ 30 + group * 2 ^ 16 + b2n hdr * 2 ^ 8 + index)

/-- MC_WRITE (R338, R344). -/
def State.cmdMcWrite (group : BitVec 10) (hdr : Bool) (index : Byte) (s : State) : State :=
  let g := group.toNat
  let v := mcBits hdr (s.reg Reg.MC_DATA)
  let u := s.setReg Reg.MC_CMD (mcCmd true g hdr index.toNat)
  (if hdr then { u with fab := { u.fab with mcHdr := tset 0 u.fab.mcHdr g v } }
    else { u with fab := { u.fab with mcDst := tset 0 u.fab.mcDst (g * 256 + index.toNat) v } })

/-- The command McWrite. -/
def execMcWrite (group : BitVec 10) (hdr : Bool) (index : Byte) (s : State) : Result := finish s (s.cmdMcWrite group hdr index)

/-- MC_READ (R344). -/
def State.cmdMcRead (group : BitVec 10) (hdr : Bool) (index : Byte) (s : State) : State :=
  let g := group.toNat
  let v := if hdr then s.mcHeader g else tget 0 s.fab.mcDst (g * 256 + index.toNat)
  ((s.setReg Reg.MC_DATA (BitVec.ofNat 32 v)).setReg Reg.MC_CMD (mcCmd false g hdr index.toNat))

/-- The command McRead. -/
def execMcRead (group : BitVec 10) (hdr : Bool) (index : Byte) (s : State) : Result := finish s (s.cmdMcRead group hdr index)

/-- HOME_AGENT_SERVE (R353): one operation; packets that waited for the queue then enter (R355). -/
def execHomeAgentServe (turn : HomeTurn) (s : State) : Result :=
  finish s (s.homeServe turn.agent.val turn.found).retryWaiting

end Sys2Proof.Machine
end

