-- ==== Sys2Proof/Machine/Phy.lean ====
section
/-! DEFINITION. What a port line carries (R294 to R296): Gray-mapped PAM4 levels, 64b/66b blocks with their headers and
scrambler, RS(544,514) codewords, and the frame control word in the trailers of the lanes. -/
namespace Sys2Proof.Machine

/-- The level of a bit pair, the bit sent first given first: 00, 01, 11 and 10 give 0, 1, 2 and 3 (R294). -/
def grayLevel (first second : Bool) : Nat :=
  match first, second with
  | false, false => 0
  | false, true => 1
  | true, true => 2
  | true, false => 3

/-- The levels of a sequence of bits, two bits a symbol. -/
def pamLevels : List Bool → List Nat
  | a :: b :: t => grayLevel a b :: pamLevels t
  | _ => []

/-- Symbol n of the forwarded clock: 0, 0, 3, 3, and again (R294). -/
def clockLevel (n : Nat) : Nat := if n % 4 < 2 then 0 else 3

/-- What a two-bit block header says (R294). -/
inductive BlockHead where
  | payload
  | codeword
  | invalid
  deriving DecidableEq, Repr

def blockHead (h : BitVec 2) : BlockHead := if h = 1 then .payload else if h = 2 then .codeword else .invalid

/-- The header's bits in the order sent. -/
def headBits (h : BitVec 2) : List Bool := [h.getLsbD 1, h.getLsbD 0]

/-- The scrambler x⁵⁸ + x³⁹ + 1: each bit sent is the payload's bit, the bit sent 39 bits before and that sent 58 bits
before, added. The state holds the last 58 bits sent, the latest lowest. -/
def scramble : Nat → List Bool → List Bool × Nat
  | st, [] => ([], st)
  | st, b :: t =>
    let o := (b != st.testBit 38) != st.testBit 57
    let r := scramble ((2 * st + b2n o) % 2 ^ 58) t
    (o :: r.1, r.2)

/-- The receiver's descrambler: it undoes the scrambler from the bits received alone. -/
def descramble : Nat → List Bool → List Bool × Nat
  | st, [] => ([], st)
  | st, o :: t =>
    let r := descramble ((2 * st + b2n o) % 2 ^ 58) t
    (((o != st.testBit 38) != st.testBit 57) :: r.1, r.2)

/-- Symbols of n bits, each least significant bit first, to bits. -/
def symbolBits (n : Nat) (l : List Nat) : List Bool := l.flatMap (fun x => (List.range n).map x.testBit)

/-- The list in pieces of n elements, given their number. -/
def pieces {α : Type} (n : Nat) : Nat → List α → List (List α)
  | 0, _ => []
  | k + 1, l => l.take n :: pieces n k (l.drop n)

/-- A number from its bits, least significant first. -/
def ofBits (l : List Bool) : Nat := l.foldr (fun b n => 2 * n + b2n b) 0

/-! RS(544,514) over GF(2¹⁰) with the code of IEEE 802.3 clause 91 (R295; PRESUMED, log 48): the field of
x¹⁰ + x³ + 1, and the generator polynomial with the roots α⁰ to α²⁹. -/

/-- Twice x in the field. -/
def gfDouble (x : Nat) : Nat := if 512 ≤ x then (2 * x) ^^^ 1033 else 2 * x

/-- The product in the field, over the low n bits of y. -/
def gfMulBits : Nat → Nat → Nat → Nat
  | 0, _, _ => 0
  | n + 1, x, y => (if y % 2 = 1 then x else 0) ^^^ gfMulBits n (gfDouble x) (y / 2)

def gfMul (x y : Nat) : Nat := gfMulBits 10 x y

/-- α to the n. -/
def gfPow : Nat → Nat
  | 0 => 1
  | n + 1 => gfDouble (gfPow n)

/-- A polynomial times (x + a), highest coefficient first. -/
def polyRoot (p : List Nat) (a : Nat) : List Nat := (p ++ [0]).zipWith (· ^^^ ·) (0 :: p.map (gfMul a))

/-- The generator polynomial, highest coefficient first. -/
def rsGenerator : List Nat := (List.range 30).foldl (fun p i => polyRoot p (gfPow i)) [1]

/-- The 30 parity symbols of a message, whose symbol 0 is the highest coefficient. -/
def rsParity (g : List Nat) (m : List Nat) : List Nat :=
  m.foldl (fun r s =>
    let f := s ^^^ r.headD 0
    ((r.drop 1) ++ [0]).zipWith (· ^^^ ·) ((g.drop 1).map (gfMul f))) (List.replicate 30 0)

/-- A codeword: message first (R295). -/
def rsCodeword (m : List Nat) : List Nat := m ++ rsParity rsGenerator m

/-! The frame control word and the lanes (R296). -/

/-- The frame control word. -/
def frameControl (f : LinkFrame) : Nat :=
  f.seq.toNat + b2n f.idle * 2 ^ 12 + b2n f.sleep * 2 ^ 13 + f.ack.toNat * 2 ^ 16 + b2n f.nak * 2 ^ 28 + f.mvLane.toNat * 2 ^ 32 +
  f.mvLine.toNat * 2 ^ 38 + f.mvAt.toNat * 2 ^ 44 + ((f.credit.take 10).zipIdx.foldl (fun n e => n + e.1.toNat * 2 ^ (64 + 9 * e.2)) 0) +
  (f.margin.take 36).zipIdx.foldl (fun n e => n + e.1.toNat * 2 ^ (160 + 4 * e.2)) 0

/-- The message of lane l: its 640 B of the link data and its trailer, in symbols of 10 bits. The link data fill lane
0 first (DESIGN CHOICE, log 48). -/
def laneMessage (data : Bytes) (fc l : Nat) : List Nat :=
  let bits := symbolBits 8 (((padTo (640 * (l + 1)) data).drop (640 * l)).take 640 |>.map (·.toNat)) ++ symbolBits 20 [fc / 2 ^ (20 * l) % 2 ^ 20]
  (pieces 10 514 bits).map ofBits

/-- The 85 blocks of a codeword on a line, as bits sent, and the scrambler after them: the first begins the
codeword. -/
def codewordBits (st : Nat) (symbols : List Nat) : List Bool × Nat :=
  (pieces 64 85 (symbolBits 10 symbols)).zipIdx.foldl (fun a e =>
    let r := scramble a.2 e.1
    (a.1 ++ headBits (if e.2 = 0 then 2 else 1) ++ r.1, r.2)) ([], st)

/-- Symbols of a line in one codeword period: 85 blocks of 66 bits. -/
def periodSymbols : Nat := 85 * 66 / 2

/-- PAD headers that fill what is left of n bytes (R319). -/
def padHeaders (n : Nat) : Bytes :=
  (List.replicate (n / 16) (headerBytes (sealHeader
    { dst := 0, src := 0, marked := false, chan := 0, op := 0, len := 0, seq := 0, ce := false, echo := false, last := false, fence := false,
      mc := false, epoch := 0, jobTag := 0, dl := false, addr := 0, hcrc := 0, payload := [] }))).flatten

/-- Bytes of a packet on a link. -/
def linkBytes (p : Packet) : Bytes := headerBytes p ++ padTo (64 * (p.len.toNat + 1)) p.payload

end Sys2Proof.Machine
end

