-- ==== Sys2Proof/Machine/Optics.lean ====
section
/-! DEFINITION. Ports, rings and lasers (10), and the loss of a quadrant's photonics (R260). -/
namespace Sys2Proof.Machine

/-- The port whose transmit light fibre F carries (R292). -/
def portOfFibre (f : Nat) : Option Nat :=
  if f % 16 < 4 then some (8 * (f / 32) + 2 * (f % 16) + f / 16 % 2) else none

/-- The fibre that feeds a port's transmit direction. -/
def fibreOfPort (p : Nat) : Nat := 16 * (2 * (p / 8) + p % 2) + p % 8 / 2

/-- The Loupe banks on a fibre (R292). -/
def banksOfFibre (f : Nat) : List Nat :=
  if f % 16 < 14 then []
  else
    let b := 8 * (f / 32) + 4 * (f / 16 % 2) + 2 * (f % 16 - 14)
    [b, b + 1]

/-- The presets P0 to P4 as (C−1, C+1) (R298). -/
def preset (n : Nat) : Option (Nat × Nat) := [(0, 0), (2, 4), (0, 6), (3, 8), (4, 12)][n]?

/-- The clock line of a direction: 35, else the highest good spare line (R298). -/
def clockLine (good : Nat → Bool) : Option Nat := [35, 34, 33, 32].find? good

/-- The lines that can take lanes, lowest first. -/
def laneLines (good : Nat → Bool) : List Nat :=
  (List.range 35).filter (fun j => good j && clockLine good != some j)

/-- Lanes of a direction: 32, 16, or none (R299). -/
def laneCount (good : Nat → Bool) : Nat :=
  let n := (laneLines good).length
  if (clockLine good).isNone then 0 else if 32 ≤ n then 32 else if 16 ≤ n then 16 else 0

/-- The role of line j (R318). -/
def lineRole (good : Nat → Bool) (j : Nat) : Nat :=
  if clockLine good = some j then 0x20
  else
    let l := laneLines good
    if !l.contains j then 0x22
    else
      let i := l.findIdx (· == j)
      if i < laneCount good then i else if laneCount good = 16 ∧ j < 32 then 0x23 else 0x21

namespace State

/-- An optical event; the first since all were clear is kept (R318). -/
def optEvent (s : State) (fibre line port i : Nat) : State :=
  s.raiseFirst Reg.OPT_EVT Reg.OPT_FIRST i (fibre * 2 ^ 24 + line * 2 ^ 16 + port * 2 ^ 8 + i)

/-! Port directions: tx true is the transmit direction. -/

def dirState (s : State) (p : Nat) (tx : Bool) : Nat := if tx then s.rf (Reg.PORT_STAT p) 31 29 else s.rf (Reg.PORT_STAT p) 27 25
def setDirState (s : State) (p : Nat) (tx : Bool) (n : Nat) : State :=
  if tx then s.wf (Reg.PORT_STAT p) 31 29 n else s.wf (Reg.PORT_STAT p) 27 25 n
def setHalf (s : State) (p : Nat) (tx : Bool) (n : Nat) : State :=
  if tx then s.wf (Reg.PORT_STAT p) 28 28 n else s.wf (Reg.PORT_STAT p) 24 24 n
def setSpares (s : State) (p : Nat) (tx : Bool) (n : Nat) : State :=
  if tx then s.wf (Reg.PORT_STAT p) 23 22 n else s.wf (Reg.PORT_STAT p) 21 20 n
def planeRoleAt (s : State) (p : Nat) (tx : Bool) (j : Nat) : Nat := if tx then s.rf (Reg.PLANE p j) 31 26 else s.rf (Reg.PLANE p j) 25 20
def setRole (s : State) (p : Nat) (tx : Bool) (j n : Nat) : State :=
  if tx then s.wf (Reg.PLANE p j) 31 26 n else s.wf (Reg.PLANE p j) 25 20 n

def spareLines (s : State) (p : Nat) (tx : Bool) : List Nat := (List.range 36).filter (fun j => s.planeRoleAt p tx j == 0x21)

/-- A port site's channels (R299): the Prism sends to the transmit direction. -/
def portChannels (s : State) (p : Nat) (tx : Bool) (n : Nat) : State := s.setSite (0x60 + p) (!tx) n

/-- A direction goes down (R299); packets queued for a transmit direction leave otherwise or come back (R343). -/
def dirDown (s : State) (p : Nat) (tx : Bool) : State :=
  if s.dirState p tx = 0 then s
  else
    let s := ((s.setDirState p tx 0).portChannels p tx 0).optEvent 0 0 p 7
    if tx then (s.setPort p { s.port p with txBuf := [], txMoves := [], sent := 0, resend := false, resends := 0, equalising := none, training := [], wakeIdle := 0 }).portLost p else s

/-- A direction takes its lanes on the good lines: active at full or half width, or down (R298, R299). -/
def setDir (s : State) (p : Nat) (tx : Bool) (good : Nat → Bool) : State :=
  let n := laneCount good
  let was := 1 < s.dirState p tx && bit (s.reg (Reg.PORT_STAT p)) (if tx then 28 else 24)
  if n = 0 then (s.setDirState p tx 1).dirDown p tx
  else
    let s := forEach (List.range 36) s (fun t j => t.setRole p tx j (lineRole good j))
    let s := ((s.setDirState p tx 2).setHalf p tx (b2n (n == 16))).setSpares p tx (min 3 (s.spareLines p tx).length)
    let s := s.portChannels p tx n
    if n = 16 ∧ !was then s.optEvent 0 0 p 6 else s

/-- Both kinds of line of a direction that carry or can carry a lane, but for line i. -/
def stillGood (s : State) (p : Nat) (tx : Bool) (i j : Nat) : Bool := j != i && s.planeRoleAt p tx j != 0x22

/-- A direction retrains with its taps, on the lines given (R299). -/
def retrain (s : State) (p : Nat) (tx : Bool) (good : Nat → Bool) : State :=
  if s.dirState p tx = 0 then s
  else ((s.addSat (Reg.PORT_STAT p) 15 0 1).optEvent 0 0 p 8).setDir p tx good

def lineRoleOf (s : State) (f i : Nat) : Nat := s.rf (Reg.LINE f i) 28 27
def laserOf (s : State) (f i : Nat) : Nat := s.rf (Reg.LINE f i) 31 29
def setLineRole (s : State) (f i n : Nat) : State := s.wf (Reg.LINE f i) 28 27 n
def setLaser (s : State) (f i n : Nat) : State := s.wf (Reg.LINE f i) 31 29 n
/-- A record of a line is committed, or waits, and NV_DEFERRED is the event (R317, R318). -/
def optNv (s : State) (f i : Nat) : State :=
  if s.inhibited then ({ s with nvDue := insertNat (Reg.LINE f i) s.nvDue }).optEvent f i 0x3F 12 else s.nvCommit (Reg.LINE f i)

/-! What waits for ports (R325, R337, R338). -/

/-- A packet that waited leaves under an entry, or comes back. -/
def leaveOr (s : State) (e : Nat) (q : Packet) : State :=
  match s.entryBad e q with
  | some st => if s.routeLocal q.src.toNat then s.bounced q st else s.refuseTransit 0 q st
  | none => s.leave e q

/-- Packets that found no adaptive port try again; one in transit meets the present entry anew (R329). -/
def retryAdapt (s : State) : State :=
  let w := s.fab.adapt
  if w.isEmpty then s
  else forEach w { s with fab := { s.fab with adapt := [] } } (fun t q =>
    if t.routeLocal q.src.toNat then t.leaveOr (t.route q.dst.toNat) q else t.forwardPacket 0 q)

/-- The oldest change of an entry whose old ports have let their packets go, or that has waited for 100 µs, releases what
waited for it (R337). -/
def releaseMove (s : State) (eid : Nat) : State :=
  match s.fab.moves.find? (fun m => m.eid == eid) with
  | none => s
  | some m =>
    if m.ports.any (fun p => (s.port p).queue.any (fun q => q.dst.toNat == eid)) ∧ s.dt - m.since < 180000 then s
    else
      let s := { s with fab := { s.fab with moves := s.fab.moves.erase m } }
      forEach m.waiting s (fun t q => t.leaveOr (m.entry.getD (t.route eid)) q)

def releaseMoves (s : State) : State := forEach (s.fab.moves.map (fun m => m.eid)) s (fun t e => t.releaseMove e)

def fabAdvance (s : State) : State := s.releaseMoves.retryAdapt.retryMulticast.flushAcks

/-- Packets that came back settle, units that waited for a flow and packets that waited for a home queue try again, and
acknowledgements that are due go out (R328, R330, R341, R355). -/
def fabTick (s : State) : State :=
  let s := s.deliverHome.settleBack
  let s := (if s.fab.send.length < 16384 then s.retryBlocked else s).retryWaiting
  s.releaseMoves.flushAcks

/-- Units of a receive buffer that the peer cannot use yet: those that wait there, those whose return is owed, and those
returned by frames that the peer has not acknowledged (R342). -/
def bufferTotal (s : State) (p b : Nat) : Nat :=
  tget 0 (s.port p).owed b +
  sumNat ((s.msf.waiting.filter (fun e => e.1 == p && bufferOf e.2 == b)).map (fun e => packetUnits e.2)) +
  sumNat ((s.port p).txBuf.map (fun h => (h.frame.credit.getD b 0).toNat))

/-- The totals that the peer reports at a retrain balance the sender's credits with them and the packets of frames that are
not acknowledged, or the port's credits fail (R342). -/
def auditTotals (s : State) (p : Nat) (totals : List Nat) : State :=
  let x := s.port p
  let begun := if 0 < x.sent then x.queue.take 1 else []
  let out := x.txBuf.flatMap (fun h => h.frame.packets) ++ begun
  let bad (e : Nat × Nat) : Bool :=
    let held := tget 0 x.credit e.2 + e.1
    let flying := sumNat ((out.filter (fun q => bufferOf q == e.2)).map packetUnits)
    bufferSize e.2 < held || held + flying < bufferSize e.2
  if (totals.take 10).zipIdx.any bad then s.creditFault p else s

/-! Training (R297 to R299). -/

/-- EQUALISE begins: every data and spare line starts at P1 (R298). -/
def startEqualise (s : State) (p : Nat) : State :=
  if (s.port p).equalising.isSome then s
  else forEach (List.range 35) (s.setPort p { s.port p with equalising := some s.dt, training := [] }) (fun t j =>
    (t.wf (Reg.PLANE p j) 7 4 2).wf (Reg.PLANE p j) 11 8 4)

def lineTrain (s : State) (p j : Nat) : LineTrain := tget LineTrain.reset (s.port p).training j
def setLineTrain (s : State) (p j : Nat) (x : LineTrain) : State :=
  s.setPort p { s.port p with training := tset LineTrain.reset (s.port p).training j x }

/-- A receive line whose equalisation has failed: it is not DONE after 2,048 requests or 10 ms (R298). -/
def lineFails (s : State) (p j : Nat) : Bool :=
  let x := s.lineTrain p j
  !x.done && (2048 ≤ x.sent && !x.waits || (s.port p).equalising.any (fun t => t + 18000000 ≤ s.dt))

/-- A full training of a port. A receive line that has begun to equalise must be DONE. Dark and retired lines of its own
light are failed lines (R317). -/
def train (s : State) (p : Nat) (t : PortTrain) : State :=
  if !s.domOn (quadDomain (p / 8)) then s
  else
    let f := fibreOfPort p
    let s := s.startEqualise p
    let x := s.port p
    let equalised (j : Nat) : Bool := let y := tget LineTrain.reset x.training j; y.done || y.sent == 0
    let s := s.setPort p (freshPort x.queue)
    ((s.setDir p true (fun j => t.txGood.getLsbD j && !s.lineOut f j)).setDir p false
      (fun j => t.rxGood.getLsbD j && equalised j)).fabAdvance

end State

/-- A tap after a request: its value and whether it was at a limit (R297, R298). -/
def tapAfter (op now top want : Nat) : Nat × Bool :=
  if op = 1 then (if now < top then (now + 1, false) else (now, true))
  else if op = 2 then (if 0 < now then (now - 1, false) else (now, true))
  else if op = 3 then (want, false)
  else (now, false)

namespace State

/-- The receiver's part of a block on line j: once the last request is answered the next one goes out, as the measurement of
the line asks (a free value), until it asks for no further change (R298). -/
def nextRequest (s : State) (p j : Nat) (b : Nat) : State :=
  let x := s.lineTrain p j
  let x := if nbits b 31 30 ≠ 0 ∧ nbits b 23 18 = x.id then { x with waits := false } else x
  if x.waits ∨ x.done ∨ s.lineFails p j then s.setLineTrain p j x
  else
    let r := Config.equaliser p j x.sent
    if r.2.2.2 then s.setLineTrain p j { x with ask := 0, done := true }
    else s.setLineTrain p j { x with ask := r.1 % 4 * 32 + r.2.1 % 4 * 8 + r.2.2.1 % 5, id := (x.id + 1) % 64, sent := x.sent + 1, waits := true }

/-- A training block: the transmitter applies its requests and echoes them, and the receiver's own requests go out with the
answer. A reserved preset changes nothing. The first block shows that the receiver has its lock, and EQUALISE begins; DESKEW
follows when every line is DONE or has failed (DESIGN CHOICE, log 48). -/
def trainBlock (s : State) (p : Nat) (b : Nat) : State :=
  let j := nbits b 55 50
  if 1 < s.dirState p true ∨ nbits b 63 56 ≠ 0xB5 ∨ 35 < j then s
  else
    let a := Reg.PLANE p j
    let s := (s.startEqualise p).nextRequest p j b
    let pre := s.rf a 7 4
    let post := s.rf a 11 8
    let o1 := nbits b 47 46
    let o2 := nbits b 45 44
    let set := preset (nbits b 43 41)
    let x := tapAfter o1 pre 8 ((set.map (·.1)).getD pre)
    let y := tapAfter o2 post 12 ((set.map (·.2)).getD post)
    let echo := if o1 = 0 ∧ o2 = 0 then 0 else if (o1 = 3 ∨ o2 = 3) ∧ set.isNone then 0
      else if x.2 ∨ y.2 then 2 else if o1 = 3 ∨ o2 = 3 then 3 else 1
    let s := (s.wf a 7 4 x.1).wf a 11 8 y.1
    let r := s.lineTrain p j
    let phase := if (List.range 35).all (fun i => (s.lineTrain p i).done || s.lineFails p i) then 2 else 1
    s.emit (.training p (BitVec.ofNat 64 (0xB5 * 2 ^ 56 + j * 2 ^ 50 + phase * 2 ^ 48 + r.ask * 2 ^ 41 + b2n r.done * 2 ^ 40 +
      x.1 * 2 ^ 36 + y.1 * 2 ^ 32 + echo * 2 ^ 30 + r.id * 2 ^ 24 + nbits b 29 24 * 2 ^ 18)))

/-! Link frames (R295, R296, R300, R301, R326). -/

end State

/-- The first packet that may start: its buffer has credits, and no earlier packet waits for that buffer. -/
def startable (x : PortState) : Option Packet :=
  (x.queue.zipIdx.find? (fun e => packetUnits e.1 ≤ creditFree x (bufferOf e.1) &&
    (x.queue.take e.2).all (fun q => bufferOf q != bufferOf e.1))).map (·.1)

/-- Packets fill room bytes of a frame, back to back; one that does not end goes on in the next (R319). -/
def fillFrame : Nat → PortState → Nat → List Packet → PortState × List Packet
  | 0, x, _, acc => (x, acc)
  | n + 1, x, room, acc =>
    if 0 < x.sent then
      match x.queue with
      | [] => ({ x with sent := 0 }, acc)
      | q :: r =>
        let left := packetBytes q - x.sent
        if left ≤ room then fillFrame n { x with queue := r, sent := 0 } (room - left) (acc ++ [q])
        else ({ x with sent := x.sent + room }, acc)
    else if room = 0 then (x, acc)
    else match startable x with
      | none => (x, acc)
      | some q =>
        let b := bufferOf q
        let x := { x with queue := x.queue.erase q, credit := tset 0 x.credit b (tget 0 x.credit b - packetUnits q) }
        let left := packetBytes q
        if left ≤ room then fillFrame n x (room - left) (acc ++ [q])
        else ({ x with queue := q :: x.queue, sent := room }, acc)

/-- The link data of a frame of n bytes: the packets that end in it, without what the first had sent before, what it
carries of the next, and PAD headers (R319). x and y: the port before and after. -/
def linkData (x y : PortState) (done : List Packet) (n : Nat) : Bytes :=
  let part := match y.queue with
    | q :: _ => if 0 < y.sent then (linkBytes q).take y.sent else []
    | [] => []
  let d := (done.flatMap linkBytes ++ part).drop x.sent
  d ++ padHeaders (n - d.length)

/-- Credits that one frame returns: at most 511 of each buffer. -/
def creditsOf (x : PortState) : List Nat := (List.range 10).map (fun b => min 511 (tget 0 x.owed b))

def payOwed (x : PortState) : PortState :=
  { x with owed := (List.range 10).foldl (fun t b => tset 0 t b (tget 0 t b - min 511 (tget 0 t b))) x.owed }

namespace State

/-- The frame control word of the next frame (R296). -/
def frameOf (s : State) (p : Nat) (x : PortState) (idle sleep : Bool) (packets : List Packet) : LinkFrame :=
  { seq := BitVec.ofNat 12 x.txSeq, idle := idle, sleep := sleep, ack := BitVec.ofNat 12 x.rxSeq, nak := x.nak,
    mvLane := BitVec.ofNat 6 ((x.txMoves.head?.map (·.lane)).getD 0x3F), mvLine := BitVec.ofNat 6 ((x.txMoves.head?.map (·.line)).getD 0),
    mvAt := BitVec.ofNat 12 ((x.txMoves.head?.map (·.at_)).getD 0), credit := (creditsOf x).map (BitVec.ofNat 9),
    margin := (List.range 36).map (fun j => BitVec.ofNat 4 (s.rf (Reg.PLANE p j) 19 16)), packets := packets }

/-- The levels of each line that carries n lanes of a frame and the clock, and the scramblers after it: a lane that moves
is on its new line as well, and a lit spare line carries idle data (R293, R294, R315). -/
def frameLines (s : State) (p n : Nat) (h : TxFrame) : List (Nat × List Nat) × Tbl (Option Nat) :=
  let x := s.port p
  let on (r : Nat) : List Nat := (List.range 36).filter (fun j => s.planeRoleAt p true j == r) ++
    (x.txMoves.take 1).filterMap (fun m => if m.lane = r then some m.line else none)
  let r := (List.range n).foldl (fun a l =>
    let seed := (tget none a.2 l).getD (Config.scrambler p l).toNat
    let c := codewordBits seed (rsCodeword (laneMessage h.data (frameControl h.frame) l))
    let levels := pamLevels c.1
    (a.1 ++ (on l).map (fun j => (j, levels)), tset none a.2 l (some c.2))) ([], x.scram)
  let clock := (on 0x20).map (fun j => (j, (List.range periodSymbols).map (fun i => clockLevel (x.clock + i))))
  let taken := r.1.map (·.1)
  let idle := ((List.range 36).filter (fun j => s.dirState p true == 2 && s.planeRoleAt p true j == 0x21 && !taken.contains j)).map
    (fun j => (j, (List.range periodSymbols).map (fun i => Config.idleLevel p j h.frame.seq.toNat i % 4)))
  (r.1 ++ clock ++ idle, r.2)

/-- A frame leaves on n lanes. -/
def putFrame (s : State) (p n : Nat) (h : TxFrame) : State :=
  let r := s.frameLines p n h
  (s.setPort p { s.port p with scram := r.2, clock := ((s.port p).clock + periodSymbols) % 4 }).emit (.frame p h.frame r.1)

/-- Lanes of a port's transmit direction. -/
def txLanes (s : State) (p : Nat) : Nat := if bit (s.reg (Reg.PORT_STAT p)) 28 then 16 else 32

/-- The link data of an IDLE frame are PAD headers (R319). -/
def idleData (s : State) (p : Nat) : Bytes := padHeaders (640 * s.txLanes p)

def sendIdle (s : State) (p : Nat) (sleep : Bool) : State :=
  let x := s.port p
  (s.setPort p (payOwed x)).putFrame p (s.txLanes p) ⟨s.frameOf p x true sleep [], s.idleData p⟩

/-- The keeper of a sleeping direction: lane 0 carries a copy of the frame control word (R302); the rest of its link data
is zero (DESIGN CHOICE, log 48). -/
def sendKeeper (s : State) (p : Nat) : State :=
  let x := s.port p
  let fr := s.frameOf p x true false []
  (s.setPort p (payOwed x)).putFrame p 1 ⟨fr, leBytes 40 (frameControl fr)⟩

/-- A direction that may send IDLE frames only: a lane must leave a dark line, or a forced swap is under way (R314,
R316). -/
def idleOnly (s : State) (p : Nat) : Bool :=
  (s.port p).txMoves.any (·.dark) ||
  s.opt.withheld.any (fun h => h.idle && h.fibre == fibreOfPort p && s.beat < h.until_)

/-- A lane takes its new line (R315). -/
def takeLine (s : State) (p : Nat) (tx : Bool) (m : LaneMove) : State :=
  let old := (List.range 36).filter (fun j => s.planeRoleAt p tx j == m.lane)
  let s := (forEach old s (fun t j => t.setRole p tx j 0x22)).setRole p tx m.line m.lane
  s.setSpares p tx (min 3 (s.spareLines p tx).length)

/-- The first move of a transmit direction is made, and the next one announced. -/
def moveTx (s : State) (p : Nat) : State :=
  let x := s.port p
  match x.txMoves with
  | [] => s
  | m :: r =>
    let r := match r with
      | [] => []
      | n :: q => { n with at_ := if n.dark then x.txSeq else (x.txSeq + 256) % 4096 } :: q
    (s.setPort p { x with txMoves := r }).takeLine p true m

def moveRx (s : State) (p : Nat) : State :=
  let x := s.port p
  match x.rxMove with
  | none => s
  | some m => (s.setPort p { x with rxMove := none }).takeLine p false m

/-- Frame MV_AT is the next, or has passed. -/
def moveDue (m : LaneMove) (seq : Nat) : Bool := (seq + 4096 - m.at_) % 4096 < 2048

/-- The frame that is sent next: one of the buffer again, a new one with the packets that may start, or IDLE. -/
def sendNext (s : State) (p : Nat) : State :=
  let x := s.port p
  let x := match x.resend, x.txBuf with
    | true, h :: _ => { x with txSeq := h.frame.seq.toNat, resends := x.resends + 1, resend := false }
    | _, _ => x
  match x.txBuf.find? (fun h => h.frame.seq.toNat == x.txSeq) with
  | some h =>
    let h := { h with frame := { h.frame with ack := BitVec.ofNat 12 x.rxSeq, nak := x.nak } }
    ((s.setPort p { x with txSeq := (x.txSeq + 1) % 4096 }).count (Reg.PORT_REPLAY p) 1).putFrame p (s.txLanes p) h
  | none =>
    let s := s.setPort p x
    if 64 ≤ x.txBuf.length then s.sendIdle p false
    else
      let room := 640 * s.txLanes p
      let r := fillFrame (x.queue.length + 1) x room []
      if r.2.isEmpty ∧ r.1.sent = x.sent then s.sendIdle p false
      else
        let y := r.1
        let h : TxFrame := ⟨s.frameOf p y false false r.2, linkData x y r.2 room⟩
        ((s.setPort p { payOwed y with txSeq := (y.txSeq + 1) % 4096, txBuf := y.txBuf ++ [h], sentBeat := s.beat }).putFrame p (s.txLanes p) h).fabAdvance

/-- The transmitter's next frame, on the new map where it is the first of it (R315). -/
def sendFrame (s : State) (p : Nat) : State :=
  if 0 < (s.port p).wakeIdle then (s.setPort p { s.port p with wakeIdle := (s.port p).wakeIdle - 1 }).sendIdle p false
  else if s.idleOnly p then s.sendIdle p false
  else
    let x := s.port p
    let s := if x.txMoves.head?.any (fun m => moveDue m x.txSeq) then s.moveTx p else s
    s.sendNext p

/-- Credits of a frame accepted in order. -/
def takeCredits (s : State) (p : Nat) (l : List (BitVec 9)) : State :=
  let x := s.port p
  let c := (l.take 10).zipIdx.foldl (fun t e => tset 0 t e.2 (tget 0 t e.2 + e.1.toNat)) x.credit
  let s := s.setPort p { x with credit := c }
  if (List.range 10).any (fun b => bufferSize b < tget 0 c b) then s.creditFault p else s

/-- ACK and NAK of a frame. A NAK counts once until every frame of the buffer has been sent again (log 29); an ACK
outside the window forces a retrain. -/
def takeAck (s : State) (p : Nat) (ack : Nat) (nak : Bool) : State :=
  let x := s.port p
  let first := (x.txBuf.head?.map (fun h => h.frame.seq.toNat)).getD x.txSeq
  let n := (ack + 1 + 4096 - first) % 4096
  if x.txBuf.length < n then s.setDirState p true 1
  else
    let buf := x.txBuf.drop n
    let behind := (ack + 4096 - x.txSeq) % 4096 < 2048
    let x : PortState := { x with txBuf := buf, txSeq := if behind then (ack + 1) % 4096 else x.txSeq, resends := if n = 0 then x.resends else 0 }
    let allSent := buf.all (fun h => h.frame.seq.toNat != x.txSeq)
    if nak ∧ !buf.isEmpty ∧ allSent then
      if 8 ≤ x.resends then ((s.setPort p { x with resends := 0 }).setDirState p true 1).optEvent 0 0 p 9
      else s.setPort p { x with resend := true }
    else s.setPort p x

/-- Block errors: 64 within 1 ms force a retrain (R294). -/
def noteHeads (s : State) (p n : Nat) : State :=
  if n = 0 then s
  else
    let l := (s.port p).headErrs.filter (fun e => s.dt < e.1 + 1800000) ++ [(s.dt, n)]
    if 64 ≤ sumNat (l.map (·.2)) then (s.setPort p { s.port p with headErrs := [] }).setDirState p false 1
    else s.setPort p { s.port p with headErrs := l }

/-- MARGIN of each line: the largest number of symbols corrected in one codeword over the last 1 ms, at most 15 (R296). -/
def notePeaks (s : State) (p : Nat) (symbols : List Nat) : State :=
  forEach (List.range 36) s (fun t j =>
    let n := min 15 (symbols.getD j 0)
    let old := (tget [] (t.port p).peaks j).filter (fun e => t.dt < e.1 + 1800000)
    let l := if n = 0 then old else old.filter (fun e => n < e.2) ++ [(t.dt, n)]
    (t.setPort p { t.port p with peaks := tset [] (t.port p).peaks j l }).wf (Reg.PLANE p j) 19 16 ((l.head?.map (·.2)).getD 0))

/-- A frame accepted in order. -/
def acceptFrame (s : State) (p : Nat) (fr : LinkFrame) : State :=
  let s := forEach (fr.margin.zipIdx.take 36) s (fun t e => t.wf (Reg.PLANE p e.2) 15 12 e.1.toNat)
  let s := s.setPort p { s.port p with rxSeq := if fr.idle then (s.port p).rxSeq else fr.seq.toNat, nak := false }
  let s := s.takeAck p fr.ack.toNat fr.nak
  let s := if !fr.idle ∧ (s.port p).rxMove.any (fun m => moveDue m fr.seq.toNat) then s.moveRx p else s
  let s := if fr.mvLane.toNat = 0x3F then s
    else s.setPort p { s.port p with rxMove := some ⟨fr.mvLane.toNat, fr.mvLine.toNat, fr.mvAt.toNat, false⟩ }
  let s := if fr.sleep then s.setDirState p false 3 else s
  let s := s.takeCredits p fr.credit
  (forEach (if fr.idle then [] else fr.packets) s (fun t q => t.receive p q)).fabAdvance

/-- A link frame arrives (R296, R301). A frame that is discarded has no effect but on the counts of its codewords. -/
def frameIn (s : State) (p : Nat) (fr : LinkFrame) (c : FrameCheck) : State :=
  let st := s.dirState p false
  let s := if st = 2 ∨ st = 3 then s.noteHeads p c.invalid else s
  if s.dirState p false ≠ 2 ∧ s.dirState p false ≠ 3 then s
  else
    let s := ((s.count (Reg.PORT_CORR p) c.corrected).count (Reg.PORT_UNCORR p) c.uncorrectable).notePeaks p c.symbols
    let x := s.port p
    let ahead := (fr.seq.toNat + 4096 - (x.rxSeq + 1) % 4096) % 4096
    if 0 < c.uncorrectable then s.setPort p { x with nak := true }
    else if ahead = 0 ∨ fr.idle ∧ !x.nak then s.acceptFrame p fr
    else if !x.nak ∧ ahead < 2048 then s.setPort p { x with nak := true }
    else s

/-! Sleep (R302, R303). -/

/-- A bound facet holds a grant to the port site that applies within the next 16 device beats. -/
def grantSoon (s : State) (p : Nat) : Bool :=
  (List.range 64).any (fun f => s.facetBound f && (s.kcs f).grants.any (fun g => g.dst == 0x60 + p &&
    [0, 1].any (fun i =>
      let at_ := (s.facet f).startBeat + 4096 * i + g.first
      inFrame g ((s.facet f).frame + i) && at_ ≤ s.beat + 16 && s.beat < at_ + g.beats)))

def maySleep (s : State) (p : Nat) : Bool :=
  let x := s.port p
  bit (s.hw Reg.OPT_CTL) 31 && s.dirState p true == 2 && x.txBuf.isEmpty && x.queue.isEmpty && x.sent == 0 &&
  x.sentBeat + max 16 (fld (s.hw Reg.OPT_CTL) 15 0) ≤ s.beat && !s.grantSoon p

def sleepTx (s : State) (p : Nat) : State :=
  (forEach (List.range 4) s (fun t _ => t.sendIdle p true)).setDirState p true 3

/-! Comb lines and their users (R292, R311 to R317). -/

/-- The users of a fibre's lines beside the ports: Prism buses, or Loupe banks. -/
def usersOf (f : Nat) : List Nat :=
  if f % 16 < 4 then [] else if f % 16 < 14 then (List.range 9).map (9 * f + ·) else (banksOfFibre f).map (2048 + ·)

/-- The site of a Prism bus loses, or gets back, n channels. -/
def busSpan (s : State) (k n : Nat) (back : Bool) : State :=
  match busSite (k / 9) (k % 9) with
  | some (code, out) => if back then s.addSite code out n else s.cutSite code out n
  | none => s

/-- User k of fibre f leaves line i for a spare line, or loses a channel, or a Loupe bank its service (R304, R315). From a
dark line a channel is withdrawn until it has moved, within 50 µs (R316); a Loupe wavelength takes its correction along
(R184). -/
def userLeaves (s : State) (f k i : Nat) (dark : Bool) : State :=
  match s.busChannel k i with
  | none => s
  | some c =>
    let b := (s.bus k).leave (s.goodLines f k) c
    let s := s.setBus k b
    if b.lost.contains c then
      let s := s.optEvent f i 0x3F 5
      if 2048 ≤ k then s.bankFails (k - 2048) else s.busSpan k 1 false
    else if 2048 ≤ k then s.lightMoves (k - 2048)
    else if dark then
      let s := s.busSpan k 1 false
      { s with opt := { s.opt with moving := s.opt.moving ++ [(k, s.beat + 352)] } }
    else s

/-- Channels whose move from a dark line is complete are back (R316). -/
def busMoves (s : State) : State :=
  let due := s.opt.moving.filter (fun e => e.2 ≤ s.beat)
  forEach due { s with opt := { s.opt with moving := s.opt.moving.filter (fun e => s.beat < e.2) } } (fun t e => t.busSpan e.1 1 true)

/-- The users of fibre f take the lines that its laser module gives them anew: all of them, or as many as there are good lines
for (R311). -/
def usersReturn (s : State) (f : Nat) : State :=
  forEach (usersOf f) s (fun t k =>
    let old := t.bus k
    let away := (t.opt.moving.filter (fun e => e.1 == k)).length + old.lost.length
    let good := t.goodLines f k
    let b := ((List.range 32).filter (fun c => !good.contains c)).foldl (fun b c => b.leave good c) { old with moved := [], lost := [] }
    let t := ({ t with opt := { t.opt with moving := t.opt.moving.filter (fun e => e.1 != k) } }).setBus k b
    if 2048 ≤ k then (if b.lost.isEmpty then t else t.bankFails (k - 2048))
    else if b.lost.length < away then t.busSpan k (away - b.lost.length) true
    else if away < b.lost.length then t.busSpan k (b.lost.length - away) false else t)

/-- The users of fibre f lose all their lines (R317). -/
def usersOut (s : State) (f : Nat) : State :=
  forEach (usersOf f) s (fun t k =>
    let n := 32 - ((t.bus k).lost.length + (t.opt.moving.filter (fun e => e.1 == k)).length)
    let t := ({ t with opt := { t.opt with moving := t.opt.moving.filter (fun e => e.1 != k) } }).setBus k { t.bus k with moved := [], lost := List.range 32 }
    if 2048 ≤ k then t.bankFails (k - 2048) else t.busSpan k n false)

/-- A port's transmit lane leaves line i: a spare line takes it over at a frame to come, a clock by a retrain; with no
spare left the direction drops (R315). -/
def laneLeaves (s : State) (f p i : Nat) : State :=
  if s.dirState p true < 2 then s
  else
    let dark := s.lineRoleOf f i == 3
    let r := s.planeRoleAt p true i
    let x := s.port p
    if r = 0x20 then s.retrain p true (s.stillGood p true i)
    else if 0x20 < r then
      let s := s.setRole p true i 0x22
      s.setSpares p true (min 3 (s.spareLines p true).length)
    else match (s.spareLines p true).find? (fun j => x.txMoves.all (fun m => m.line != j) && !s.lineOut f j) with
      | some j =>
        let at_ := if !x.txMoves.isEmpty then 4096 else if dark then x.txSeq else (x.txSeq + 256) % 4096
        s.setPort p { x with txMoves := x.txMoves ++ [⟨r, j, at_, dark⟩] }
      | none => (s.optEvent f i p 5).retrain p true (s.stillGood p true i)

/-- The users of line i of fibre F move to spare lines (R315, R316). -/
def usersLeave (s : State) (f i : Nat) (dark : Bool) : State :=
  match portOfFibre f with
  | some p => s.laneLeaves f p i
  | none => forEach (usersOf f) s (fun t k => t.userLeaves f k i dark)

/-- A line is retired (R315). -/
def retireLine (s : State) (f i : Nat) : State :=
  let t := (s.setLineRole f i 2).addSat Reg.OPT_STAT 28 16 1
  let t := (t.optNv f i).nvQuiet Reg.OPT_STAT
  (t.usersLeave f i false).optEvent f i 0x3F 3

/-- A line is dark (R316): its users move at once, and an unused cold spare is warmed. -/
def darkLine (s : State) (f i : Nat) : State :=
  let warm := s.laserOf f i ≤ 1 && (s.line (36 * f + i)).spareOk
  let s := if s.lineRoleOf f i = 2 then (s.wf Reg.OPT_STAT 28 16 (s.rf Reg.OPT_STAT 28 16 - 1)).nvQuiet Reg.OPT_STAT else s
  let t := (s.setLineRole f i 3).setLaser f i (if warm then 1 else 3)
  (t.usersLeave f i true).optEvent f i 0x3F 4

/-- A swap of some line of the fibre is in progress: its cold spare warms. -/
def swapping (s : State) (f : Nat) : Bool := (List.range 36).any (fun j => s.laserOf f j == 1 && s.lineRoleOf f j != 3)

/-- The 1 ms mean level of a line, in 0.01 dBm, against its commissioned level (R312). Of a retired line it can only become
dark. -/
def fade (s : State) (f i : Nat) (level : Int) (failed : Bool) : State :=
  let k := 36 * f + i
  let x := s.line k
  let rel := level - x.level
  if s.rf (Reg.LM_STAT (f / 16)) 31 29 ≠ 2 then s
  else
    let role := s.lineRoleOf f i
    let s := s.wf (Reg.LINE f i) 15 0 (rel % 65536).toNat
    let training : Bool := match portOfFibre f with
      | some p => s.dirState p true == 1
      | none => false
    let s := if 2 ≤ role then s
      else if rel ≤ -100 ∧ !x.warned then (s.setLine k { x with warned := true }).optEvent f i 0x3F 0
      else if -70 < rel ∧ x.warned then s.setLine k { x with warned := false } else s
    if role = 3 then s
    else if failed ∨ rel ≤ -600 then s.darkLine f i
    else if training ∨ role = 2 then s
    else if rel ≤ -300 ∧ (s.laserOf f i = 2 ∨ !x.spareOk) then (if s.swapping f then s else s.retireLine f i)
    else if rel ≤ -200 ∧ s.laserOf f i = 0 ∧ x.spareOk then s.setLaser f i 1
    else s

/-- The peer reports a MARGIN of at most 8 for a port's lane on the line (R313). -/
def marginOn (s : State) (f i : Nat) : Bool := match portOfFibre f with
  | some p => 0x20 < s.planeRoleAt p true i || s.rf (Reg.PLANE p i) 15 12 ≤ 8
  | none => true

/-! Rings (R305 to R308). -/

/-- The temperature band of a ring: an edge is left only 2 °C beyond it. Temperatures in m°C. -/
def ringBand (b : Nat) (t : Int) : Nat :=
  let up := if t < 50000 then 0 else if t ≤ 70000 then 1 else if t ≤ 90000 then 2 else 3
  let lo := [(-1000000 : Int), 48000, 68000, 88000].getD b 0
  let hi := [(52000 : Int), 72000, 92000, 1000000].getD b 0
  if lo ≤ t ∧ t ≤ hi then b else up

def ringKeyOf (f i user : Nat) (drop : Bool) : Nat := ((36 * f + i) * 16 + user) * 2 + b2n drop
def ringKey (r : RingId) : Nat := ringKeyOf r.fibre.val r.line.val r.user.val r.drop

/-- The rings on a line of a fibre's light: the modulators of a port, those and the drop filters of nine buses, and the
modulators of two Loupe banks (R292). -/
def ringsOn (f i : Nat) : List Nat :=
  if f % 16 < 4 then [ringKeyOf f i 0 false]
  else if f % 16 < 14 then (List.range 9).flatMap (fun w => [ringKeyOf f i w false, ringKeyOf f i w true])
  else (List.range 16).map (fun u => ringKeyOf f i u false)

/-- A receive ring of a port: it stands on the peer's light. -/
def receiveRing (r : RingId) : Bool := r.fibre.val % 16 < 4 && r.drop

/-- A failed ring: its user moves to a spare line (R307). A port's receive direction moves its lane by a retrain, since the
peer sends the announcements (DESIGN CHOICE, log 51). -/
def ringFails (s : State) (r : RingId) : State :=
  let f := r.fibre.val
  let i := r.line.val
  let s := s.optEvent f i 0x3F 10
  match portOfFibre f with
  | some p =>
    if !r.drop then s.laneLeaves f p i
    else if s.planeRoleAt p false i ≤ 0x20 then s.retrain p false (s.stillGood p false i)
    else
      let s := s.setRole p false i 0x22
      s.setSpares p false (min 3 (s.spareLines p false).length)
  | none =>
    let k := if f % 16 < 14 then 9 * f + r.user.val % 9 else 2048 + (banksOfFibre f).getD (r.user.val % 2) 0
    (s.setBus k { s.bus k with bad := insertNat i (s.bus k).bad }).userLeaves f k i false

/-- A ring on a dark line of a sleeping direction: every line but the keeper's and the clock's (R302, R307). -/
def ringDark (s : State) (r : RingId) : Bool := match portOfFibre r.fibre.val with
  | some p =>
    let role := s.planeRoleAt p (!r.drop) r.line.val
    s.dirState p (!r.drop) == 3 && role != 0 && role != 0x20
  | none => false

/-- Every user of the ring is idle: its port direction has nothing to send, or sleeps, or its bus's site has no grant in this
beat and owes nothing, or its Loupe bank runs no job (R305; log 51). -/
def ringIdle (s : State) (r : RingId) : Bool :=
  let f := r.fibre.val
  match portOfFibre f with
  | some p => if r.drop then s.dirState p false == 3
    else s.dirState p true == 3 || ((s.port p).queue.isEmpty && (s.port p).txBuf.isEmpty && (s.port p).sent == 0)
  | none =>
    if 14 ≤ f % 16 then (banksOfFibre f).all (fun b => s.bankStateOf b != 3 && (s.bank b).heldUntil ≤ s.dt)
    else match busSite f (r.user.val % 9) with
      | none => true
      | some (code, _) => s.beatGrants.all (fun g => g.2.src != code && g.2.dst != code) &&
        s.prism.owed.all (fun o => o.src != code && o.dst != code)

end State

/-- The coefficients of a band, of the nominal table where there is no record (R308). key: the ring's. -/
def RingState.coefs (x : RingState) (key : Nat) : Int × Int := (tget none x.coef x.band).getD (Config.nominalRing key x.band)

/-- The heater's table value at t m°C (R305). -/
def RingState.table (x : RingState) (key : Nat) (t : Int) : Int :=
  let c := x.coefs key
  c.1 * t / 1000000 + c.2

/-- The new band takes effect. -/
def RingState.takeBand (x : RingState) : RingState :=
  match x.bandDue with
  | some (b, _) => { x with band := b, bandDue := none }
  | none => x

/-- Coefficients with those of the list in them, oldest first. -/
def putCoefs (t : Tbl (Option (Int × Int))) (l : List RingDue) : Tbl (Option (Int × Int)) :=
  l.foldl (fun t c => tset none t c.band (some (c.slope, c.intercept))) t

/-- The band and the coefficients that fell due before device frame n take effect; the lock then starts from the new table
value (R305, R308). -/
def RingState.settle (x : RingState) (n : Nat) : RingState :=
  let x := if x.bandDue.any (fun e => e.2 < n) then x.takeBand else x
  let now := x.coefDue.filter (fun c => c.frame < n)
  if now.isEmpty then x
  else { x with coef := putCoefs x.coef now, coefDue := x.coefDue.filter (fun c => n ≤ c.frame), offset := 0 }

/-- The reading t, in m°C, asks for a band: the change falls due at the next device frame boundary. -/
def RingState.chooseBand (x : RingState) (t : Int) (n : Nat) : RingState :=
  let b := State.ringBand x.band t
  if b = x.band then { x with bandDue := none }
  else if x.bandDue.any (fun e => e.1 == b) then x else { x with bandDue := some (b, n) }

/-- The bytes of a ring's record as its check word covers them. -/
def recordBytes (t : Tbl (Option (Int × Int))) : Bytes :=
  t.flatMap (fun e => match e.2 with
    | some c => [BitVec.ofNat 8 e.1] ++ leBytes 4 (c.1 % 2 ^ 32).toNat ++ leBytes 4 (c.2 % 2 ^ 32).toNat
    | none => [])

/-- The coefficients in force and those due are in the store, with their check word (R308). -/
def RingState.storeCoefs (x : RingState) : RingState :=
  let t := putCoefs x.coef x.coefDue
  { x with stored := t, crc := crc32c (recordBytes t), storeDue := false }

/-- A lock offset joins the history: once a second its mean is taken (R308). -/
def RingHistory.note (h : RingHistory) (offset : Int) (dt : Nat) : RingHistory :=
  let sum := h.sum + offset
  if h.since + 1800000000 ≤ dt then { h with sum := 0, n := 0, since := dt, mean := sum / (h.n + 1 : Nat) }
  else { h with sum := sum, n := h.n + 1 }

/-- The sign of a number. -/
def signOf (n : Int) : Int := if 0 < n then 1 else if n < 0 then -1 else 0

/-- One step of the lock (R306): a drop filter towards the highest mean, a modulator towards its training mean. -/
def steer (drop : Bool) (l : RingLevel) : Int := signOf (if drop then l.rise else (1000 - (l.mean : Int)) * l.rise)

/-- The step of 64 codes towards the table value, which it does not pass. -/
def towardTable (offset : Int) : Int := if 0 < offset then -(min 64 offset) else min 64 (-offset)

namespace State

/-- The last reading of a quadrant's temperature, in m°C. -/
def quadTemp (s : State) (q : Nat) : Int := (tget Sensor.reset s.sys.thm.sensors (512 + q)).last

/-- One 10 µs window of a ring: its level, and its transition density in hundredths. A false lock steps 64 codes towards the
table value and searches again; rings that are not tracked hold their table setting (R302, R305 to R307). -/
def tune (s : State) (r : RingId) (l : RingLevel) (density : Nat) : State :=
  let k := ringKey r
  let t := s.quadTemp (r.fibre.val / 32)
  let x := ((s.ring k).settle s.devFrame).chooseBand t s.devFrame
  let x := if s.ringIdle r then x.takeBand else x
  let shift := if receiveRing r then 0 else (s.line (36 * r.fibre.val + r.line.val)).shift
  if x.failed ∨ (!receiveRing r && s.lineOut r.fibre.val r.line.val) ∨ s.ringDark r then
    s.setRing k { x with offset := 0, heater := x.table k t + shift }
  else
    let ok := 70 ≤ density && density ≤ 80
    let off := x.offset + (if ok ∨ x.offset = 0 then steer r.drop l else towardTable x.offset)
    let bad := if ok then 0 else x.falseFor + 1
    if off < -250 ∨ 250 < off ∨ 100 ≤ bad then
      (s.setRing k { x with failed := true, falseFor := bad, offset := 0, heater := x.table k t + shift }).ringFails r
    else s.setRing k { x with offset := off, falseFor := bad, heater := x.table k t + shift + off, hist := x.hist.note off s.dt }

/-- The rings on a line take the heater offsets of its light (R313), with a change of band that is due (R317). -/
def lineRings (s : State) (f i : Nat) : State :=
  forEach (ringsOn f i) s (fun t k =>
    let x := (t.ring k).settle t.devFrame
    t.setRing k { x with heater := x.table k (t.quadTemp (f / 32)) + (t.line (36 * f + i)).shift + x.offset })

/-- Firmware re-calibrates: the mean lock offset over 1 s exceeds 8 codes, 24 h have passed, or the record is to be rebuilt
(R308). -/
def recalDue (s : State) (k : Nat) : Bool :=
  let h := (s.ring k).hist
  8 < h.mean || h.mean < -8 || h.calAt + 155520000000000 ≤ s.dt || h.rebuild

/-- New coefficients of a band, which take effect at the next device frame boundary; their record waits below 39.0 V
(R308). -/
def recal (s : State) (r : RingId) (band : Nat) (slope intercept : Int) : State :=
  let k := ringKey r
  if !s.recalDue k then s
  else
    let x := (s.ring k).settle s.devFrame
    let x := { x with coefDue := x.coefDue ++ [RingDue.mk band slope intercept s.devFrame]
                      hist := { x.hist with mean := 0, calAt := s.dt, rebuild := false } }
    if s.inhibited then (s.setRing k { x with storeDue := true }).optEvent r.fibre.val r.line.val 0x3F 12
    else s.setRing k x.storeCoefs

/-- Records that fail their check at power-on: the rings run on the nominal table until their records are rebuilt (R308). -/
def ringCheck (s : State) (l : List RingId) : State :=
  forEach l s (fun t r => t.setRing (ringKey r) { RingState.reset with failed := (t.ring (ringKey r)).failed, hist := { RingState.reset.hist with rebuild := true } })

/-- The heater offset of a ring for a light that differs by mhz: one code is about 0.4 GHz (R306, R313). -/
def heaterShift (mhz : Int) : Int := mhz / 400

/-- The cold spare is warm, its frequency offset is read, and the margin has been checked (R313, R314); a dark line returns
as a spare line of every user (R316). -/
def warm (s : State) (f i : Nat) (w : WarmSpare) : State :=
  let k := 36 * f + i
  let x := { s.line k with ahead := heaterShift w.offset }
  if s.laserOf f i ≠ 1 then s
  else if s.lineRoleOf f i = 3 then
    let t := ((s.setLaser f i 2).setLineRole f i 1).addSat (Reg.LM_STAT (f / 16)) 28 19 1
    let t := (t.setLine k { x with shift := x.ahead }).optNv f i
    match portOfFibre f with
    | some p => if 2 ≤ t.dirState p true then
        let t := if t.planeRoleAt p true i = 0x22 then t.setRole p true i 0x21 else t
        t.setSpares p true (min 3 (t.spareLines p true).length) else t
    | none => t
  else if !w.uncorrectable && !w.resent && s.marginOn f i then s.setLine k { x with ready := true }
  else s.setLine k { x with tries := x.tries + 1 }

/-- The swap of a line may proceed. -/
def swapDue (s : State) (f i : Nat) (forced : Bool) : Bool :=
  let x := s.line (36 * f + i)
  s.laserOf f i == 1 && s.lineRoleOf f i != 3 && (if forced then 64 ≤ x.tries else x.ready)

/-- The line's output switches to its cold spare at a device frame boundary; lines of one fibre in line order. Its Prism
channels are withheld for 8 beats, Loupe banks on it pause for as long, and its rings take the new heater offsets, for a band
that changes with it (R313, R317). -/
def swapLine (s : State) (f i : Nat) (forced : Bool) : State :=
  let k := 36 * f + i
  let x := s.line k
  let first := (List.range i).all (fun j => !s.swapDue f j false && !s.swapDue f j true)
  if !s.swapDue f i forced ∨ !first then s
  else
    let s := (s.setLine k { x with ready := false, tries := 0, shift := x.ahead }).setLaser f i 2
    let s := (s.addSat (Reg.LM_STAT (f / 16)) 28 19 1).optNv f i
    let s := forEach (banksOfFibre f) s (fun t b => t.lightMoves b)
    let s := s.lineRings f i
    let kept := s.opt.withheld.filter (fun (h : Withheld) => s.beat < h.until_)
    let s : State := { s with opt := { s.opt with withheld := kept ++ [Withheld.mk f none i (s.beat + 8) forced] } }
    let s := if forced then s.optEvent f i 0x3F 2 else s
    s.optEvent f i 0x3F 1

/-- The frame MV_AT has come, a lane leaves a dark line, or the direction sleeps: a lane is on its new line (R315 to
R317). -/
def moveLane (s : State) (p : Nat) (tx : Bool) : State :=
  let x := s.port p
  let asleep := s.dirState p tx == 3
  if tx then (if x.txMoves.head?.any (fun m => m.dark || asleep || moveDue m x.txSeq) then s.moveTx p else s)
  else if x.rxMove.any (fun m => asleep || moveDue m (x.rxSeq + 1)) then s.moveRx p else s

/-- Fibres of a laser module. -/
def lmFibres (m : Nat) : List Nat := (List.range 16).map (fun j => 16 * m + j)

def retiredOn (s : State) (m : Nat) : Nat :=
  sumNat ((lmFibres m).map (fun f => ((List.range 36).filter (fun i => s.lineRoleOf f i == 2)).length))

/-- The levels stored for a laser module, as its check word covers them (R311). -/
def levelBytes (s : State) (m : Nat) : Bytes :=
  (List.range 576).flatMap (fun n => leBytes 2 ((s.line (576 * m + n)).level % 65536).toNat)

/-- Commissioning (R311): levels in 0.01 dBm; a primary below +8.0 dBm runs on its cold spare, or the line is
retired. -/
def commission (s : State) (m : Nat) (l : LmLevels) : State :=
  let was := s.retiredOn m
  let t := forEach (List.range 576) s (fun t n =>
    let f := 16 * m + n / 36
    let i := n % 36
    let a := Reg.LINE f i
    let p := l.primary.getD n 0
    let c := l.spare.getD n 0
    let good := 800 ≤ p
    let cold := !good && 800 ≤ c
    let spareLine := if f % 16 < 4 then 32 ≤ i ∧ i < 35 else 32 ≤ i
    let t := (t.setLaser f i (if cold then 2 else 0)).setLineRole f i (if !good && !cold then 2 else if spareLine then 1 else 0)
    let t := (t.wf a 15 0 0).setLine (36 * f + i) ⟨if cold then c else p, decide (800 ≤ c), false, 0, false, 0, 0⟩
    if good ∨ cold then t else t.optEvent f i 0x3F 3)
  let now := t.retiredOn m
  let used := sumNat ((lmFibres m).map (fun f => ((List.range 36).filter (fun i => t.laserOf f i == 2)).length))
  let t := t.wf Reg.OPT_STAT 28 16 (t.rf Reg.OPT_STAT 28 16 + now - was)
  let t := (t.wf (Reg.LM_STAT m) 31 29 2).wf (Reg.LM_STAT m) 28 19 used
  let t := { t with opt := { t.opt with serials := tset none t.opt.serials m (some l.serial.toNat)
                                        levelsCrc := tset 0 t.opt.levelsCrc m (crc32c (t.levelBytes m)) } }
  let t := forEach (List.range 576) t (fun u n => u.nvQuiet (Reg.LINE (16 * m + n / 36) (n % 36)))
  let t := ((t.nvQuiet Reg.OPT_STAT).nvQuiet (Reg.LM_STAT m))
  let t := if t.inhibited then t.optEvent 0 0 0x3F 12 else t
  let t := forEach (lmFibres m) t (fun u f => match portOfFibre f with
    | some p => forEach ((List.range 36).filter (fun i => !s.lineOut f i && u.lineOut f i)) u (fun v i => v.laneLeaves f p i)
    | none => u.usersReturn f)
  t.wf Reg.LM_CMD 31 31 0

/-- A laser module is removed: its lines are dark at once, and ports that it lights go down (R317). -/
def lmOut (s : State) (m : Nat) : State :=
  let t := forEach (List.range 576) s (fun t n =>
    let f := 16 * m + n / 36
    let i := n % 36
    let t := t.setLaser f i 3
    if t.lineRoleOf f i = 2 then t else t.setLineRole f i 3)
  let t := forEach (lmFibres m) t (fun u f =>
    match portOfFibre f with
    | some p => u.dirDown p true
    | none => u.usersOut f)
  (t.wf (Reg.LM_STAT m) 31 29 0).optEvent (16 * m) 0 0x3F 4

/-- A laser module is there: one with the serial number recorded is in service with the lines that the store gives it, and
another is commissioned (R311). -/
def lmIn (s : State) (m : Nat) (l : LmLevels) : State :=
  let s := s.wf Reg.OPT_STAT m m 1
  if tget none s.opt.serials m = some l.serial.toNat then
    let load (t : State) (a : Nat) : State :=
      t.setReg a ((t.reg a &&& ~~~(nvMask a)) ||| tget (resetValue a &&& nvMask a) t.nv a)
    let t := forEach (List.range 576) s (fun t n =>
      let a := Reg.LINE (16 * m + n / 36) (n % 36)
      if t.nvDue.contains a then t else load t a)
    forEach (lmFibres m) (t.wf (Reg.LM_STAT m) 31 29 2) (fun u f => u.usersReturn f)
  else (s.wf (Reg.LM_STAT m) 31 29 1).commission m l

/-- A laser module is removed or inserted (R317). -/
def lmChanges (s : State) (m : Nat) (x : Option LmLevels) : State :=
  if bit (s.reg Reg.OPT_STAT) m = x.isSome then s
  else
    let s := s.optEvent (16 * m) 0 0x3F 11
    match x with
    | some l => s.lmIn m l
    | none => (s.wf Reg.OPT_STAT m m 0).lmOut m

/-- The laser modules that are there at start-up (R311). -/
def lmStart (s : State) (l : List (Option LmLevels)) : State :=
  forEach (l.zipIdx.take 8) s (fun t e => match e.1 with
    | some x => t.lmIn e.2 x
    | none => t)

/-- A flit fails its check code on a channel of a Prism bus (R304): the channel carries nothing more in this beat while it is
sent again; a line that fails is given up by that bus alone. -/
def channelResend (s : State) (f way i : Nat) (x : ChannelResend) : State :=
  if f % 16 < 4 ∨ 14 ≤ f % 16 then s
  else
    let k := 9 * f + way
    let e := tget (0, 0) s.opt.errors (36 * k + i)
    let n := (if e.1 = s.devFrame then e.2 else 0) + x.errors
    let kept := s.opt.withheld.filter (fun (h : Withheld) => s.beat < h.until_)
    let s := { s with opt := { s.opt with errors := tset (0, 0) s.opt.errors (36 * k + i) (s.devFrame, n),
                                          withheld := kept ++ [Withheld.mk f (some way) i (s.beat + 1) false] } }
    if 16 < n ∨ x.fails = 8 ∨ !x.locked then
      (s.setBus k { s.bus k with bad := insertNat i (s.bus k).bad }).userLeaves f k i false
    else s

/-! The loss of a quadrant (R260). -/

/-- The photonics of quadrant q are off: facets that hold something there stop, domains above go off, guests and
ports of the quadrant are down. -/
def quadOff (s : State) (q : Nat) (fault : Bool) : State :=
  let hit := s.quadFacets q
  let s := forEach hit s (fun t f => t.faultStop f)
  let s := s.domFall (quadDomain q) fault
  let s := if q = 1 then s.guestOff 0 else if q = 3 then s.guestOff 1 else s
  forEach (List.range 8) s (fun t i => (t.dirDown (8 * q + i) true).dirDown (8 * q + i) false)

end State

/-- QUADRANT_FAIL (R260): quadrant 0 holds the service die's attach. -/
def execQuadrantFail (q : Fin 4) (s : State) : Result :=
  finish s (if s.domOn (quadDomain q.val) then
    let t := s.quadOff q.val true
    if q.val = 0 then t.moduleReset else t
  else s)

/-- PORT_TRAINING (R297 to R299). -/
def execPortTraining (p : Fin 32) (t : PortTrain) (s : State) : Result := finish s (s.train p.val t)

/-- TRAINING_BLOCK (R297, R298). -/
def execTrainingBlock (p : Fin 32) (payload : BitVec 64) (s : State) : Result := finish s (s.trainBlock p.val payload.toNat)

/-- RETRAIN (R299, R342): the totals are exchanged. -/
def execRetrain (p : Fin 32) (tx : Bool) (x : RetrainEnd) (s : State) : Result :=
  finish s (
    let t := s.retrain p.val tx (fun j => x.good.getLsbD j && !(tx && s.lineOut (fibreOfPort p.val) j))
    let t := if s.dirState p.val tx = 0 then t else if tx then t.auditTotals p.val x.totals
      else t.emit (.totals p.val ((List.range 10).map (t.bufferTotal p.val)))
    t.fabAdvance)

/-- PORT_DOWN (R299, R343). -/
def execPortDown (p : Fin 32) (tx : Bool) (s : State) : Result := finish s (s.dirDown p.val tx).fabAdvance

/-- LINK_FRAME (R295, R296, R301). -/
def execLinkFrame (p : Fin 32) (fr : LinkFrame) (check : FrameCheck) (s : State) : Result := finish s (s.frameIn p.val fr check)

/-- LINK_FRAME_SEND (R296, R300, R302): a sleeping direction sends its keeper. -/
def execLinkFrameSend (p : Fin 32) (s : State) : Result :=
  finish s (if s.dirState p.val true = 2 then s.sendFrame p.val else if s.dirState p.val true = 3 then s.sendKeeper p.val else s)

/-- SLEEP (R302). -/
def execSleep (p : Fin 32) (s : State) : Result := finish s (if s.maySleep p.val then s.sleepTx p.val else s)

/-- WAKE (R303): a transmit direction wakes while a packet waits or a grant is near, and begins with IDLE frames, two of
them (DESIGN CHOICE, log 48); a direction that the receiver cannot decode within 4 µs trains again. -/
def execWake (p : Fin 32) (tx : Bool) (decoded : Bool) (s : State) : Result :=
  finish s (
    let x := s.port p.val
    if s.dirState p.val tx ≠ 3 ∨ tx ∧ x.queue.isEmpty ∧ !s.grantSoon p.val then s
    else
      let t := if tx then s.setPort p.val { x with wakeIdle := 2 } else s
      t.setDirState p.val tx (if decoded then 2 else 1))

/-- PRISM_CHANNEL_RESEND (R304). -/
def execPrismChannelResend (fibre : Fin 128) (way : Fin 9) (line : Fin 36) (x : ChannelResend) (s : State) : Result :=
  finish s (s.channelResend fibre.val way.val line.val x)

/-- RING_TUNE (R305 to R307). -/
def execRingTune (ring : RingId) (level : RingLevel) (density : Nat) (s : State) : Result := finish s (s.tune ring level density)

/-- RING_RECAL (R308). -/
def execRingRecal (c : RingCal) (s : State) : Result :=
  finish s (s.recal c.ring c.band.val c.slope c.intercept)

/-- LM_CMD (R311): a module that is present is commissioned. -/
def execLmCmd (m : Fin 8) (levels : LmLevels) (s : State) : Result :=
  finish s (if bit (s.reg Reg.OPT_STAT) m.val then s.commission m.val levels else s.wf Reg.LM_CMD 31 31 0)

/-- FADE_CHECK (R312). -/
def execFadeCheck (fibre : Fin 128) (line : Fin 36) (level : Int) (failed : Bool) (s : State) : Result :=
  finish s (s.fade fibre.val line.val level failed)

/-- SPARE_WARM (R313, R314, R316). -/
def execSpareWarm (fibre : Fin 128) (line : Fin 36) (x : WarmSpare) (s : State) : Result :=
  finish s (s.warm fibre.val line.val x)

/-- SWAP (R313). -/
def execSwap (fibre : Fin 128) (line : Fin 36) (s : State) : Result := finish s (s.swapLine fibre.val line.val false)

/-- SWAP_FORCED (R314). -/
def execSwapForced (fibre : Fin 128) (line : Fin 36) (s : State) : Result := finish s (s.swapLine fibre.val line.val true)

/-- LANE_MOVE (R315). -/
def execLaneMove (p : Fin 32) (tx : Bool) (s : State) : Result := finish s (s.moveLane p.val tx)

/-- LM_CHANGE (R311, R317). -/
def execLmChange (m : Fin 8) (present : Option LmLevels) (s : State) : Result := finish s (s.lmChanges m.val present)

end Sys2Proof.Machine
end

