-- ==== Sys2Proof/Machine/Power.lean ====
section
/-! DEFINITION. Supply, cap, switched domains and the shut-down sequence (14): R405 to R417. -/
namespace Sys2Proof.Machine

namespace State

def setPwr (s : State) (x : PwrState) : State := { s with sys := { s.sys with pwr := x } }

/-- A power event; the first since all were clear is kept (R430). -/
def pwrEvent (s : State) (idx i : Nat) : State := s.raiseFirst Reg.PWR_EVT Reg.PWR_FIRST i (idx * 2 ^ 8 + i)

/-- PWR_STAT.STATE: 0 starting, 1 running, 2 write inhibit, 4 to 6 off. -/
def pwrState (s : State) : Nat := s.rf Reg.PWR_STAT 31 29
def setPwrState (s : State) (n : Nat) : State := s.wf Reg.PWR_STAT 31 29 n
def isOff (s : State) : Bool := 4 ≤ s.pwrState

/-- A bit of the always-on record (R412), which PWR_EVT shows. -/
def recordEvent (s : State) (i : Nat) : State :=
  (s.setPwr { s.sys.pwr with record := s.sys.pwr.record ||| bitW i }).pwrEvent 0 i

/-! The cap (R408, R414). -/

def phasesRunning (s : State) : Nat := 8 - s.sys.pwr.badPhases.length

/-- The limit that the running phases set, in W. -/
def phaseLimit (s : State) : Nat :=
  let n := s.phasesRunning
  if 7 ≤ n then 7200 else if n = 6 then 6300 else 5400

/-- The cap in force: the lower of PWR_CAP, held within 3,000 to 7,200, and the phase limit. -/
def capForce (s : State) : Nat := min (max 3000 (min 7200 (fld (s.hw Reg.PWR_CAP) 12 0))) s.phaseLimit

def showCap (s : State) : State := s.wf Reg.PWR_STAT 12 0 s.capForce
def capStage (s : State) : Nat := s.rf Reg.PWR_STAT 19 16

/-- Every region runs at the larger of its thermal stage and the cap stage (R414, R429). -/
def restage (s : State) : State :=
  forEach (List.range 64) s (fun t r => t.wf (Reg.THM_RS r) 31 28 (max (t.rf (Reg.THM_RS r) 27 24) t.capStage))

/-- The cap stage takes a new value; CAP is raised when it leaves 0. -/
def setCapStage (s : State) (n : Nat) : State :=
  let old := s.capStage
  let s := s.wf Reg.PWR_STAT 19 16 n
  (if old = 0 ∧ n ≠ 0 then s.pwrEvent 0 8 else s).restage

/-- The 1 ms mean after 100 µs above the cap, or after 1 ms below 95 % of it. -/
def capSample (s : State) (mean : Nat) (above : Bool) : State :=
  let s := s.wf Reg.PWR_IN 15 0 (min 65535 mean)
  let s := s.wf Reg.PWR_IN 31 16 (max (s.rf Reg.PWR_IN 31 16) (min 65535 mean))
  let cap := s.capForce
  if above ∧ cap < mean then s.setCapStage (min 8 (s.capStage + 1))
  else if !above ∧ mean * 100 < cap * 95 then s.setCapStage (s.capStage - 1)
  else s

/-- Input current, in 0.1 A, held for 50 µs, and input voltage, in 10 mV. -/
def currentSample (s : State) (deciAmps centiVolts : Nat) : State :=
  let s := (s.wf Reg.PWR_MEAS 31 16 (min 65535 deciAmps)).wf Reg.PWR_MEAS 15 0 (min 65535 centiVolts)
  if 1900 < deciAmps then (s.setCapStage 8).pwrEvent 0 9 else s

/-! Every domain off (R409, R411). -/

/-- The switched domains go off, the highest first: halves, middle layers, stacks, quadrants. -/
def offAll (s : State) (fault : Bool) : State :=
  let s := forEach (List.range 44) s (fun t d => if t.domOn d then t.domDown d fault else t)
  let s := forEach (List.range 4) s (fun t k => if t.domOn (quadDomain k) then t.quadOff k fault else t)
  s.setPwr { s.sys.pwr with coming := [] }

/-- Requests end without a reply (R391, R411). -/
def dropSession (s : State) : State :=
  let s := forEach (List.range 64) s (fun t p => (t.setReg (Reg.SLOT_STAT p) 0).setReg (Reg.SLOT_QP p) 0)
  { s with qps := [], slots := [], ses := SesState.reset }

/-- The loader's command ends with nothing loaded. -/
def dropLoader (s : State) : State := ({ s with loader := { LoaderState.reset with freed := s.loader.freed } }).showBusy none

/-- The shut-down sequence (R411): every facet stops where it stands, every domain goes off, and the module stays
in the state given. -/
def shutDown (s : State) (st : Nat) : State :=
  let s := s.dropSession.dropLoader
  let s := forEach (List.range 64) s (fun t f => t.stopFacet f)
  let s := ((s.offAll false).wf Reg.PWR_STAT 27 24 0).setPwrState st
  s.setPwr { s.sys.pwr with ordered := false }

/-- The supply cause, recorded at detection (R411, R412). A module that is off stays as it is. -/
def supplyShutDown (s : State) : State := if s.isOff then s else (s.recordEvent 0).shutDown 4

/-- A stack that reaches its shut-down threshold enters the band of shut-down, which is latched (R116). -/
def latchBand (s : State) (part : Nat) : State :=
  if 0x50 ≤ part ∧ part < 0x64 then
    let m := part - 0x50
    (s.wf (Reg.MST_STAT m) 1 0 3).setStack m { s.stack m with bandDue := none }
  else s

/-- The thermal cause, with the part and its temperature; it is recorded and latches during another shut-down as
well (R412, R427, R429). -/
def thermalShutDown (s : State) (part : Nat) (t : Int) : State :=
  let s := s.latchBand part
  if s.pwrState = 5 then s
  else
    let w := BitVec.ofNat 32 (2 ^ 31 + part * 2 ^ 8 + showTemp t)
    let s := (s.recordEvent 1).setReg Reg.THM_SHUT w
    let s := s.setPwr { s.sys.pwr with shut := w, trip := true }
    if s.isOff then s.setPwrState 5 else s.shutDown 5

/-- Some facet begins frames still. -/
def anyFrames (s : State) : Bool := (List.range 64).any (fun f => s.facetState f == 3 || s.facetState f == 4)

/-- The commanded shut-down (R411, R413): wear counters and each stack's temperature are written, unless the inhibit is
in force, and the sequence runs. -/
def orderedDown (s : State) : State :=
    let s := s.wf Reg.PWR_CMD 31 31 0
    let s := if s.inhibited then s
      else forEach (List.range 20) s (fun t m =>
        let t := t.wearWrite m
        t.setStack m { t.stack m with lastShutdown := some (t.stack m).temp })
    s.shutDown 6

/-- A commanded shut-down waits until every facet has stopped at its next frame boundary (R413). -/
def orderShutDown (s : State) : State :=
  if s.isOff then s.wf Reg.PWR_CMD 31 31 0
  else if s.anyFrames then (s.wf Reg.PWR_CMD 31 31 1).setPwr { s.sys.pwr with ordered := true }
  else s.orderedDown

/-- RESTART (R387, R412): allowed only in STATE 6; the power-on reset follows. -/
def restart (s : State) : State :=
  let s := s.wf Reg.PWR_CMD 31 31 0
  if s.pwrState = 6 then s.setPwrState 0 else s

/-! Domain commands (R416, R417). -/

/-- Something that the domain supplies is bound to a facet. -/
def domBound (s : State) (d : Nat) : Bool :=
  if d < 16 then (halfRegions d).any (fun r => s.regionBound r)
  else if d < 24 then (halfRegions (2 * (d - 16)) ++ halfRegions (2 * (d - 16) + 1)).any (fun r => s.regionBound r)
  else if d < 44 then (List.range 16).any (fun j => s.sliceState (20 * j + (d - 24)) == 1)
  else !(s.quadFacets (d - 44)).isEmpty

/-- The order forbids switching it off (R260, R271). -/
def domNeeded (s : State) (d : Nat) : Bool :=
  if 16 ≤ d ∧ d < 24 then s.domOn (2 * (d - 16)) || s.domOn (2 * (d - 16) + 1)
  else if d = 44 then true
  else if 44 < d then (List.range 44).any (fun e => s.domOn e && domainQuad e == d - 44)
  else false

/-- A domain command ends with a result. -/
def domDone (s : State) (d result : Nat) : State :=
  let s := (s.wf Reg.DOM_CMD 31 31 0).wf Reg.DOM_CMD 29 28 result
  if result = 0 then s else s.pwrEvent d 10

/-- A domain starts, unless it is on or coming up already. -/
def startDomain (s : State) (d : Nat) : State :=
  if s.domOn d ∨ s.sys.pwr.coming.contains d then s else s.setPwr { s.sys.pwr with coming := s.sys.pwr.coming ++ [d] }

/-- What the domain needs is on, or is coming up (R416). -/
def domSoon (s : State) (d : Nat) : Bool :=
  s.domReady d || s.sys.pwr.coming.contains (if d < 16 then midDomain (d / 2) else quadDomain (domainQuad d))

/-- A request to switch a domain on. One whose prerequisite is still coming up starts once that is up (R416, R417). -/
def askOn (s : State) (d : Nat) : State :=
  if s.inhibited then s.domDone d 3
  else if !s.domSoon d || s.domHeld d || s.isOff then s.domDone d 2
  else (s.startDomain d).domDone d 0

def askOff (s : State) (d : Nat) : State :=
  if s.domBound d then s.domDone d 1
  else if s.domNeeded d then s.domDone d 2
  else
    let s := s.setPwr { s.sys.pwr with coming := s.sys.pwr.coming.filter (· != d) }
    let s := if !s.domOn d then s else if 44 ≤ d then s.quadOff (d - 44) false else s.domDown d false
    s.domDone d 0

/-- A domain that was started is up, once what it needs is (R416). -/
def domComes (s : State) (d : Nat) (badLayers : List Nat) : State :=
  if s.sys.pwr.coming.contains d ∧ s.domReady d ∧ !s.domHeld d then
    (s.setPwr { s.sys.pwr with coming := s.sys.pwr.coming.filter (· != d) }).domUp d badLayers
  else s

/-- A converter phase is switched out (R408). -/
def phaseOut (s : State) (n : Nat) : State :=
  if s.isOff ∨ s.sys.pwr.badPhases.contains n then s
  else
    let s := (s.setPwr { s.sys.pwr with badPhases := insertNat n s.sys.pwr.badPhases }).pwrEvent n 6
    let s := (s.wf Reg.PWR_STAT 27 24 s.phasesRunning).showCap
    if s.phasesRunning < 5 then s.supplyShutDown else s

end State

/-- SAG_SHUTDOWN (R405, R411). -/
def execSagShutdown (s : State) : Result := finish s s.supplyShutDown

/-- OV (R407): the input stage opens, OV is recorded, and the supply shut-down runs. -/
def execOv (s : State) : Result :=
  finish s ((s.setPwr { s.sys.pwr with opened := true }).recordEvent 2).supplyShutDown

/-- INPUT_STAGE_CLOSE (R407). -/
def execInputStageClose (s : State) : Result :=
  finish s (if bit s.sys.pwr.record 2 then s.setPwr { s.sys.pwr with opened := false } else s)

/-- INRUSH (R407): a try failed. -/
def execInrush (s : State) : Result :=
  finish s ((s.setPwr { s.sys.pwr with opened := true, tries := s.sys.pwr.tries + 1 }).recordEvent 4)

/-- INRUSH_RETRY (R407): after three failed tries the stage stays open. -/
def execInrushRetry (s : State) : Result :=
  finish s (if s.sys.pwr.tries < 3 then s.setPwr { s.sys.pwr with opened := false } else s)

/-- PHASE_FAULT (R408). -/
def execPhaseFault (phase : Fin 8) (s : State) : Result := finish s (s.phaseOut phase.val)

/-- BUS_FAULT (R409). -/
def execBusFault (s : State) : Result := finish s (if s.isOff then s else (s.pwrEvent 0 7).offAll true)

/-- CAP (R414). -/
def execCap (mean : Nat) (above : Bool) (s : State) : Result := finish s (s.capSample mean above)

/-- CURRENT (R414). -/
def execCurrent (x : InputSample) (s : State) : Result := finish s (s.currentSample x.deciAmps x.centiVolts)

/-- DOM_ON (R416, R417). -/
def execDomOn (d : Fin 48) (s : State) : Result := finish s (s.askOn d.val)

/-- DOM_OFF (R260, R271, R417). -/
def execDomOff (d : Fin 48) (s : State) : Result := finish s (s.askOff d.val)

/-- DOMAIN_UP (R416). -/
def execDomainUp (d : DomainStart) (s : State) : Result :=
  finish s (s.domComes d.domain.val (d.badLayers.map (·.val)))

/-- COMMANDED_SHUTDOWN (R411, R413). -/
def execCommandedShutdown (s : State) : Result := finish s s.orderShutDown

/-- RESTART (R387, R412). -/
def execRestart (s : State) : Result := finish s s.restart

end Sys2Proof.Machine
end

