-- ==== Sys2Proof/Machine/Thermal.lean ====
section
/-! DEFINITION. Sensors, the middle-layer estimator, warnings, throttle stages and thermal shut-down (14): R418 to
R428, R505. -/
namespace Sys2Proof.Machine

/-! Temperatures that the rules compare are in 1/12,000 m°C, in which the estimate of R420 is exact. -/

abbrev fine (m : Int) : Int := 12000 * m

/-- Sensor numbers. -/
def logicSensor (n i : Nat) : Nat := 8 * n + i
def midSensor (n j : Nat) : Nat := 8 * n + 4 + j
def baseSensor (n : Nat) : Nat := 8 * n + 6
def quadSensor (k : Nat) : Nat := 512 + k
def stackSensor (m i : Nat) : Nat := 520 + 4 * m + i
def serviceSensor (i : Nat) : Nat := 600 + i
def guestSensor (g : Nat) : Nat := 604 + g

namespace State

def setThm (s : State) (x : ThmState) : State := { s with sys := { s.sys with thm := x } }
def sensor (s : State) (k : Nat) : Sensor := tget Sensor.reset s.sys.thm.sensors k
def part (s : State) (p : Nat) : PartState := tget PartState.reset s.sys.thm.parts p
def setPart (s : State) (p : Nat) (x : PartState) : State := s.setThm { s.sys.thm with parts := tset PartState.reset s.sys.thm.parts p x }

/-- A thermal event; the first since all were clear is kept (R431). -/
def thmEvent (s : State) (part i : Nat) : State := s.raiseFirst Reg.THM_EVT Reg.THM_FIRST i (part * 2 ^ 8 + i)

/-- One reading of a sensor (R419): it fails outside −40 to 150 °C, or after three samples without an update, and
stays failed. -/
def read (s : State) (part k : Nat) (r : Reading) : State :=
  let x := s.sensor k
  if x.failed then s
  else
    let y : Sensor := match r with
      | none => { x with stale := x.stale + 1, failed := decide (3 ≤ x.stale + 1) }
      | some t => if t < -40000 ∨ 150000 < t then { x with failed := true } else ⟨t, 0, false⟩
    let s := s.setThm { s.sys.thm with sensors := tset Sensor.reset s.sys.thm.sensors k y }
    if y.failed then s.thmEvent part 5 else s

/-- The last reading of a sensor that has not failed. -/
def valid (s : State) (k : Nat) : Option Int := if (s.sensor k).failed then none else some (s.sensor k).last

/-! A region's temperatures (R420 to R423). -/

/-- T_base: the base sensor beneath the region, or its quadrant's temperature. -/
def tBase (s : State) (n : Nat) : Int := (s.valid (baseSensor n)).getD (s.sensor (quadSensor (n / 16))).last

/-- Valid logic readings. -/
def logicTemps (s : State) (n : Nat) : List Int := (List.range 4).filterMap (fun i => s.valid (logicSensor n i))

/-- The estimate T_est, with P in mW and the coefficients in thousandths; 0.50 and 0.15 where no record gives them. -/
def tEst (s : State) (n p : Nat) : Int :=
  let b := s.tBase n
  let l := s.logicTemps n
  let c := tget (500, 150) s.sys.thm.coef n
  let k : Int := l.length
  let sum : Int := l.foldl (· + ·) 0
  fine b + (if k = 0 then 0 else 12 * (c.1 : Int) * (sum - k * b) / k) + 12 * (c.2 : Int) * (p : Int)

def suspect (s : State) (n j : Nat) : Bool := bit (s.reg (Reg.THM_RS n)) (21 + j)

/-- A middle sensor against the estimate (R421): suspect after ten samples more than 6 °C below. -/
def compareMid (s : State) (n j : Nat) (est : Int) : State :=
  let k := 2 * n + j
  match s.valid (midSensor n j) with
  | none => s
  | some v =>
    if fine v + fine 6000 < est then
      let c := tget 0 s.sys.thm.low k + 1
      let s := s.setThm { s.sys.thm with low := tset 0 s.sys.thm.low k (min 10 c) }
      if 10 ≤ c ∧ !s.suspect n j then
        ((s.wf (Reg.THM_RS n) (21 + j) (21 + j) 1).addSat Reg.THM_STAT 7 0 1).thmEvent n 3
      else s
    else
      let s := s.setThm { s.sys.thm with low := tset 0 s.sys.thm.low k 0 }
      if est + fine 6000 < fine v ∧ !s.sys.thm.high.contains k then
        (s.setThm { s.sys.thm with high := insertNat k s.sys.thm.high }).thmEvent n 4
      else s

/-- T_mid: the largest of the estimate and the middle sensors that are neither suspect nor failed. -/
def tMid (s : State) (n : Nat) (est : Int) : Int :=
  maxInt est ([0, 1].filterMap (fun j => if s.suspect n j then none else (s.valid (midSensor n j)).map fine))

/-- T_gov of a region. -/
def tGov (s : State) (n : Nat) (est : Int) : Int :=
  max (s.tMid n est) (maxInt (fine (s.tBase n)) ((s.logicTemps n).map fine))

end State

/-! Slopes and stages (R418, R426, R505). -/

/-- The change over up to ten samples of 10 µs and how many of them there are. -/
def slopeOf (hist : List Int) (t : Int) : Int × Nat :=
  let h := hist.take 10
  match h.getLast? with
  | none => (0, 1)
  | some o => (t - o, h.length)

/-- At least 10 °C per ms: 100 m°C for each 10 µs, at 95 °C or more. -/
def slopeTrigger (sl : Int × Nat) (t : Int) : Bool := fine 100 * (sl.2 : Int) ≤ sl.1 && fine 95000 ≤ t

/-- SLOPE_RATE: °C per ms, truncated toward zero and held within −128 to +127. -/
def slopeRate (sl : Int × Nat) : Int := max (-128) (min 127 (Int.tdiv sl.1 (fine 10 * (sl.2 : Int))))

/-- Stage and quiet count after a sample (R426). -/
def stageAfter (stage quiet floor : Nat) (t : Int) (trig : Bool) : Nat × Nat :=
  if fine 105000 ≤ t ∨ trig then (if stage = 0 then 2 else min 8 (stage + 1), 0)
  else if fine 100000 ≤ t then (stage, 0)
  else if quiet + 1 = 10 then (max (stage - 1) floor, 0)
  else (stage, quiet + 1)

/-- Whole °C as registers show them (R431). -/
def shown (t : Int) : Nat := min 255 (t / fine 1000).toNat

/-- Warning, clear and shut-down temperatures of a part in °C (R424). -/
def thresholds (p : Nat) : Int × Int × Int :=
  if 0x50 ≤ p ∧ p < 0x64 then (85000, 80000, 105000) else (95000, 90000, 118000)

namespace State

/-- A part's governing temperature in one sample: history, warning and the count towards shut-down. -/
def partSample (s : State) (p : Nat) (t : Int) : State :=
  let x := s.part p
  let th := thresholds p
  let warn := fine th.1 ≤ t
  let warned := if warn then true else if t < fine th.2.1 then false else x.warned
  let hot := if fine th.2.2 ≤ t then x.hot + 1 else 0
  let s := s.setPart p { x with hist := (t :: x.hist).take 10, warned := warned, hot := hot }
  if warn ∧ !x.warned then s.thmEvent p 0 else s

/-- The stage of a region or quadrant in one sample, with its events. -/
def stageSample (s : State) (p floor : Nat) (t : Int) (trig : Bool) : State :=
  let x := s.part p
  let r := stageAfter (max floor x.stage) x.quiet floor t trig
  let up := fine 105000 ≤ t || trig
  let s := s.setPart p { x with stage := r.1, quiet := r.2 }
  let s := if up then s.thmEvent p 1 else s
  if up ∧ trig then s.thmEvent p 2 else s

/-- One sample of quadrant k; a failed sensor gives none (R419). -/
def quadSample (s : State) (k : Nat) : State :=
  if (s.sensor (quadSensor k)).failed then s else
  let p := 0x40 + k
  let t := fine (s.sensor (quadSensor k)).last
  let trig := slopeTrigger (slopeOf (s.part p).hist t) t
  let s := (s.stageSample p 0 t trig).partSample p t
  let a := Reg.THM_Q k
  ((s.wf a 7 0 (shown t)).wf a 15 8 (max (s.rf a 15 8) (shown t))).wf a 19 16 (s.part p).stage

/-- One sample of region n with its power in mW. -/
def regionSample (s : State) (n power : Nat) : State :=
  let fails := (List.range 4).filter (fun i => (s.sensor (logicSensor n i)).failed)
  let a := Reg.THM_RS n
  let s := forEach fails s (fun t i => t.wf a (16 + i) (16 + i) 1)
  let s := if fails.length = 4 then s.wf a 20 20 1 else s
  let est := s.tEst n power
  let s := (s.compareMid n 0 est).compareMid n 1 est
  let t := s.tGov n est
  let sl := slopeOf (s.part n).hist t
  let trig := slopeTrigger sl t
  let s := (s.stageSample n (if bit (s.reg a) 20 then 4 else 0) t trig).partSample n t
  let s := (s.wf a 23 23 (b2n trig)).wf a 15 8 ((slopeRate sl) % 256).toNat
  let s := s.wf a 7 0 (max (s.rf a 7 0) (shown t))
  let b := Reg.THM_RT n
  (((s.wf b 31 24 (shown t)).wf b 23 16 (shown (s.tMid n est))).wf b 15 8 (shown est)).wf b 7 0 (shown (fine (s.tBase n)))

/-- The largest of sensors that have not failed, as one part's temperature. -/
def plainSample (s : State) (p : Nat) (ks : List Nat) : State :=
  match ks.filterMap (fun k => s.valid k) with
  | [] => s
  | t :: r => s.partSample p (fine (maxInt t r))

/-- The part codes of THM_SHUT (R431). -/
def partCodes : List Nat :=
  List.range 64 ++ [0x40, 0x41, 0x42, 0x43] ++ (List.range 20).map (fun m => 0x50 + m) ++ [0x70, 0x78, 0x79]

/-- Thermal stages are shown, with the cap's (R414, R425), and the summary. -/
def summarise (s : State) : State :=
  let s := forEach (List.range 64) s (fun t n =>
    t.wf (Reg.THM_RS n) 27 24 (max (t.part n).stage (t.part (0x40 + n / 16)).stage))
  let s := s.restage
  let known := partCodes.filter (fun p => !(s.part p).hist.isEmpty)
  let best : Option (Nat × Int) := known.foldl (fun b p =>
    let t := (s.part p).hist.headD 0
    match b with
    | none => some (p, t)
    | some x => if x.2 < t then some (p, t) else some x) none
  let s := match best with
    | none => s
    | some (p, t) => (s.wf Reg.THM_STAT 31 24 (shown t)).wf Reg.THM_STAT 23 16 p
  s.wf Reg.THM_STAT 14 8 ((List.range 64).filter (fun n => 0 < s.rf (Reg.THM_RS n) 31 28)).length

/-- One 10 µs sample of every sensor. -/
def sample (s : State) (t : TempReadings) : State :=
  let s := forEach t.quads s (fun u e => u.read (0x40 + e.1) (quadSensor e.1) e.2)
  let s := forEach t.regions s (fun u e =>
    let n := e.1
    let u := forEach (e.2.logic.zipIdx.take 4) u (fun v r => v.read n (logicSensor n r.2) r.1)
    let u := forEach (e.2.mid.zipIdx.take 2) u (fun v r => v.read n (midSensor n r.2) r.1)
    u.read n (baseSensor n) e.2.base)
  let s := forEach t.service s (fun u e => u.read 0x70 (serviceSensor e.1) e.2)
  let s := forEach t.guests s (fun u e => u.read (0x78 + e.1) (guestSensor e.1) e.2)
  let s := forEach (t.quads.map (·.1)) s (fun u k => u.quadSample k)
  let s := forEach t.regions s (fun u e => u.regionSample e.1 e.2.power)
  let s := if t.service.isEmpty then s else s.plainSample 0x70 [serviceSensor 0, serviceSensor 1, serviceSensor 2]
  let s := forEach (t.guests.map (·.1)) s (fun u g => u.plainSample (0x78 + g) [guestSensor g])
  let s := s.wf Reg.THM_SVC 7 0 (shown ((s.part 0x70).hist.headD 0))
  let s := (s.wf Reg.THM_SVC 15 8 (shown ((s.part 0x78).hist.headD 0))).wf Reg.THM_SVC 23 16 (shown ((s.part 0x79).hist.headD 0))
  let s := forEach (t.quads.map (·.1)) s (fun u k => forEach (quadBanks k) u (fun v b =>
    v.wf (Reg.BANK_STAT b) 15 8 (showTemp (v.sensor (quadSensor k)).last)))
  let s := s.summarise
  match partCodes.filter (fun p => 2 ≤ (s.part p).hot) with
  | p :: rest => forEach rest (s.thermalShutDown p ((s.part p).hist.headD 0 / 12000)) (fun u q => u.latchBand q)
  | [] => s

/-- The readings name parts that exist. -/
def readingsOk (t : TempReadings) : Bool :=
  t.regions.all (fun e => e.1 < 64) && t.quads.all (fun e => e.1 < 4) &&
  t.service.all (fun e => e.1 < 3) && t.guests.all (fun e => e.1 < 2)

/-- ALERT_N (R394, R402, R411, R428, R441): true when it is asserted. -/
def alertN (s : State) : Bool :=
  s.sys.rst.alert.getD <| partCodes.any (fun p => (s.part p).warned) || (List.range 64).any (fun n => 0 < s.rf (Reg.THM_RS n) 31 28) ||
  s.capStage != 0 || s.reg Reg.PWR_EVT != 0 || s.reg Reg.THM_EVT != 0 || bit (s.reg Reg.CND_STAT) 27 ||
  s.sys.clk.absent || s.isOff

/-- THERMTRIP_N (R402, R427): true when it is asserted. -/
def thermtripN (s : State) : Bool := s.sys.pwr.trip

end State

/-- STACK_TEMP_SAMPLE (R116, R117, R120, R122, R418, R419): the stack temperature is the highest of its four sensors that
have not failed. Two successive samples at 105 °C or more shut the module down (R424, R427). -/
def execStackTempSample (m : Fin 20) (t0 t1 t2 t3 : Reading) (s : State) : Result :=
  let p := 0x50 + m.val
  let u := forEach [(0, t0), (1, t1), (2, t2), (3, t3)] s (fun u e => u.read p (stackSensor m.val e.1) e.2)
  finish s (match [0, 1, 2, 3].filterMap (fun i => u.valid (stackSensor m.val i)) with
    | [] => u
    | a :: l =>
      let t := maxInt a l
      let v := (u.stackSample m.val t).partSample p (fine t)
      if 2 ≤ (v.part p).hot then v.thermalShutDown p t else v)

/-- TEMP_SAMPLE (R418 to R427, R505). -/
def execTempSample (t : TempReadings) (s : State) : Result := finish s (if State.readingsOk t then s.sample t else s)

end Sys2Proof.Machine
end

