-- ==== Sys2Proof/Machine/Reset.lean ====
section
/-! DEFINITION. Reset sources, reach, start-up and trims (13), and the supply thresholds that start and stop the
service domain (14): R387 to R404, R405, R410. -/
namespace Sys2Proof.Machine

/-! What a reset keeps of the registers (R14, R389, R390). -/

/-- BLK_MAP of some block. -/
def isBlkMap (a : Nat) : Bool :=
  0x1000000 ≤ a && a < 0x2000000 && 0x20000 ≤ a % 0x40000 && a % 0x40000 < 0x20800 && a % 0x100 == 0

/-- Bits that fuses or the dies give: the fuse reach table, die capability words, the published subsets (R287), die
identity words, and the factory map-out of a block (R71). -/
def fuseMask (a : Nat) : Word :=
  if a = Reg.RST_FUSE then 0xFFFFFFFF
  else if 0xC00100 ≤ a ∧ a < 0xC00198 then 0xFFFFFFFF
  else if 0xC00200 ≤ a ∧ a < 0xC00280 then 0xFFFFFFFF
  else if 0xC00400 ≤ a ∧ a < 0xC00800 then 0xFFFFFFFF
  else if isBlkMap a then 0x1F
  else 0

/-- A wear counter (R121). -/
def isWear (a : Nat) : Bool :=
  (List.range 20).any (fun m => a == Reg.CYC40 m || a == Reg.CYC60 m || a == Reg.CYC80 m)

/-- A register after a reset that keeps the bits of a mask; a block maps out the position that its fuses name. -/
def afterReset (keep : Word) (a : Nat) (v : Word) : Word :=
  let w := (v &&& keep) ||| (resetValue a &&& ~~~keep)
  if isBlkMap a then setFld w 20 16 (fld w 4 0) else w

/-- The register table after a reset. -/
def resetRegs (keep : Nat → Word) (regs : Tbl Word) : Tbl Word :=
  regs.filterMap (fun e =>
    let v := afterReset (keep e.1) e.1 e.2
    if v = resetValue e.1 then none else some (e.1, v))

/-- A table with every entry changed; entries that become the default go. -/
def tmap {α : Type} [DecidableEq α] (d : α) (f : α → α) (t : Tbl α) : Tbl α :=
  t.filterMap (fun e => if f e.2 = d then none else some (e.1, f e.2))

/-- What a cell keeps when its units are reset: its store and the images in it (R389). -/
def CellState.keepStore (x : CellState) : CellState :=
  { CellState.reset with store := x.store, progLen := x.progLen, progDigest := x.progDigest, dataDigest := x.dataDigest }

/-- What the non-volatile store holds of a memory stack, a Loupe bank, a comb line, a ring and a vertical group. -/
def StackState.stored (x : StackState) : StackState :=
  { StackState.reset with remaps := x.remapsNv, remapsNv := x.remapsNv, mapsCrc := x.mapsCrc, wearCrc := x.wearCrc,
                          lastShutdown := x.lastShutdown }

/-- A Loupe bank whose record is loaded (R180). -/
def BankState.loaded (x : BankState) : BankState := { BankState.reset with points := x.stored, stored := x.stored }

/-- A Loupe bank after a reset that keeps the calibration in force (R390). -/
def BankState.kept (x : BankState) : BankState :=
  { BankState.reset with points := x.points, stored := x.stored, storeDue := x.storeDue, trims := x.trims, calFrame := x.calFrame }

def LineState.kept (x : LineState) : LineState := { LineState.reset with level := x.level, spareOk := x.spareOk, shift := x.shift }
def RingState.kept (x : RingState) : RingState := { RingState.reset with failed := x.failed, coef := x.stored, stored := x.stored, crc := x.crc }

/-- One direction of a vertical group whose repair map is loaded: a swap that was not stored is gone (R280, R291). -/
def GroupDir.loaded (x : GroupDir) : GroupDir := { x with map := x.stored, swapping := [] }

/-- The register of a vertical group. -/
def isVgrp (a : Nat) : Bool := 0xC01000 ≤ a && a < 0xC016C8

/-- What a pin reset of chip reach keeps of a stack: its thermal cycle (R121); its maps are loaded again (R111). -/
def StackState.pinned (x : StackState) : StackState := { x with waiting := [], copy := none, bandDue := none }

namespace State

/-- The non-volatile bits of the registers are loaded, of those that p names. -/
def loadNv (s : State) (p : Nat → Bool) : State :=
  forEach (s.nv.filter (fun e => p e.1)) s (fun t e => t.setReg e.1 ((t.reg e.1 &&& ~~~(nvMask e.1)) ||| e.2))

/-- The always-on record as PWR_EVT[4:0] and THM_SHUT show it, after they are loaded (R14, R412). -/
def showRecord (s : State) : State :=
  (s.wf Reg.PWR_EVT 4 0 (s.sys.pwr.record &&& 0x1F).toNat).setReg Reg.THM_SHUT s.sys.pwr.shut

/-- RAIL shows the setpoints that the fuses give, at FULL (R270; log 5). -/
def showRails (s : State) : State :=
  forEach (s.sys.pwr.railTrim.filter (fun e => e.1 < 24)) s (fun t e => t.wf (Reg.RAIL e.1) 11 0 (t.setPoint e.1 0))

/-- Everything that power-on leaves: fuses, the non-volatile store, the always-on record (R390, R412). The wear counters
live in service-domain memory: they stand while the service domain keeps its supply (R121). -/
def powerLost (s : State) (service : Bool) : State :=
  let y := s.sys
  let live (a : Nat) : Bool := service && isWear a
  let cut := service && (y.rst.restarted || y.rst.load.isSome)
  let rst : RstState := { RstState.reset with records := y.rst.records, rstLow := y.rst.rstLow, restarted := cut }
  let sys : SysState :=
    { SysState.reset with rst := rst,
                          pwr := { PwrState.reset with service := true, record := y.pwr.record, shut := y.pwr.shut, railTrim := y.pwr.railTrim },
                          cnd := { CndState.reset with flash := y.cnd.flash },
                          sec := { SecState.reset with unlocks := y.sec.unlocks, low := y.sec.low },
                          host := HostIf.reset }
  let t : State :=
    { State.reset with regs := resetRegs (fun a => if live a then 0xFFFFFFFF else fuseMask a) s.regs, nv := s.nv, memStacks := tmap StackState.reset StackState.stored s.memStacks,
                       banks := tmap BankState.reset BankState.loaded s.banks, groups := tmap GroupDir.reset GroupDir.loaded s.groups,
                       lines := tmap LineState.reset LineState.kept s.lines, rings := tmap RingState.reset RingState.kept s.rings,
                       opt := s.opt, sys := sys, out := s.out, free := s.free, pending := s.pending }
  (t.loadNv (fun a => !live a)).showRails

/-! Pin reset (R388 to R392). -/

/-- The fuse reach table: chip reach, and what is kept. -/
def reachChip (s : State) : Bool := s.rf Reg.RST_FUSE 1 0 == 3
def keepDtc (s : State) : Bool := bit (s.reg Reg.RST_FUSE) 4
def keepCal (s : State) : Bool := bit (s.reg Reg.RST_FUSE) 5
def keepPins (s : State) : Bool := bit (s.reg Reg.RST_FUSE) 6

/-- A local request is in progress (R392). -/
def localRequest (s : State) : Bool := s.blocks.any (fun e => e.2.needReset)

/-- Every facet is unbound and every staged stream dropped, every bound slice passes through CLEARING, every key
region closes, and requests end without a reply (R391). -/
def dropAll (s : State) : State :=
  let evt := s.reg Reg.CFG_EVT
  let s := s.dropSession.dropLoader
  let s := forEach (List.range 8) s (fun t k => t.closeKey k)
  let s := forEach (List.range 64) s (fun t f => if t.facetBound f then t.unbindNow f else t)
  let s := forEach (List.range 64) s (fun t f => (t.setReg (Reg.FACET_STAT f) 0).setReg (Reg.FACET_ID f) 0)
  ({ s with facets := [] }).setReg Reg.CFG_EVT evt

/-- Region windows, cells, blocks, regions and engines restart. -/
def resetRegions (s : State) : State :=
  { s with regs := resetRegs (fun a => if a < 0x1000000 then 0xFFFFFFFF else fuseMask a) s.regs,
           cells := tmap CellState.reset CellState.keepStore s.cells, blocks := [], regions := [], engines := [] }

/-- RST_CAUSE, PIN_COUNT and the events of a pin reset (R404). -/
def pinCause (s : State) (chip super : Bool) : State :=
  let kept := if chip then 8 + 4 * b2n s.keepPins + 2 * b2n s.keepCal + b2n s.keepDtc else 15
  let n := min 65535 (s.rf Reg.RST_CAUSE 15 0 + 1)
  let s := s.setReg Reg.RST_CAUSE (BitVec.ofNat 32 (2 ^ 30 + (if chip then 3 else 2) * 2 ^ 28 + kept * 2 ^ 24 + n))
  let s := s.raise Reg.RST_EVT 0
  if super then s.raise Reg.RST_EVT 5 else s

/-- A pin reset of region reach. -/
def pinRegion (s : State) : State :=
  let super := s.localRequest
  let s := s.dropAll.resetRegions
  (s.setRst { s.sys.rst with rstLow := true }).pinCause false super

/-- What a pin reset of chip reach keeps of the service die. -/
def pinSys (s : State) : SysState :=
  let y := s.sys
  let clk : ClkState := if s.keepDtc then { y.clk with children := [], t1 := none, trips := [], good := 0, stepBy := none, absent := false } else ClkState.reset
  let cut := y.rst.load.isSome
  { clk := clk,
    rst := { held := true, rstLow := true, records := y.rst.records, active := if s.keepCal then y.rst.active else [],
             waiting := if s.keepCal then y.rst.waiting else [], due := y.rst.due, load := none, restarted := y.rst.restarted || cut,
             alert := some (s.keepPins && s.alertN) },
    pwr := { y.pwr with coming := [] },
    thm := { y.thm with parts := [], coef := if s.keepCal then y.thm.coef else [] },
    cnd := { CndState.reset with flash := y.cnd.flash },
    sec := { y.sec with nonce := none, signed := none },
    host := { HostIf.reset with extest := y.host.extest } }

/-- A vertical group whose repair maps a pin reset loads: one whose repair waits for its write keeps it in force (R280,
R291). -/
def loadsVgrp (s : State) (a : Nat) : Bool := isVgrp a && !s.nvDue.contains a

def pinGroups (s : State) : Tbl GroupDir :=
  s.groups.filterMap (fun e =>
    let x := if s.loadsVgrp (Reg.VGRP (e.1 / 2)) then e.2.loaded else { e.2 with swapping := [] }
    if x = GroupDir.reset then none else some (e.1, x))

/-- A pin reset of chip reach: P fields, fuses and the non-volatile store keep their values, with the root and the
counter as KEEP_DTC says and the trims as KEEP_CAL says. -/
def pinChip (s : State) : State :=
  let super := s.localRequest
  let off := s.isOff
  let power := s.pwrState
  let trim := s.reg Reg.TRIM_STAT
  let cut := s.sys.rst.load.isSome
  let t : State :=
    { State.reset with regs := resetRegs (fun a => keepMask a ||| fuseMask a ||| (if s.loadsVgrp a then 0 else nvMask a)) s.regs, nv := s.nv, nvDue := s.nvDue,
                       cells := tmap CellState.reset CellState.keepStore s.cells, staging := s.staging,
                       memStacks := tmap StackState.reset StackState.pinned s.memStacks,
                       banks := tmap BankState.reset (if s.keepCal then BankState.kept else BankState.loaded) s.banks, groups := s.pinGroups,
                       lines := s.lines, rings := s.rings, opt := s.opt, sys := s.pinSys, out := s.out, free := s.free, pending := s.pending }
  let t := forEach (List.range 20) (t.loadNv s.loadsVgrp).showRecord (fun u m =>
    let u := u.loadMaps m
    if s.rf (Reg.MST_STAT m) 1 0 = 3 then u.wf (Reg.MST_STAT m) 1 0 3 else u)
  let t := forEach (List.range 320) t (fun u n => if u.sliceState n = 4 then u else u.leaveSlice n 3)
  let t := forEach [0, 1] t (fun u g => u.setReg (Reg.SITE_CH (0x40 + g)) 0)
  let t := if s.keepDtc then t else
    (((t.setReg Reg.DT_LO 0).setReg Reg.DT_HI 0).setReg Reg.SYNC_RATE 0).setReg Reg.HOLD_US 0 |>.wf Reg.CLK_STAT 31 28 0
  let t := if s.keepCal && !cut then (t.wf Reg.TRIM_STAT 31 29 (fld trim 31 29)).wf Reg.TRIM_STAT 15 8 (fld trim 15 8) else t
  let t := if cut then t.addSat Reg.TRIM_STAT 23 16 1 else t
  let t := if off then t.setPwrState power else t
  let t := forEach ((List.range 24).filter s.domHeld) t (fun u d => u.wf (Reg.DOM_STAT d) 29 29 1)
  t.showRails.pinCause true super

/-- A pin reset takes hold. -/
def pinReset (s : State) : State :=
  if s.sys.rst.rstLow then s else if s.reachChip then s.pinChip else s.pinRegion

/-! Strap (R395, R396). -/

end State

/-- A number put in its place of a rising list. -/
def insertUp (n : Nat) : List Nat → List Nat
  | [] => [n]
  | a :: t => if n ≤ a then n :: a :: t else a :: insertUp n t

/-- The median of the samples. -/
def median (l : List Byte) : Nat :=
  let a := (l.map (·.toNat)).foldr insertUp []
  a.getD (a.length / 2) 0

/-- STRAP_MARGINAL of a code. -/
def marginal (code : Nat) : Bool :=
  (16 ≤ code && code % 16 < 2) || (code < 240 && 14 ≤ code % 16)

/-- Boot from flash, highest rate (its PCI Express code) and presence policy of a choice. -/
def strapFlash (c : Nat) : Bool := !(c == 2 || (9 ≤ c && c ≤ 14))
def strapRate (c : Nat) : Nat :=
  if c ≤ 2 ∨ c = 9 ∨ c = 10 ∨ c = 15 then 128 else if c ≤ 5 ∨ c = 11 ∨ c = 12 then 64 else 32
def strapPolicy (c : Nat) : Nat :=
  if c = 0 ∨ c = 3 ∨ c = 6 ∨ c = 9 ∨ c = 11 ∨ c = 13 then 0
  else if c = 1 ∨ c = 4 ∨ c = 7 ∨ c = 10 ∨ c = 12 ∨ c = 14 then 1 else 2

namespace State

def readStrap (s : State) (l : List Byte) : State :=
  let code := median l
  let c := code / 16
  let s := s.setReg Reg.STRAP (BitVec.ofNat 32 (code * 2 ^ 8 + 16 * b2n (marginal code) + c))
  let s := if marginal code then s.raise Reg.RST_EVT 4 else s
  let s := s.wf Reg.SEC_STAT 27 26 (strapPolicy c)
  if strapPolicy c = 1 ∧ s.sys.sec.low then s.wf Reg.SEC_STAT 28 28 1 else s

/-! Trims (R397 to R401). -/

/-- A load begins. -/
def beginLoad (s : State) (e : StartEnv) : State :=
  let s := s.setRst { s.sys.rst with load := some (e.trimOne, e.trimNone), restarted := false }
  s.wf Reg.TRIM_STAT 31 29 1

/-- The values that a load takes for a target, if a copy is valid. -/
def loaded (r : TrimRec) (t : Nat) (one : List (Nat × Bool)) (none_ : List Nat) : Option (List Word) :=
  if none_.contains t then none
  else match one.find? (fun e => e.1 == t) with
    | some e => some (if e.2 then r.dataA else r.dataB)
    | none => some r.newest

/-- The load ends: every shadow is applied at once, and a unit without a valid copy takes fuse defaults. -/
def endLoad (s : State) : State :=
  match s.sys.rst.load with
  | none => s
  | some (one, none_) =>
    let s := s.setRst { s.sys.rst with load := none, active := [], waiting := [] }
    let s := forEach s.sys.rst.records s (fun t e => match loaded e.2 e.1 one none_ with
      | some w => t.applyTrim e.1 w
      | none => t)
    let s := if one.isEmpty then s else s.raise Reg.RST_EVT 2
    let s := if none_.isEmpty then s else s.raise Reg.RST_EVT 3
    (s.wf Reg.TRIM_STAT 31 29 (if none_.isEmpty then 2 else 3)).wf Reg.TRIM_STAT 15 8 (min 255 none_.length)

/-- The copy with the lower SEQ takes the words, with SEQ one above the other copy. -/
def putTrim (s : State) (target : Nat) (words : List Word) : State :=
  let r := tget TrimRec.empty s.sys.rst.records target
  let r' : TrimRec := if r.seqB < r.seqA then { r with seqB := r.seqA + 1, dataB := words } else { r with seqA := r.seqB + 1, dataA := words }
  s.setRst { s.sys.rst with records := tset TrimRec.empty s.sys.rst.records target r' }

/-- Where the new values of a target go: the root's wait for a device frame boundary and a generator's for a retime
window of a bound region; others are applied. -/
def useTrim (s : State) (target : Nat) : State :=
  let u := Config.trimUnit target
  let s := s.setRst { s.sys.rst with waiting := insertNat target s.sys.rst.waiting }
  if u = 0 then s
  else if u ≤ 64 ∧ s.regionBound (u - 1) then (s.wf (Reg.REG_RETIME (u - 1)) 3 3 1).wf (Reg.REG_RETIME (u - 1)) 2 1 1
  else s.applyTrims (fun v => v == u)

/-- Firmware updates a trim record; a write below 39.0 V waits. -/
def writeTrim (s : State) (target : Nat) (words : List Word) : State :=
  if s.inhibited then s.setRst { s.sys.rst with due := s.sys.rst.due ++ [(target, words)] }
  else (s.putTrim target words).useTrim target

/-! Start-up (R393, R394, R433). -/

/-- The conductors' self-test sets their claims. -/
def startUnits (s : State) (e : StartEnv) : State :=
  if e.selfA && e.selfB then s.setStandby 1
  else if e.selfA then ((s.setLevel 0 2).setLevel 1 0).setStandby 5 |>.raise Reg.CND_EVT 1
  else if e.selfB then (((s.setLevel 0 0).setLevel 1 2).wf Reg.CND_STAT 31 31 1).setStandby 5 |>.raise Reg.CND_EVT 1
  else (((s.setLevel 0 0).setLevel 1 0).setStandby 5 |>.raise Reg.CND_EVT 1).moduleReset

/-- The capability words of every die are collected, and pairs that do not match are held off (R287, R288). -/
def collect (s : State) : State :=
  let bad := (List.range 8).filter (fun c => fld (s.reg (Reg.CAPD (8 + c) 14)) 7 0 < fld (s.reg (Reg.CAPD c 14)) 7 0)
  let ok := (List.range 8).filter (fun c => !bad.contains c)
  let s := forEach (List.range 16) s (fun t w =>
    let all (b : Nat) : Word := ok.foldl (fun x c => x &&& t.reg (Reg.CAPD (b + c) w)) 0xFFFFFFFF
    let mid := (List.range 8).foldl (fun x c => x &&& t.reg (Reg.CAPD (8 + c) w)) (0xFFFFFFFF : Word)
    if w < 14 then (t.setReg (Reg.CAPC w) (all 0)).setReg (Reg.CAPM w) mid else (t.setReg (Reg.CAPC w) 0).setReg (Reg.CAPM w) 0)
  let s := forEach bad s (fun t c =>
    forEach [2 * c, 2 * c + 1, 16 + c] (t.pblEvent 0 c 6) (fun u d => u.wf (Reg.DOM_STAT d) 29 29 1))
  s.wf Reg.PBL_STAT 31 31 1

/-- Each stack's cycle counter starts from its first sample; the cooling since an orderly shut-down counts, once
(R120, R413). -/
def firstTemps (s : State) (temps : List Int) : State :=
  forEach (List.range 20) s (fun t m =>
    let now := temps.getD m 40000
    let x := t.stack m
    let t := t.setStack m { x with low := now, high := now, temp := now, falling := false, lastShutdown := none }
    match x.lastShutdown with
    | some last => if 40000 < last - now then t.countCycle m (last - now) else t
    | none => t)

/-- Calibration records that fail their check (R180). -/
def calCheck (s : State) (l : List (Fin 32)) : State :=
  forEach l s (fun t b => (t.setBank b.val { t.bank b.val with stored := [], points := [] }).lpeEvent 0 b.val 4)

/-- Start-up from the release of a reset of chip reach, as far as the trim load's beginning. -/
def startUp (s : State) (e : StartEnv) (load : Bool) : State :=
  let s := (s.readStrap e.strap).startUnits e
  let s := ((s.wf Reg.PWR_STAT 27 24 s.phasesRunning).showCap).lmStart e.lasers
  if load then
    let s := if s.sys.rst.restarted then s.raise Reg.RST_EVT 1 else s
    ((s.beginLoad e).calCheck e.calBad).ringCheck e.ringBad
  else s

/-- The internal power-on reset (R390, R393, R405, R412). A thermal or commanded shut-down, an input stage that is
open, and an input that has not risen above 39.6 V keep the module off. While RST_N is low, start-up waits for its release. -/
def powerOn (s : State) (e : StartEnv) : State :=
  if s.pwrState = 5 ∨ s.pwrState = 6 ∨ s.sys.pwr.opened ∨ s.sys.pwr.inhibit then s
  else
    let s := (s.powerLost true).showRecord
    let s := (s.collect).firstTemps e.temps
    let s := if e.sealClosed then s else s.sealOpens false
    if s.sys.rst.rstLow then s.setRst { s.sys.rst with held := true } else s.startUp e true

/-- RST_N is released (R388, R393). A module that is off starts nothing. -/
def resetRelease (s : State) (e : StartEnv) : State :=
  if !s.sys.rst.rstLow then s
  else
    let held := s.sys.rst.held
    let s := s.setRst { s.sys.rst with rstLow := false, held := false, alert := none }
    let s := { s with sys := { s.sys with host := { s.sys.host with extest := false } } }
    if !held ∨ s.isOff then s
    else
      let first := bit (s.reg Reg.RST_CAUSE) 31
      let s := if first ∨ e.sealClosed then s else s.wf Reg.SEC_STAT 25 24 1
      s.startUp e (first || !s.keepCal || s.sys.rst.restarted)

/-- The root locks, and the counter starts at 0 (R377, R393). -/
def rootLocks (s : State) : State :=
  let s := s.endLoad
  if s.sys.clk.locked ∨ s.sys.rst.held then s
  else (s.setClk { s.sys.clk with dt := 0, locked := true, absent := false }).setRef 1

/-- 10 ms without a reference at the root-lock stage (R394). -/
def refAbsent (s : State) : State :=
  let s := s.endLoad
  if s.sys.clk.locked ∨ s.sys.rst.held then s
  else (s.setClk { s.sys.clk with absent := true }).raise Reg.CLK_EVT 7

/-! The supply (R405, R410). -/

/-- What is left when the service domain has no supply: fuses and the non-volatile store. -/
def serviceStops (s : State) : State :=
  let t := ({ s with sys := { s.sys with pwr := { PwrState.reset with railTrim := s.sys.pwr.railTrim }, rst := { s.sys.rst with restarted := false } } }).powerLost false
  t.setPwr { t.sys.pwr with service := false }

/-- The service domain starts; power-on follows once the input permits it. -/
def serviceStarts (s : State) : State :=
  (s.setPwr { s.sys.pwr with service := true, opened := false, tries := 0 }).setPwrState 0

/-- The write inhibit begins. -/
def inhibitBegins (s : State) : State :=
  if s.sys.pwr.inhibit then s
  else
    let s := (s.setPwr { s.sys.pwr with inhibit := true }).pwrEvent 0 5
    if s.pwrState = 1 then s.setPwrState 2 else s

/-- The write inhibit clears, and every write that waited is made (R115, R121, R280, R308, R401, R452). -/
def inhibitEnds (s : State) : State :=
  if !s.sys.pwr.inhibit then s
  else
    let s := s.setPwr { s.sys.pwr with inhibit := false }
    let s := if s.pwrState = 2 then s.setPwrState 1 else s
    let due := s.nvDue
    let s := forEach due ({ s with nvDue := [] }) (fun t a => t.nvCommit a)
    let s := forEach ((List.range 434).filter (fun k => due.contains (Reg.VGRP k))) s (fun t k => t.storeLanes k)
    let s := forEach (List.range 20) s (fun t m => if due.contains (Reg.CYC40 m) then t.wearWrite m else t)
    let s := forEach (List.range 20) s (fun t m => if (t.stack m).commitDue then t.commitMaps m else t)
    let s := forEach (List.range 32) s (fun t b => if (t.bank b).storeDue then t.storeCal b else t)
    let s := forEach (s.rings.map (·.1)) s (fun t k => if (t.ring k).storeDue then t.setRing k (t.ring k).storeCoefs else t)
    let due := s.sys.rst.due
    let s := forEach due (s.setRst { s.sys.rst with due := [] }) (fun t e => (t.putTrim e.1 e.2).useTrim e.1)
    if s.sys.cnd.flashDue then s.flashWritten else s

end State

/-- POWER_ON (R393). -/
def execPowerOn (e : StartEnv) (s : State) : Result := finish s (s.powerOn e)

/-- PIN_RESET (R388 to R392). -/
def execPinReset (s : State) : Result := finish s s.pinReset

/-- RESET_RELEASE (R388, R393). -/
def execResetRelease (e : StartEnv) (s : State) : Result := finish s (s.resetRelease e)

/-- ROOT_LOCK (R371, R377, R393). -/
def execRootLock (s : State) : Result := finish s s.rootLocks

/-- REF_ABSENT (R394). -/
def execRefAbsent (s : State) : Result := finish s s.refAbsent

/-- TRIM_WRITE (R401). -/
def execTrimWrite (target : BitVec 16) (words : List Word) (s : State) : Result := finish s (s.writeTrim target.toNat words)

/-- SERVICE_START (R405). -/
def execServiceStart (s : State) : Result := finish s (if s.sys.pwr.service then s else s.serviceStarts)

/-- NV_INHIBIT (R405, R410). -/
def execNvInhibit (s : State) : Result := finish s s.inhibitBegins

/-- INHIBIT_CLEAR (R410). -/
def execInhibitClear (s : State) : Result := finish s s.inhibitEnds

/-- SERVICE_STOP (R405): all state is lost. -/
def execServiceStop (s : State) : Result := finish s s.serviceStops

end Sys2Proof.Machine
end

