-- ==== Sys2Proof/Machine/Regs.lean ====
section
/-! DEFINITION. The register window (R13 to R15, R474 to R480): what a read gives, writes by access code, guarded
writes, parity, and the commands that a GO bit starts. -/
namespace Sys2Proof.Machine

/-- Requesters as GLB_FIRST codes them. -/
def requesterCode : Requester → Nat
  | .host => 0
  | .firmware => 1
  | .i3c => 2

/-- Block 0–15, or 16 plus the region window, of a BAR0 offset (R474, R479). -/
def blockOf (a : Nat) : Nat := if a < 0x1000000 then a / 0x100000 else 16 + (a - 0x1000000) / 0x40000

/-- The region whose window holds an offset. -/
def windowRegion (a : Nat) : Option Nat :=
  if 0x1000000 ≤ a ∧ a < 0x2000000 then some ((a - 0x1000000) / 0x40000) else none

/-- Registers that firmware alone writes (R477). -/
def firmwareOnly (a : Nat) : Bool := (0x500010 ≤ a && a < 0x500020) || (0x500280 ≤ a && a < 0x500380)

/-- Registers whose bit 31 is a GO. -/
def goRegs : List Nat :=
  [Reg.PAR_CMD, Reg.PWR_CMD, Reg.DOM_CMD, Reg.CFG_CMD, Reg.CND_CMD, Reg.QP_RESET, Reg.RT_CMD, Reg.MC_CMD, Reg.WIN_CMD,
   Reg.XLT_CMD, Reg.KEY_CMD, Reg.LM_CMD, Reg.SEC_CMD]

namespace State

/-- An event of the GLB block; the first since all were clear is kept with its requester (3: the module) and BAR0
word offset (R487). -/
def glbEvent (s : State) (who off i : Nat) : State :=
  s.raiseFirst Reg.GLB_EVT Reg.GLB_FIRST i (who * 2 ^ 30 + off / 4 % 2 ^ 26 * 2 ^ 4 + i)

/-- The requester reaches the registers: the host not in D3hot, nobody while the module is held in reset (R469). -/
def open_ (s : State) (who : Requester) : Bool :=
  !s.sys.rst.held && (who != .host || !s.sys.host.d3)

/-! Reads. -/

/-- Blocks and windows frozen. -/
def frozenCount (s : State) : Nat := sumNat ((List.range 80).map (fun i => b2n (s.frozen i)))

/-- SES_STAT: the four sampling units take the slots that wait for them (R213). -/
def sesStat (s : State) : Word :=
  let free := (List.range 64).filter (fun p => bit (s.reg (Reg.SLOT_STAT p)) 31 && s.slotState p == 0)
  BitVec.ofNat 32 (min 4 s.ses.sampling.length * 2 ^ 16 + min 63 s.ses.opens.length * 2 ^ 8 + free.length)

/-- QP_VIEW of the queue pair that QP_SEL names. -/
def qpView (s : State) : Word :=
  let q := s.qp (fld (s.hw Reg.QP_SEL) 17 0)
  let st := if q.error then 2 else if q.req.isSome then 1 else 0
  BitVec.ofNat 32 (q.lastStatus * 2 ^ 24 + st * 2 ^ 22 + q.rqHead)

def fabStat (s : State) : Word :=
  BitVec.ofNat 32 (min 16384 s.fab.send.length * 2 ^ 16 + min 0x7FFF s.fab.recv.length)

def msfStat (s : State) : Word :=
  let full := (s.msf.homes.filter (fun e => 512 ≤ e.2.queue.length)).length
  BitVec.ofNat 32 (((List.range 8).filter (fun k => (s.keyRegion k).isSome)).length * 2 ^ 16 + full)

def lpeStat (s : State) : Word :=
  let count (p : Nat → Bool) : Nat := ((List.range 32).filter p).length
  BitVec.ofNat 32 (count (fun b => s.bankStateOf b == 3) * 2 ^ 16 + count (fun b => s.bankStateOf b == 2 && !s.bankBound b) * 2 ^ 8 +
    count (fun b => s.bankStateOf b == 2))

/-- BANK_CAL, with the frames since the trims in force were measured. -/
def bankCal (s : State) (b : Nat) : Word :=
  let age := match (s.bank b).calFrame with
    | some n => min 0xFFFF (s.devFrame - n)
    | none => 0
  setFld (s.reg (Reg.BANK_CAL b)) 31 16 age

/-- CLK_STAT: the SOURCE is TIME_OK (R382, R403). -/
def clkStat (s : State) : Word :=
  let w := s.reg Reg.CLK_STAT
  if s.role = 1 then setFld w 28 28 1 else w

/-- HOLD_US counts while REFCLK is lost (R403). -/
def holdView (s : State) : Word :=
  let r := s.refState
  if r = 2 ∨ r = 3 ∨ r = 4 then BitVec.ofNat 32 s.holdUs else s.reg Reg.HOLD_US

/-- The value of a register at its own address. -/
def plainView (s : State) (k : RegKind) (a : Nat) : Word :=
  if k.access = .wo then 0
  else if a = Reg.GLB_STAT then setFld (s.reg a) 22 16 s.frozenCount
  else if a = Reg.CLK_STAT then s.clkStat
  else if a = Reg.DT_LO then BitVec.ofNat 32 s.dt
  else if a = Reg.HOLD_US then s.holdView
  else if a = Reg.IRQ_STAT then s.irqStat
  else if 0x500100 ≤ a ∧ a < 0x500180 then s.levelWord ((a - 0x500100) / 4)
  else if 0x500180 ≤ a ∧ a < 0x500200 then s.pendView false ((a - 0x500180) / 4)
  else if 0x500200 ≤ a ∧ a < 0x500280 then s.pendView true ((a - 0x500200) / 4)
  else if a = Reg.HSUM 0 then s.hsum 0
  else if a = Reg.HSUM 1 then s.hsum 1
  else if a = Reg.SES_STAT then s.sesStat
  else if a = Reg.QP_VIEW then s.qpView
  else if a = Reg.FAB_STAT then s.fabStat
  else if a = Reg.MSF_STAT then s.msfStat
  else if a = Reg.LPE_STAT then s.lpeStat
  else if 0xE00100 ≤ a ∧ a < 0xE00300 ∧ a % 16 = 8 then s.bankCal ((a - 0xE00100) / 16)
  else s.reg a

/-- Bits that show a measurement which no command brings (log 4): a rail's and a domain's while it is on, a guest
site's while it is ACTIVE, a laser module's while it is there, the input voltage. -/
def measuredMask (s : State) (a : Nat) : Word :=
  if a = Reg.PWR_MEAS then 0xFFFF
  else if 0xC00A00 ≤ a ∧ a < 0xC00A60 then (if bit (s.reg a) 31 then 0xFFF000 else 0)
  else if 0x300100 ≤ a ∧ a < 0x3001C0 then (if bit (s.reg a) 31 then 0x3FF0000 else 0)
  else if a = 0xC00018 ∨ a = 0xC0001C then (if fld (s.reg a) 31 29 = 4 then 0xFF else 0)
  else if 0xB00100 ≤ a ∧ a < 0xB00180 ∧ a % 16 = 0 then (if fld (s.reg a) 31 29 = 0 then 0 else 0xFFFF)
  else 0

/-- The register at an offset as a read gives it. -/
def regView (s : State) (k : RegKind) (a : Nat) : Word :=
  let m := s.measuredMask a
  if m = 0 then s.plainView k a else (s.plainView k a &&& ~~~m) ||| (s.freeWord &&& m)

/-- What a read of a BAR0 offset gives: the register, the complement of a guarded one at its address + 0x4000, and zero
at an offset without a register or in the window of a half that is OFF (R13, R474, R477). -/
def readReg (s : State) (a : Nat) : Word :=
  let off := match windowRegion a with
    | some r => s.regionPoint r == 2
    | none => false
  if off then 0
  else match kindAt a with
    | some k => s.regView k a
    | none => match kindAt (a - 0x4000) with
      | some k => if 0x4000 ≤ a ∧ k.access = .rwg then ~~~(s.regView k (a - 0x4000)) else 0
      | none => 0

/-- The state after a read: a measured value is drawn. -/
def afterRead (s : State) (a : Nat) : State := if s.measuredMask a = 0 then s else s.useFree 1

/-! Parity (R479, R480). -/

/-- The bit of a block or window in PAR_STAT, PAR_REG_LO or PAR_REG_HI. -/
def setFrozen (s : State) (i v : Nat) : State :=
  if i < 16 then s.wf Reg.PAR_STAT i i v
  else if i < 48 then s.wf Reg.PAR_REG_LO (i - 16) (i - 16) v
  else s.wf Reg.PAR_REG_HI (i - 48) (i - 48) v

/-- A parity mismatch of an RW or RWG register. -/
def parityFails (s : State) (a : Nat) : State :=
  let h := s.sys.host
  let covered := match kindAt a with
    | some k => k.access == .rw || k.access == .rwg
    | none => false
  if !covered || h.dirty.contains a then s
  else
    let s := s.setHost { h with dirty := insertNat a h.dirty, failed := insertNat a h.failed }
    let s := s.setReg Reg.PAR_FIRST (BitVec.ofNat 32 (a / 4))
    if s.frozen (blockOf a) then s else (s.setFrozen (blockOf a) 1).glbEvent 3 a 3

/-- A write recomputes parity. -/
def parityClean (s : State) (a : Nat) : State :=
  let h := s.sys.host
  if h.dirty.contains a then s.setHost { h with dirty := h.dirty.filter (· != a) } else s

/-- An unfreeze: it succeeds if every register of the block checks clean. -/
def tryUnfreeze (s : State) (t : Nat) : State :=
  let h := s.sys.host
  let s := s.wf Reg.PAR_CMD 31 31 0
  if 80 ≤ t || !s.frozen t then s.wf Reg.PAR_CMD 8 7 2
  else if h.dirty.any (fun a => blockOf a == t) then s.wf Reg.PAR_CMD 8 7 1
  else
    let s := s.setHost { h with failed := h.failed.filter (fun a => blockOf a != t) }
    (s.setFrozen t 0).wf Reg.PAR_CMD 8 7 0

/-! The commands of the GO bits. -/

/-- A field of a command register as an index. -/
def fin (n : Nat) (h : 0 < n) (x : Nat) : Fin n := ⟨x % n, Nat.mod_lt x h⟩
def f64 (x : Nat) : Fin 64 := fin 64 (by decide) x

/-- A loader command (R246): a reserved OP does nothing, but counts in DROPPED where the loader is busy. -/
def goLoader (s : State) (w : Word) : State :=
  let f := f64 (fld w 5 0)
  let at_ := bit w 21
  let s := s.wf Reg.CFG_CMD 31 31 0
  match fld w 27 24 with
  | 1 => s.cmdStage f (BitVec.ofNat 2 (fld w 23 22))
  | 2 => s.cmdCommit f at_
  | 3 => s.cmdCommitAll at_
  | 4 => s.cmdStart f
  | 5 => s.cmdHold f
  | 6 => s.cmdUnbind f
  | 7 => s.cmdForceUnbind f
  | 8 => s.cmdDiscard f
  | _ => s.loaderCmd (fun t => t)

/-- A command register's GO is carried out. One that needs what lies outside the module (an image, a blob, a laser
module's levels) keeps GO at 1 until that command's own row brings it. -/
def runGo (s : State) (a : Nat) : State :=
  let w := s.reg a
  if a = Reg.PAR_CMD then s.tryUnfreeze (fld w 6 0)
  else if a = Reg.PWR_CMD then
    (if fld w 3 0 = 1 then s.orderShutDown else if fld w 3 0 = 2 then s.restart else s.wf a 31 31 0)
  else if a = Reg.DOM_CMD then
    (if 48 ≤ fld w 5 0 then s.wf a 31 31 0 else if bit w 30 then s.askOn (fld w 5 0) else s.askOff (fld w 5 0))
  else if a = Reg.CFG_CMD then s.goLoader w
  else if a = Reg.CND_CMD then
    (if fld w 27 24 = 1 then s.orderSwitch else if fld w 27 24 = 2 then s else if fld w 27 24 = 3 then s.restartStandby
     else s.wf a 31 31 0)
  else if a = Reg.QP_RESET then s.cmdQpReset (BitVec.ofNat 18 (fld w 17 0))
  else if a = Reg.RT_CMD then
    (if bit w 30 then s.cmdRtWrite (BitVec.ofNat 18 (fld w 17 0)) else s.cmdRtRead (BitVec.ofNat 18 (fld w 17 0)))
  else if a = Reg.MC_CMD then
    (let g := BitVec.ofNat 10 (fld w 25 16)
     let i := BitVec.ofNat 8 (fld w 7 0)
     if bit w 30 then s.cmdMcWrite g (bit w 8) i else s.cmdMcRead g (bit w 8) i)
  else if a = Reg.WIN_CMD then
    (let p := BitVec.ofNat 11 (fld w 27 17)
     if bit w 30 then s.cmdWinWrite p (f64 (fld w 5 0)) else s.cmdWinRead p (f64 (fld w 5 0)))
  else if a = Reg.XLT_CMD then
    (let e := fin 16 (by decide) (fld w 27 24)
     if bit w 30 then s.cmdXltWrite e (f64 (fld w 21 16)) else s.cmdXltRead e (f64 (fld w 21 16)))
  else if a = Reg.KEY_CMD then
    (let k := fin 8 (by decide) (fld w 29 27)
     if bit w 30 then s.cmdKeyClose k else s.cmdKeyOpen k (bit w 26) (bit w 25) (f64 (fld w 21 16)) (f64 (fld w 5 0)))
  else s

/-- UPDATE of a module in ROM boot, which the ROM carries out before FW_READY (R449, R503). -/
def romUpdate (s : State) (a : Nat) : Bool :=
  a == Reg.CND_CMD && fld (s.reg a) 27 24 == 2 && s.sys.cnd.romBoot

def fwReady (s : State) : Bool := bit (s.reg Reg.GLB_STAT) 31

/-- A value takes effect in a guarded register: reserved and read-only bits keep, a GO in a frozen block is refused, and a
GO before the firmware runs is held (R479, R503). -/
def applyGuarded (s : State) (who : Requester) (a : Nat) (v : Word) : State :=
  match kindAt a with
  | none => s
  | some k =>
    let m := BitVec.ofNat 32 k.wmask
    let s := (s.setReg a ((s.reg a &&& ~~~m) ||| (v &&& m))).parityClean a
    if goRegs.contains a && bit v 31 then
      if s.frozen (blockOf a) && a != Reg.PAR_CMD then (s.wf a 31 31 0).addSat Reg.ACC_ERR 31 24 1
      else if !s.fwReady && !s.romUpdate a then
        let h := s.sys.host
        s.setHost { h with goHeld := h.goHeld.filter (fun e => e.2.1 != a) ++ [(requesterCode who, a, v)] }
      else s.runGo a
    else if (a = Reg.GST_CTL 0 ∨ a = Reg.GST_CTL 1) ∧ bit v 30 then s.guestReset ((a - Reg.GST_CTL 0) / 4)
    else s

/-- The GO writes that were held are carried out, in the order in which they were written (R503). -/
def runHeld (s : State) : State :=
  let h := s.sys.host
  forEach h.goHeld (s.setHost { h with goHeld := [] }) (fun t e => t.runGo e.2.1)

/-! Guarded writes (R13, R478). -/

/-- 256 register clocks, in device ticks. -/
def guardTicks : Nat := 4608

def guardOf (s : State) (who : Requester) : Option GuardPend := tget none s.sys.host.guards (requesterCode who)
def setGuard (s : State) (who : Requester) (g : Option GuardPend) : State :=
  s.setHost { s.sys.host with guards := tset none s.sys.host.guards (requesterCode who) g }

/-- A guarded write is discarded and counted; the I3C target has no count of its own (log 33). -/
def countDrop (s : State) (who : Requester) (a : Nat) : State :=
  let s := match who with
    | .host => s.addSat Reg.GUARD_CNT 15 0 1
    | .firmware => s.addSat Reg.GUARD_CNT 31 16 1
    | .i3c => s
  s.glbEvent (requesterCode who) a 2

/-- The pending write of a requester is discarded. -/
def dropGuard (s : State) (who : Requester) : State :=
  match s.guardOf who with
  | none => s
  | some g => (s.setGuard who none).countDrop who g.addr

/-- A pending write whose count has expired is discarded. -/
def expireGuard (s : State) (who : Requester) : State :=
  match s.guardOf who with
  | some g => if g.at_ + guardTicks < s.dt then s.dropGuard who else s
  | none => s

/-- A write to a guarded address makes it pending, in place of an earlier one, which is discarded. -/
def guardWrite (s : State) (who : Requester) (a : Nat) (v : Word) : State :=
  if isRWG a then ((s.expireGuard who).dropGuard who).setGuard who (some ⟨a, v, s.dt⟩) else s

/-- A write to the complement address of guarded register a. -/
def guardConfirm (s : State) (who : Requester) (a : Nat) (v : Word) : State :=
  if !isRWG a then s
  else
    let s := s.expireGuard who
    match s.guardOf who with
    | some g =>
      if g.addr ≠ a then s.countDrop who a
      else if v = ~~~g.value then (s.setGuard who none).applyGuarded who a g.value
      else s.dropGuard who
    | none => s.countDrop who a

/-! Plain writes. -/

/-- A vector's control word is written: clearing its mask bit releases it (R486). -/
def msixWrite (s : State) (a : Nat) (v : Word) : State :=
  let s := s.setReg a v
  if a % 16 = 12 ∧ !bit v 0 then s.releaseVector ((a - 0x80000) / 16) else s

/-- An RW register stores the value; reserved bits stay zero (R13, R15). -/
def storeRw (s : State) (k : RegKind) (a : Nat) (v : Word) : State :=
  let m := BitVec.ofNat 32 k.wmask
  let s := s.parityClean a
  if 0xA00100 ≤ a ∧ a < 0xA00500 ∧ a % 16 = 8 then s.cmdMqEnable (f64 ((a - 0xA00100) / 16)) (v &&& m)
  else if 0x80000 ≤ a ∧ a < 0x80400 then s.msixWrite a (v &&& m)
  else
    let fixed := if 0x500280 ≤ a ∧ a < 0x500300 then fixedFast ((a - 0x500280) / 4) else 0
    let s := s.setReg a (((s.reg a &&& ~~~m) ||| (v &&& m)) ||| fixed)
    if a = Reg.PWR_CAP then s.showCap else s

/-- A write to a WO register acts on its value: claims, dones and ends of interrupt. -/
def storeWo (s : State) (a : Nat) (v : Word) : State :=
  let n := fld v 9 0
  if a = Reg.NCLAIM then s.claim n false
  else if a = Reg.NDONE then s.complete n false
  else if a = Reg.FCLAIM then s.claim n true
  else if a = Reg.FDONE then s.complete n true
  else if a = Reg.HEOI 0 then s.endInterrupts v.toNat
  else if a = Reg.HEOI 1 then s.endInterrupts (v.toNat * 2 ^ 32)
  else s

/-- The flags of a CELL_STAT that its cell has set in the present register clock: a write of 1 leaves them set (R76; log 50). -/
def freshFlags (s : State) (a : Nat) : Word :=
  let o := a % 0x40000
  let p := (o % 0x100 - 0x10) / 4
  if 0x1000000 ≤ a ∧ a < 0x2000000 ∧ 0x20000 ≤ o ∧ o < 0x20800 ∧ 0x10 ≤ o % 0x100 ∧ p < 17 then
    let c := s.cell (posKey ((a - 0x1000000) / 0x40000) ((o - 0x20000) / 0x100) p)
    if c.flagAt = s.regClock then c.flagNew else 0
  else 0

/-- A write of one aligned word to a BAR0 offset by its access code (R13, R474, R477, R478). -/
def writeReg (s : State) (who : Requester) (a : Nat) (v : Word) : State :=
  let off := match windowRegion a with
    | some r => s.regionPoint r == 2
    | none => false
  if off then s.addSat Reg.ACC_ERR 23 16 1
  else if firmwareOnly a && who != .firmware then (s.addSat Reg.ACC_ERR 15 8 1).glbEvent (requesterCode who) a 1
  else match kindAt a with
    | some k => match k.access with
      | .ro => s
      | .rw => s.storeRw k a v
      | .wo => s.storeWo a v
      | .w1c => s.setReg a (s.reg a &&& ~~~(v &&& BitVec.ofNat 32 k.wmask &&& ~~~(s.freshFlags a)))
      | .rwg => s.guardWrite who a v
    | none => if 0x4000 ≤ a then s.guardConfirm who (a - 0x4000) v else s

/-- A request that is not one aligned word with all bytes enabled is counted (R475). -/
def badSize (s : State) (who : Requester) (a : Nat) : State :=
  (s.addSat Reg.ACC_ERR 7 0 1).glbEvent (requesterCode who) a 0

/-- The offsets that the I3C target writes (R496). -/
def i3cWrites (a : Nat) : Bool :=
  a == Reg.PWR_CAP || a == Reg.PWR_CMD || a == Reg.PWR_CMD + 0x4000 || a == Reg.PWR_EVT || a == Reg.THM_EVT

/-- A write of the I3C target: within its reach it is acknowledged and acts, outside it is neither (R495, R496). -/
def i3cWriteAt (s : State) (a : Nat) (v : Word) : State :=
  if i3cWrites a then (s.emit (.i3c true)).writeReg .i3c a v else s.emit (.i3c false)

/-- A request to write a word comes from a requester that reaches the registers (R475, R476, R495). -/
def writeWord (s : State) (who : Requester) (a : Nat) (v : Word) : State :=
  if !s.open_ who then s
  else if who = .i3c then s.i3cWriteAt a v
  else if a % 4 ≠ 0 then s.badSize who a
  else s.writeReg who a v

end State

/-- REGISTER_WRITE (R13, R475): a write of one word. -/
def execRegisterWrite (who : Requester) (addr : BitVec 26) (value : Word) (s : State) : Result :=
  finish s (s.writeWord who addr.toNat value)

/-- GUARDED_WRITE (R478): addr is the guarded register's own address. -/
def execGuardedWrite (who : Requester) (addr : BitVec 26) (value : Word) (s : State) : Result :=
  finish s (s.writeWord who addr.toNat value)

/-- GUARD_COMPLEMENT (R478): addr is the address written, 0x4000 above the guarded register's. -/
def execGuardComplement (who : Requester) (addr : BitVec 26) (value : Word) (s : State) : Result :=
  finish s (s.writeWord who addr.toNat value)

/-- GUARD_DROP (R478): the count of a pending write expires. -/
def execGuardDrop (who : Requester) (s : State) : Result := finish s (s.dropGuard who)

/-- PARITY (R479). -/
def execParity (addr : BitVec 26) (s : State) : Result := finish s (s.parityFails addr.toNat)

/-- UNFREEZE (R480). -/
def execUnfreeze (target : BitVec 7) (s : State) : Result :=
  finish s ((s.wf Reg.PAR_CMD 6 0 target.toNat).tryUnfreeze target.toNat)

end Sys2Proof.Machine
end

