-- ==== Sys2Proof/Machine/Host.lean ====
section
/-! DEFINITION. The host interface, the aperture, the I3C target and the test port (16, 17): R466 to R473, R475,
R495, R496, R500. -/
namespace Sys2Proof.Machine

namespace State

/-! The link and the function (R467 to R469). -/

/-- PCI Express rate code of GLB_LINK. -/
def rateCode (gts : Nat) : Nat := if gts = 128 then 7 else if gts = 64 then 6 else 5

/-- The link trains at a rate and width; without flit mode there is no link. -/
def trainLink (s : State) (rate width : Nat) (flit : Bool) : State :=
  let top := rateCode (strapRate (s.rf Reg.STRAP 3 0))
  if s.sys.rst.held then s
  else if !flit ∨ rate = 0 ∨ ¬(width = 1 ∨ width = 2 ∨ width = 4) then
    ((s.setHost { s.sys.host with link := false }).wf Reg.GLB_LINK 31 23 0)
  else
    let s := if s.sys.host.link then s.addSat Reg.GLB_LINK 15 0 1 else s
    let r := min rate top
    let s := ((s.wf Reg.GLB_LINK 31 28 r).wf Reg.GLB_LINK 27 24 width).wf Reg.GLB_LINK 23 23 1
    let s := s.setHost { s.sys.host with link := true }
    if r < top ∨ width < 4 then s.glbEvent 3 0 7 else s

/-- A register table without the entries of a range, which read their reset values. -/
def clearRegs (s : State) (lo hi : Nat) : State := { s with regs := tclear lo hi s.regs }

/-- A hot, link-down or function level reset: host interface state alone (R468). -/
def hostReset (s : State) (k : HostReset) : State :=
  let s := ((s.clearRegs 0x80000 0x80808).setReg Reg.APT_CTL 0).clearRegs 0x500380 0x500400
  let s := s.setGuard .host none
  let s := s.setHost { s.sys.host with msixEnable := false, funcMask := false, d3 := false }
  let s := s.wf Reg.GLB_LINK 22 20 0
  if k = .flr then s
  else ((s.setHost { s.sys.host with link := false }).wf Reg.GLB_LINK 31 23 0).glbEvent 3 0 6

def enterD3 (s : State) : State := (s.setHost { s.sys.host with d3 := true }).wf Reg.GLB_LINK 22 20 3

/-- Every vector whose summary is 1 sends its message. -/
def returnD0 (s : State) : State :=
  if !s.sys.host.d3 then s
  else
    forEach (List.range 64) ((s.setHost { s.sys.host with d3 := false }).wf Reg.GLB_LINK 22 20 0) (fun t g =>
      if t.summary g then t.msixDue g else t)

/-! The aperture (R470 to R473). -/

def aptCtl (s : State) : Word := s.hw Reg.APT_CTL

/-- DPA of an offset into BAR2. -/
def aptDpa (s : State) (x : Nat) : Nat := min 316 (fld s.aptCtl 8 0) * 2 ^ 34 + x

/-- An access is accepted. -/
def aptOk (s : State) (x n : Nat) (wr : Bool) : Bool :=
  let f := fld s.aptCtl 29 24
  let a := s.aptDpa x
  bit s.aptCtl 31 && s.inSlices f a n &&
  (!wr || (bit s.aptCtl 30 && (s.facetState f == 2 || s.facetState f == 5) && !s.areaLocked a n))

/-- A refused access is counted. -/
def aptRefuse (s : State) : State := (s.count Reg.APT_CNT 1).glbEvent 0 0 4

/-- The lines of a range. -/
def linesOf (a n : Nat) : List Nat := (List.range ((a + n - 1) / 128 + 1 - a / 128)).map (fun i => a / 128 + i)

/-- The bytes of a range as the agents of its lines serve them, and whether any is poisoned (R99, R472). -/
def aptBytes (s : State) (a n : Nat) : Bytes := sub ((linesOf a n).flatMap (fun l => s.lineBytes l)) (a % 128) n
def aptBad (s : State) (a n : Nat) : Bool := (linesOf a n).any (fun l => s.linePoison l) && s.poisoned a n

/-- A read of n bytes: it comes behind the requests that its lines' agents hold (R352). found: what it meets in the 64 B
units that it reads (R99). -/
def aptRead (s : State) (x n : Nat) (found : List ScrubFound) : State :=
  if !s.aptOk x n false then s.aptRefuse.emit (.aperture (List.replicate n 0xFF) false)
  else
    let a := s.aptDpa x
    let s := (forEach (linesOf a n) s (fun t l => t.homeFlush l)).readFinds a (found.take ((a + n - 1) / 64 + 1 - a / 64))
    let t := if s.aptBad a n then s.glbEvent 0 0 5 else s
    t.emit (.aperture (s.aptBytes a n) (s.aptBad a n))

/-- A write: a whole line clears its poison (R354). -/
def aptWrite (s : State) (x : Nat) (b : Bytes) : State :=
  if !s.aptOk x b.length true then s.aptRefuse
  else
    forEach (writeParts (s.aptDpa x) b) s (fun t e =>
      let t := t.homeFlush e.1
      let h := homeOf (e.1 * 128)
      let y := t.home h
      match y.merges.findIdx? (fun m => m.line == e.1) with
      | some i => t.setHome h { y with merges := y.merges.modify i (fun m => { m with bytes := overlay m.bytes e.2.1 e.2.2 }) }
      | none => t.writeLine e.1 (overlay [] e.2.1 e.2.2))

/-! Register accesses that are refused, and the I3C target (R475, R495, R496). -/

/-- A request that is not one aligned word with all bytes enabled. An aligned 64-bit access of the MSI-X table and PBA is
served; data are the words of a write. -/
def sizeError (s : State) (who : Requester) (isWrite : Bool) (a words : Nat) (data : List Word) : State :=
  let served := 0x80000 ≤ a && a + 8 ≤ 0x80808 && a % 8 == 0 && words == 2
  let value (i : Nat) : Word := if served then s.readReg (a + 4 * i) else 0
  let t := if served then s else s.badSize who a
  if !isWrite then forEach (List.range words) t (fun u i => u.emit (.read (value i)))
  else if served then forEach (data.zipIdx.take 2) t (fun u e => u.writeReg who (a + 4 * e.2) e.1)
  else t

/-- Offsets whose reads change state, which the target reads as zero. -/
def i3cHidden (a : Nat) : Bool := a == Reg.SEC_NONCE || a == Reg.KEY_VALUE || a == Reg.DT_LO

def i3cReadAt (s : State) (a : Nat) : State :=
  if 0x1000000 ≤ a ∨ i3cHidden a then s.emit (.read 0)
  else if a % 4 ≠ 0 then s.sizeError .i3c false a 1 []
  else (s.emit (.read (s.readReg a))).afterRead a

end State

/-- SIZE (R475). -/
def execSize (who : Requester) (isWrite : Bool) (offset : BitVec 26) (access : WordAccess) (s : State) : Result :=
  finish s (if s.open_ who then s.sizeError who isWrite offset.toNat access.words access.data else s)

/-- HOT_RESET (R468). -/
def execHotReset (kind : HostReset) (s : State) : Result := finish s (s.hostReset kind)

/-- D3HOT (R469). -/
def execD3hot (s : State) : Result := finish s s.enterD3

/-- D0_RETURN (R469). -/
def execD0Return (s : State) : Result := finish s s.returnD0

/-- LINK_TRAINING (R467). -/
def execLinkTraining (rate width : BitVec 4) (flit : Bool) (s : State) : Result :=
  finish s (s.trainLink rate.toNat width.toNat flit)

/-- APERTURE_READ (R470 to R472). -/
def execApertureRead (x : BitVec 36) (span : ApertureSpan) (s : State) : Result :=
  finish s (if s.open_ .host ∧ 0 < span.len then s.aptRead x.toNat span.len span.found else s)

/-- APERTURE_WRITE (R470 to R472). -/
def execApertureWrite (x : BitVec 36) (bytes : Bytes) (s : State) : Result :=
  finish s (if s.open_ .host ∧ bytes ≠ [] then s.aptWrite x.toNat bytes else s)

/-- APT_CTL (R473): every earlier aperture request has been served. -/
def execAptCtl (value : Word) (s : State) : Result :=
  finish s (if s.open_ .host then s.writeReg .host Reg.APT_CTL value else s)

/-- I3C_READ (R495, R496). The target answers in any state of the module while the service domain runs. -/
def execI3cRead (addr : Word) (s : State) : Result := finish s (if s.open_ .i3c then s.i3cReadAt addr.toNat else s)

/-- I3C_WRITE (R495, R496). -/
def execI3cWrite (addr value : Word) (s : State) : Result := finish s (s.writeWord .i3c addr.toNat value)

/-- EXTEST (R500): in force only while RST_N is low; otherwise BYPASS. -/
def execExtest (s : State) : Result := finish s (s.setHost { s.sys.host with extest := s.sys.rst.rstLow })

/-- TRST_N (R500): the test port alone is reset. -/
def execTrstN (s : State) : Result := finish s (s.setHost { s.sys.host with extest := false })

end Sys2Proof.Machine
end

