-- ==== Sys2Proof/Machine/Boot.lean ====
section
/-! DEFINITION. Firmware boot, ROM boot, and the command UPDATE (15): R396, R416, R448 to R450, R503. -/
namespace Sys2Proof.Machine

namespace State

/-- The units that passed their self-test run an image. -/
def runImage (s : State) (x : FwImage) : State :=
  forEach [0, 1] s (fun t u => if t.claimLevel u = 0 then t else t.setImage u x)

/-- The active unit runs the firmware: the other begins to sync, the quadrants and every memory stack are switched on,
and the GO writes that waited are carried out (R416, R503). -/
def firmwareRuns (s : State) : State :=
  let s := s.wf Reg.GLB_STAT 31 31 1
  let s := if s.standby = 1 then s.setStandby 2 else s
  let s := s.setPwrState (if s.sys.pwr.inhibit then 2 else 1)
  let s := forEach ([44, 45, 46, 47] ++ (List.range 20).map stackDomain) s (fun t d => t.startDomain d)
  s.runHeld

/-- The firmware may boot: the root is locked and the module is neither held, off nor asking for a reset. -/
def mayBoot (s : State) : Bool :=
  s.sys.clk.locked && !s.sys.rst.held && s.sys.pwr.service && !s.isOff && !s.fwReady && !bit (s.reg Reg.CND_STAT) 27

/-- Each unit's ROM verifies the image in flash, or starts ROM boot (R396, R449). -/
def boot (s : State) (b : Bytes) (readOk : Bool) (sig : SigCheck) : State :=
  if !s.mayBoot then s
  else
    let s := s.endLoad
    let bad := s.imageBad b readOk sig
    let flash := strapFlash (s.rf Reg.STRAP 3 0)
    if flash ∧ bad.isNone then
      let x := imageOf b
      ((s.setCnd { s.sys.cnd with flash := x, romBoot := false }).runImage x).firmwareRuns
    else
      let s := if flash then s.sigEvent (bad.getD 0) else s
      (s.setCnd { s.sys.cnd with romBoot := true }).raise Reg.CND_EVT 7

/-- UPDATE in ROM boot: the ROM reads, verifies and runs the image, and then writes it to flash as the sixth step of an
update does (R449). -/
def romImage (s : State) (b : Bytes) (readOk : Bool) (sig : SigCheck) : State :=
  let s := ((s.cndDone 0).setUpdStep 2).wf Reg.UPD_STAT 23 16 0
  match s.imageBad b readOk sig with
  | some c => s.updFail c
  | none =>
    let x := imageOf b
    let s := s.setCnd { s.sys.cnd with new := some x, romBoot := false }
    ((s.setUpdStep 6).runImage x).firmwareRuns

/-- UPDATE (R449, R450). -/
def update (s : State) (b : Bytes) (readOk : Bool) (sig : SigCheck) : State :=
  if s.sys.cnd.romBoot then s.romImage b readOk sig
  else if s.fwReady then s.startUpdate b readOk sig
  else s

end State

/-- FIRMWARE_BOOT (R449). -/
def execFirmwareBoot (image : Bytes) (readOk : Bool) (sig : SigCheck) (s : State) : Result := finish s (s.boot image readOk sig)

/-- UPDATE (R449, R450). -/
def execUpdate (image : Bytes) (readOk : Bool) (sig : SigCheck) (s : State) : Result := finish s (s.update image readOk sig)

end Sys2Proof.Machine
end

