-- ==== Sys2Proof/Machine/Dispatch.lean ====
section
/-! DEFINITION. One arm per command; each calls that command's meaning. -/
namespace Sys2Proof.Machine

/-- The effect of a command on everything but the queue. -/
def exec (i : Instr) (s : State) : Host.Outcome State Fault Refusal :=
  match i with
  | .nop c ins e => Sys2Proof.Machine.execNop c ins e s
  | .mma c ins e => Sys2Proof.Machine.execMma c ins e s
  | .mmas c ins e => Sys2Proof.Machine.execMmas c ins e s
  | .aclr c ins e => Sys2Proof.Machine.execAclr c ins e s
  | .ald c ins e => Sys2Proof.Machine.execAld c ins e s
  | .ast c ins e => Sys2Proof.Machine.execAst c ins e s
  | .vadd c ins e => Sys2Proof.Machine.execVadd c ins e s
  | .vsub c ins e => Sys2Proof.Machine.execVsub c ins e s
  | .vmul c ins e => Sys2Proof.Machine.execVmul c ins e s
  | .vfma c ins e => Sys2Proof.Machine.execVfma c ins e s
  | .vmax c ins e => Sys2Proof.Machine.execVmax c ins e s
  | .vmin c ins e => Sys2Proof.Machine.execVmin c ins e s
  | .vexp2 c ins e => Sys2Proof.Machine.execVexp2 c ins e s
  | .vlog2 c ins e => Sys2Proof.Machine.execVlog2 c ins e s
  | .vrcp c ins e => Sys2Proof.Machine.execVrcp c ins e s
  | .vrsq c ins e => Sys2Proof.Machine.execVrsq c ins e s
  | .vcvt c ins e => Sys2Proof.Machine.execVcvt c ins e s
  | .vrsum c ins e => Sys2Proof.Machine.execVrsum c ins e s
  | .vrmax c ins e => Sys2Proof.Machine.execVrmax c ins e s
  | .ld c ins e => Sys2Proof.Machine.execLd c ins e s
  | .st c ins e => Sys2Proof.Machine.execSt c ins e s
  | .mov c ins e => Sys2Proof.Machine.execMov c ins e s
  | .srld c ins e => Sys2Proof.Machine.execSrld c ins e s
  | .loop c ins e => Sys2Proof.Machine.execLoop c ins e s
  | .nextf c ins e => Sys2Proof.Machine.execNextf c ins e s
  | .endp c ins e => Sys2Proof.Machine.execEndp c ins e s
  | .regionResume r => Sys2Proof.Machine.execRegionResume r s
  | .xfer c poison => Sys2Proof.Machine.execXfer c poison s
  | .wdog c => Sys2Proof.Machine.execWdog c s
  | .isol c => Sys2Proof.Machine.execIsol c s
  | .blockReset r b clean => Sys2Proof.Machine.execBlockReset r b clean s
  | .stepRestart f read => Sys2Proof.Machine.execStepRestart f read s
  | .run f engine tensor runNo dest => Sys2Proof.Machine.execRun f engine tensor runNo dest s
  | .ebwBlockDecode engine ready => Sys2Proof.Machine.execEbwBlockDecode engine ready s
  | .scrub unit found => Sys2Proof.Machine.execScrub unit found s
  | .mapout m => Sys2Proof.Machine.execMapout m s
  | .sliceFree n => Sys2Proof.Machine.execSliceFree n s
  | .stackTempSample m t0 t1 t2 t3 => Sys2Proof.Machine.execStackTempSample m t0 t1 t2 t3 s
  | .bandChange m => Sys2Proof.Machine.execBandChange m s
  | .wearCounterWrite => Sys2Proof.Machine.execWearCounterWrite s
  | .regFault m => Sys2Proof.Machine.execRegFault m s
  | .frameStart f => Sys2Proof.Machine.execFrameStart f s
  | .regionBeatEnd r active lost => Sys2Proof.Machine.execRegionBeatEnd r active lost s
  | .stallFault r => Sys2Proof.Machine.execStallFault r s
  | .scheduledSlot f route hop io => Sys2Proof.Machine.execScheduledSlot f route hop io s
  | .boundedFlit f route hop io => Sys2Proof.Machine.execBoundedFlit f route hop io s
  | .retime f beats => Sys2Proof.Machine.execRetime f beats s
  | .retimeDone r => Sys2Proof.Machine.execRetimeDone r s
  | .relockFail r => Sys2Proof.Machine.execRelockFail r s
  | .retimeForced f => Sys2Proof.Machine.execRetimeForced f s
  | .stretch r eighths => Sys2Proof.Machine.execStretch r eighths s
  | .loupeJob f desc => Sys2Proof.Machine.execLoupeJob f desc s
  | .listWrite bank => Sys2Proof.Machine.execListWrite bank s
  | .appendCommand f bytes => Sys2Proof.Machine.execAppendCommand f bytes s
  | .ringRecord f record part => Sys2Proof.Machine.execRingRecord f record part s
  | .digest p => Sys2Proof.Machine.execDigest p s
  | .fullCalibration bank enob => Sys2Proof.Machine.execFullCalibration bank enob s
  | .trimUpdate bank enob => Sys2Proof.Machine.execTrimUpdate bank enob s
  | .trimApply bank => Sys2Proof.Machine.execTrimApply bank s
  | .subst bank => Sys2Proof.Machine.execSubst bank s
  | .bankFault bank => Sys2Proof.Machine.execBankFault bank s
  | .slew q => Sys2Proof.Machine.execSlew q s
  | .slewClear q => Sys2Proof.Machine.execSlewClear q s
  | .timeRestart p => Sys2Proof.Machine.execTimeRestart p s
  | .groupLost f => Sys2Proof.Machine.execGroupLost f s
  | .doorbell p => Sys2Proof.Machine.execDoorbell p s
  | .ringMsg p => Sys2Proof.Machine.execRingMsg p s
  | .sessionFrameBoundary f => Sys2Proof.Machine.execSessionFrameBoundary f s
  | .openq f qp d => Sys2Proof.Machine.execOpenq f qp d s
  | .append f qp d => Sys2Proof.Machine.execAppend f qp d s
  | .cancel f qp d => Sys2Proof.Machine.execCancel f qp d s
  | .close f qp d => Sys2Proof.Machine.execClose f qp d s
  | .noSlot qp => Sys2Proof.Machine.execNoSlot qp s
  | .stepBegin f => Sys2Proof.Machine.execStepBegin f s
  | .sample f slot onTime => Sys2Proof.Machine.execSample f slot onTime s
  | .replyBlocked qp => Sys2Proof.Machine.execReplyBlocked qp s
  | .notifyFail qp => Sys2Proof.Machine.execNotifyFail qp s
  | .qpReset qp => Sys2Proof.Machine.execQpReset qp s
  | .stage f source => Sys2Proof.Machine.execStage f source s
  | .staged stream readOk sig => Sys2Proof.Machine.execStaged stream readOk sig s
  | .commit f at_ => Sys2Proof.Machine.execCommit f at_ s
  | .commitAll at_ => Sys2Proof.Machine.execCommitAll at_ s
  | .start f => Sys2Proof.Machine.execStart f s
  | .hold f => Sys2Proof.Machine.execHold f s
  | .unbind f => Sys2Proof.Machine.execUnbind f s
  | .forceUnbind f => Sys2Proof.Machine.execForceUnbind f s
  | .discard f => Sys2Proof.Machine.execDiscard f s
  | .commitBoundary f again => Sys2Proof.Machine.execCommitBoundary f again s
  | .drain f => Sys2Proof.Machine.execDrain f s
  | .busy f => Sys2Proof.Machine.execBusy f s
  | .unbindBoundary f => Sys2Proof.Machine.execUnbindBoundary f s
  | .forced f => Sys2Proof.Machine.execForced f s
  | .jobslot f bank beats => Sys2Proof.Machine.execJobslot f bank beats s
  | .stepEnd f => Sys2Proof.Machine.execStepEnd f s
  | .prismBeat flows => Sys2Proof.Machine.execPrismBeat flows s
  | .groupReplay k out fails retrains => Sys2Proof.Machine.execGroupReplay k out fails retrains s
  | .laneFailing k out lane => Sys2Proof.Machine.execLaneFailing k out lane s
  | .laneSpared k out => Sys2Proof.Machine.execLaneSpared k out s
  | .railFault d => Sys2Proof.Machine.execRailFault d s
  | .quadrantFail q => Sys2Proof.Machine.execQuadrantFail q s
  | .guestBringUp g b => Sys2Proof.Machine.execGuestBringUp g b s
  | .guestUp g => Sys2Proof.Machine.execGuestUp g s
  | .guestFault g cause => Sys2Proof.Machine.execGuestFault g cause s
  | .guestLinkDrop g retrained => Sys2Proof.Machine.execGuestLinkDrop g retrained s
  | .guestSiteReset g => Sys2Proof.Machine.execGuestSiteReset g s
  | .portTraining p t => Sys2Proof.Machine.execPortTraining p t s
  | .trainingBlock p payload => Sys2Proof.Machine.execTrainingBlock p payload s
  | .retrain p tx x => Sys2Proof.Machine.execRetrain p tx x s
  | .portDown p tx => Sys2Proof.Machine.execPortDown p tx s
  | .linkFrame p fr check => Sys2Proof.Machine.execLinkFrame p fr check s
  | .linkFrameSend p => Sys2Proof.Machine.execLinkFrameSend p s
  | .sleep p => Sys2Proof.Machine.execSleep p s
  | .wake p tx decoded => Sys2Proof.Machine.execWake p tx decoded s
  | .prismChannelResend fibre way line x => Sys2Proof.Machine.execPrismChannelResend fibre way line x s
  | .ringTune ring level density => Sys2Proof.Machine.execRingTune ring level density s
  | .ringRecal ring => Sys2Proof.Machine.execRingRecal ring s
  | .lmCmd m levels => Sys2Proof.Machine.execLmCmd m levels s
  | .fadeCheck fibre line level failed => Sys2Proof.Machine.execFadeCheck fibre line level failed s
  | .spareWarm fibre line x => Sys2Proof.Machine.execSpareWarm fibre line x s
  | .swap fibre line => Sys2Proof.Machine.execSwap fibre line s
  | .swapForced fibre line => Sys2Proof.Machine.execSwapForced fibre line s
  | .laneMove p tx => Sys2Proof.Machine.execLaneMove p tx s
  | .lmChange m present => Sys2Proof.Machine.execLmChange m present s
  | .write port p => Sys2Proof.Machine.execWrite port p s
  | .read port p => Sys2Proof.Machine.execRead port p s
  | .atomic port p => Sys2Proof.Machine.execAtomic port p s
  | .send port p => Sys2Proof.Machine.execSend port p s
  | .relay port p => Sys2Proof.Machine.execRelay port p s
  | .fwdReq port p => Sys2Proof.Machine.execFwdReq port p s
  | .data port p => Sys2Proof.Machine.execData port p s
  | .done port p => Sys2Proof.Machine.execDone port p s
  | .ack port p => Sys2Proof.Machine.execAck port p s
  | .return_ port p => Sys2Proof.Machine.execReturn port p s
  | .tail port p => Sys2Proof.Machine.execTail port p s
  | .tailAck port p => Sys2Proof.Machine.execTailAck port p s
  | .packetForward port p => Sys2Proof.Machine.execPacketForward port p s
  | .ackTimer fl => Sys2Proof.Machine.execAckTimer fl s
  | .resendTimeout fl seq => Sys2Proof.Machine.execResendTimeout fl seq s
  | .receiveFlowFree fl => Sys2Proof.Machine.execReceiveFlowFree fl s
  | .sendFlowFree fl => Sys2Proof.Machine.execSendFlowFree fl s
  | .lastExpired fl seq => Sys2Proof.Machine.execLastExpired fl seq s
  | .aged port p => Sys2Proof.Machine.execAged port p s
  | .fence ep dst => Sys2Proof.Machine.execFence ep dst s
  | .multicast f ep group p => Sys2Proof.Machine.execMulticast f ep group p s
  | .rtWrite eid => Sys2Proof.Machine.execRtWrite eid s
  | .rtRead eid => Sys2Proof.Machine.execRtRead eid s
  | .mcWrite group hdr index => Sys2Proof.Machine.execMcWrite group hdr index s
  | .mcRead group hdr index => Sys2Proof.Machine.execMcRead group hdr index s
  | .homeAgentServe h => Sys2Proof.Machine.execHomeAgentServe h s
  | .mergeClose h line => Sys2Proof.Machine.execMergeClose h line s
  | .winWrite page ep => Sys2Proof.Machine.execWinWrite page ep s
  | .winRead page ep => Sys2Proof.Machine.execWinRead page ep s
  | .xltWrite entry f => Sys2Proof.Machine.execXltWrite entry f s
  | .xltRead entry f => Sys2Proof.Machine.execXltRead entry f s
  | .keyOpen kr rd wr f ep => Sys2Proof.Machine.execKeyOpen kr rd wr f ep s
  | .keyClose kr => Sys2Proof.Machine.execKeyClose kr s
  | .keyValue who => Sys2Proof.Machine.execKeyValue who s
  | .mqEnable ep value => Sys2Proof.Machine.execMqEnable ep value s
  | .syncExchange frac => Sys2Proof.Machine.execSyncExchange frac s
  | .syncReq port p frac2 frac3 => Sys2Proof.Machine.execSyncReq port p frac2 frac3 s
  | .syncResp port p frac => Sys2Proof.Machine.execSyncResp port p frac s
  | .syncTimeout => Sys2Proof.Machine.execSyncTimeout s
  | .step => Sys2Proof.Machine.execStep s
  | .holdover p => Sys2Proof.Machine.execHoldover p s
  | .refok p => Sys2Proof.Machine.execRefok p s
  | .stop p => Sys2Proof.Machine.execStop p s
  | .late p => Sys2Proof.Machine.execLate p s
  | .refLoss => Sys2Proof.Machine.execRefLoss s
  | .holdoverLong => Sys2Proof.Machine.execHoldoverLong s
  | .schedStop => Sys2Proof.Machine.execSchedStop s
  | .refReturn => Sys2Proof.Machine.execRefReturn s
  | .refBack => Sys2Proof.Machine.execRefBack s
  | .powerOn e => Sys2Proof.Machine.execPowerOn e s
  | .pinReset => Sys2Proof.Machine.execPinReset s
  | .resetRelease e => Sys2Proof.Machine.execResetRelease e s
  | .rootLock => Sys2Proof.Machine.execRootLock s
  | .refAbsent => Sys2Proof.Machine.execRefAbsent s
  | .firmwareBoot image readOk sig => Sys2Proof.Machine.execFirmwareBoot image readOk sig s
  | .trimWrite target words => Sys2Proof.Machine.execTrimWrite target words s
  | .dtLo who => Sys2Proof.Machine.execDtLo who s
  | .serviceStart => Sys2Proof.Machine.execServiceStart s
  | .nvInhibit => Sys2Proof.Machine.execNvInhibit s
  | .inhibitClear => Sys2Proof.Machine.execInhibitClear s
  | .sagShutdown => Sys2Proof.Machine.execSagShutdown s
  | .ov => Sys2Proof.Machine.execOv s
  | .serviceStop => Sys2Proof.Machine.execServiceStop s
  | .inrush => Sys2Proof.Machine.execInrush s
  | .inrushRetry => Sys2Proof.Machine.execInrushRetry s
  | .phaseFault phase => Sys2Proof.Machine.execPhaseFault phase s
  | .busFault => Sys2Proof.Machine.execBusFault s
  | .cap mean above => Sys2Proof.Machine.execCap mean above s
  | .current amps => Sys2Proof.Machine.execCurrent amps s
  | .tempSample t => Sys2Proof.Machine.execTempSample t s
  | .domainUp d => Sys2Proof.Machine.execDomainUp d s
  | .domOn d => Sys2Proof.Machine.execDomOn d s
  | .domOff d => Sys2Proof.Machine.execDomOff d s
  | .commandedShutdown => Sys2Proof.Machine.execCommandedShutdown s
  | .restart => Sys2Proof.Machine.execRestart s
  | .switchover => Sys2Proof.Machine.execSwitchover s
  | .switch => Sys2Proof.Machine.execSwitch s
  | .update image readOk sig => Sys2Proof.Machine.execUpdate image readOk sig s
  | .standbyRestart => Sys2Proof.Machine.execStandbyRestart s
  | .frameCopy matched => Sys2Proof.Machine.execFrameCopy matched s
  | .standbyReady selfTest => Sys2Proof.Machine.execStandbyReady selfTest s
  | .updateSwitch => Sys2Proof.Machine.execUpdateSwitch s
  | .updFail cause => Sys2Proof.Machine.execUpdFail cause s
  | .updDone => Sys2Proof.Machine.execUpdDone s
  | .takeOwnership blob sig => Sys2Proof.Machine.execTakeOwnership blob sig s
  | .addKey blob sig => Sys2Proof.Machine.execAddKey blob sig s
  | .revokeKey blob sig => Sys2Proof.Machine.execRevokeKey blob sig s
  | .raiseSvn blob sig => Sys2Proof.Machine.execRaiseSvn blob sig s
  | .release blob sig => Sys2Proof.Machine.execRelease blob sig s
  | .debugUnlock blob sig => Sys2Proof.Machine.execDebugUnlock blob sig s
  | .decommission blob sig => Sys2Proof.Machine.execDecommission blob sig s
  | .secNonce who => Sys2Proof.Machine.execSecNonce who s
  | .presence => Sys2Proof.Machine.execPresence s
  | .presenceWindowClose => Sys2Proof.Machine.execPresenceWindowClose s
  | .sealOpen fault => Sys2Proof.Machine.execSealOpen fault s
  | .spdmRequest r => Sys2Proof.Machine.execSpdmRequest r s
  | .dualSig => Sys2Proof.Machine.execDualSig s
  | .dualCert => Sys2Proof.Machine.execDualCert s
  | .size who isWrite offset words => Sys2Proof.Machine.execSize who isWrite offset words s
  | .guardedWrite who addr value => Sys2Proof.Machine.execGuardedWrite who addr value s
  | .guardComplement who addr value => Sys2Proof.Machine.execGuardComplement who addr value s
  | .guardDrop who => Sys2Proof.Machine.execGuardDrop who s
  | .registerWrite who addr value => Sys2Proof.Machine.execRegisterWrite who addr value s
  | .parity addr => Sys2Proof.Machine.execParity addr s
  | .unfreeze target => Sys2Proof.Machine.execUnfreeze target s
  | .nclaim n => Sys2Proof.Machine.execNclaim n s
  | .ndone n => Sys2Proof.Machine.execNdone n s
  | .fclaim n => Sys2Proof.Machine.execFclaim n s
  | .fdone n => Sys2Proof.Machine.execFdone n s
  | .heoi vectors => Sys2Proof.Machine.execHeoi vectors s
  | .msixUnmask u => Sys2Proof.Machine.execMsixUnmask u s
  | .hotReset kind => Sys2Proof.Machine.execHotReset kind s
  | .d3hot => Sys2Proof.Machine.execD3hot s
  | .d0Return => Sys2Proof.Machine.execD0Return s
  | .linkTraining rate width flit => Sys2Proof.Machine.execLinkTraining rate width flit s
  | .apertureRead x len => Sys2Proof.Machine.execApertureRead x len s
  | .apertureWrite x bytes => Sys2Proof.Machine.execApertureWrite x bytes s
  | .aptCtl value => Sys2Proof.Machine.execAptCtl value s
  | .i3cRead addr => Sys2Proof.Machine.execI3cRead addr s
  | .i3cWrite addr value => Sys2Proof.Machine.execI3cWrite addr value s
  | .extest => Sys2Proof.Machine.execExtest s
  | .trstN => Sys2Proof.Machine.execTrstN s
  | .inputStageClose => Sys2Proof.Machine.execInputStageClose s
  | .standbyReplayEnd => Sys2Proof.Machine.execStandbyReplayEnd s
  | .presenceRelease => Sys2Proof.Machine.execPresenceRelease s
  | .sealClose => Sys2Proof.Machine.execSealClose s

end Sys2Proof.Machine
end

