-- ==== Sys2Proof/Machine/Tick.lean ====
section
/-! DEFINITION. What one device tick does when no command waits (log 1). -/
namespace Sys2Proof.Machine

namespace State

/-- At a device frame boundary the root takes its new trims, and so does a generator whose region awaits no retime
window any more (R401). -/
def frameTrims (s : State) : State :=
  s.applyTrims (fun u => u == 0 || (u ≤ 64 && !bit (s.reg (Reg.REG_RETIME (u - 1))) 3 && !bit (s.reg (Reg.REG_STAT (u - 1))) 20))

/-- Regions whose hold or slips are over go on at a device beat boundary (R138, R146). -/
def endHolds (s : State) : State :=
  forEach (s.regions.map (·.1)) s (fun t r =>
    let x := t.region r
    if x.holdUntil ≠ 0 ∧ x.holdUntil ≤ t.beat then
      let t := t.setRegion r { x with holdUntil := 0 }
      if bit (t.reg (Reg.REG_STAT r)) 20 ∨ x.done then t else t.wf (Reg.REG_STAT r) 18 18 0
    else t)

/-- Regions that hold at the beat boundary and have drained their outbound queues start the relock that waits (R150,
R152). -/
def drainedRelocks (s : State) : State :=
  forEach (s.regions.map (·.1)) s (fun t r => if t.rf (Reg.REG_STAT r) 18 18 = 1 then t.relockAtBeat r else t)

/-- Session endpoints whose 1 ms is over are closed (R222). -/
def endLinger (s : State) : State := forEach ((s.fab.linger.filter (fun e => e.2 ≤ s.dt)).map (·.1)) s (fun t e => t.dropSends e)

/-- Device time rises by one tick while the root is locked; guarded writes expire, and Loupe banks whose hold is over
accept the jobs that wait; reply entries written since the boundary are announced, and the fabric unit goes on (R173, R218,
R323, R377, R478). Merge entries close, holds end and channels that move are back at beat boundaries; trims and what the conductors ordered take effect at
frames (R316, R354). -/
def nextTick (s : State) : State :=
  if s.sys.clk.locked then
    let s := s.setClk { s.sys.clk with dt := (s.dt + 1) % 2 ^ 64 }
    let s := forEach [Requester.host, .firmware, .i3c] s (fun t w => t.expireGuard w)
    let s := (forEach (List.range 32) s (fun t b => t.acceptJob b)).notifyLate
    let s := s.endLinger.fabTick
    let s := if s.sys.pwr.ordered && !s.anyFrames then s.orderedDown else s
    let s := if s.dt % 256 = 0 then s.closeMerges.endHolds.drainedRelocks.busMoves else s
    if s.dt % 2 ^ 20 = 0 then s.frameTrims.unitsBoundary else s
  else s

end State

/-- One device tick, with the interrupt messages that it makes due. -/
def tick (s : State) : State := State.messages s s.nextTick

end Sys2Proof.Machine
end

