-- ==== Sys2Proof/Safety.lean ====
section
/-! DEFINITION. The terms in which statements about the machine are made: which commands run, what a command may
change, and the invariants that every step keeps. -/
namespace Sys2Proof.Machine

/-- No command of the queue is ever lost: a run is safe while no step stops it by a fault or a refusal. -/
def Safe (o : Result) : Prop := ∃ t, o = .next t

/-- The pending-bit array of the message table (R486): the only registers that an interrupt message changes. -/
def isPba (a : Nat) : Prop := a = Reg.MSIX_PBA 0 ∨ a = Reg.MSIX_PBA 1

/-- Every register outside p reads as before; the pending bits of interrupt messages apart. -/
def RegsBut (p : Nat → Prop) (s t : State) : Prop := ∀ a, ¬p a → ¬isPba a → t.reg a = s.reg a

/-- A command changes registers of p only, and the outputs: every unit, memory and queue is as before. -/
def OnlyRegs (p : Nat → Prop) (s t : State) : Prop :=
  t = { s with regs := t.regs, out := t.out } ∧ RegsBut p s t

/-- Opcode o with the fields i is the next instruction that the cell fetches from its store (R4, R56), and the cell's die
has it (R73). -/
def Fetches (o : CellOp) (c : CellId) (i : CellIns) (s : State) : Prop :=
  (s.cell (s.cellKey c)).pc < (s.cell (s.cellKey c)).progLen ∧ (s.cell (s.cellKey c)).fetched = some (o, i) ∧
  s.dieHas c.region.val o i = true

/-- A cell takes an instruction: it issues and fetches it, its hardware meets no error, its last transfer keeps up, and
the checks of R57, R58, R60 and R37 pass. -/
def Issues (o : CellOp) (c : CellId) (i : CellIns) (e : CellEnv) (sp : OpSpec) (bank : Option Nat) (s : State) :
    Prop :=
  s.issuing c = true ∧ Fetches o c i s ∧ e.ipar = false ∧ e.residue = false ∧ e.storeUe = false ∧
  (s.cell (s.cellKey c)).owed (s.issueTime c i (timedOp o)) = none ∧ illegal sp (timedOp o) i = false ∧
  (timedOp o = true → clash (s.cell (s.cellKey c)) sp bank (s.issueTime c i (timedOp o)) = false)

/-- A command changes facet f, the loader, and registers of p; every other facet and every other unit is as
before. -/
def OnlyFacet (f : Nat) (p : Nat → Prop) (s t : State) : Prop :=
  t = { s with facets := t.facets, loader := t.loader, regs := t.regs, out := t.out } ∧
  (∀ g, g ≠ f → t.facet g = s.facet g) ∧ RegsBut p s t

/-- A refusal of the loader is on record (R256, R258): its facet, code and section in CFG_RESULT, the offset of the item
that failed in CFG_RESULT_AT, and the event. -/
def Refused (f : Nat) (b : Check) (t : State) : Prop :=
  t.reg Reg.CFG_RESULT = BitVec.ofNat 32 (f * 2 ^ 26 + b.code * 2 ^ 16 + b.sec * 2 ^ 8) ∧
  t.reg Reg.CFG_RESULT_AT = BitVec.ofNat 32 b.at_ ∧ bit (t.reg Reg.CFG_EVT) 1 = true

/-- No packet waits for a port, a route or a multicast's credits, and no acknowledgement for room: a change of the ports
sets nothing else off. -/
def NothingWaits (s : State) : Prop :=
  s.fab.adapt = [] ∧ s.fab.moves = [] ∧ s.fab.mcWait = [] ∧ s.fab.tailAcks = [] ∧ ∀ e ∈ s.fab.recv, e.2.ackDue = false

/-- A packet that comes by a port reaches endpoint ep of this module: its header is sound, its sender had credits for it, its
destination is LOCAL there, and no home queue holds it back. -/
def Reaches (p : Packet) (op port ep : Nat) (s : State) : Prop :=
  hcrcOk p = true ∧ p.op.toNat = op ∧ op ≠ 0 ∧ s.overfull port p = false ∧ s.routeValid p.dst.toNat = true ∧ s.routeLocal p.dst.toNat = true ∧
  s.routeEp p.dst.toNat = ep ∧ s.mustWait p = false

/-- A marked packet reaches endpoint ep well formed, and its receive flow x, which begins with it where it is unknown,
takes it: its SEQ is new, with LAST every earlier one is there, and the flow holds nothing else and owes no ACK after it
(R330, R331, R333). -/
def Taken (p : Packet) (op port ep : Nat) (x : RecvFlow) (s : State) : Prop :=
  Reaches p op port ep s ∧ p.marked = true ∧ wellFormedOp p = true ∧
  (s.recvFlow (flowKey (flowOf p)) = some x ∨
    (s.recvFlow (flowKey (flowOf p)) = none ∧ x = s.newRecv p ∧ s.fab.recv.length < 16384)) ∧
  x.id = flowOf p ∧ x.has p.seq.toNat = false ∧ (p.last = true → x.allBefore p.seq.toNat = true) ∧ x.held = [] ∧
  x.tailsDue = [] ∧ x.newN + 1 < 16 ∧ p.fence = false ∧ p.mc = false

/-- It is taken at an endpoint of facet f, with the facet's tag (R31). -/
def InOrder (p : Packet) (op port f ep : Nat) (x : RecvFlow) (s : State) : Prop :=
  Taken p op port ep x s ∧ s.epFacet ep = some f ∧ p.jobTag.toNat = s.jobTag f

/-- The packet is received once: its flow has counted it, the peer gets its credits back, and nothing else but the
memory-semantic unit, its registers and device memory has changed. -/
def Received (p : Packet) (port : Nat) (x : RecvFlow) (s t : State) : Prop :=
  t.recvFlow (flowKey (flowOf p)) = some (x.take p (p.ce || s.homeMarks p) s.dt) ∧
  tget 0 (t.port port).owed (bufferOf p) = tget 0 (s.port port).owed (bufferOf p) + packetUnits p ∧
  (∀ q, q ≠ port → t.port q = s.port q) ∧
  t = { s with fab := t.fab, msf := t.msf, ports := t.ports, mem := t.mem, regs := t.regs, out := t.out }

/-- The operations l have joined the queues of their home agents, in order. -/
def Joined (l : List HomeReq) (s t : State) : Prop :=
  ∀ h, t.home h = { s.home h with queue := (s.home h).queue ++ l.filter (fun r => homeOf (r.line * 128) == h) }

/-- The operations of a store of b at dpa, line by line. -/
def storeReqs (dpa : Nat) (b : Bytes) : List HomeReq :=
  (writeParts dpa b).map (fun e => ⟨1, e.1, e.2.1, e.2.2, 0⟩)

/-- The operations of job n, which reads (2) or changes (3) the lines of an access at dpa. -/
def jobReqs (dpa : Nat) (a : MemAccess) (n : Nat) : List HomeReq :=
  (State.accessLines dpa a).zipIdx.map (fun e => ⟨a.op, e.1, e.2, [], n⟩)

/-- A time message of kind k stands at the endpoint of facet f, well formed and with the facet's tag (R380, R504). -/
def TimeFor (p : Packet) (k f : Nat) (s : State) : Prop :=
  s.routeLocal p.dst.toNat = true ∧ s.epFacet (s.routeEp p.dst.toNat) = some f ∧ p.jobTag.toNat = s.jobTag f ∧
  wellFormedOp p = true ∧ p.op = 7#5 ∧ timeForm p.payload = true ∧ byteAt p.payload 0 = k

/-- The cell's status register. -/
def statOf (s : State) (c : CellId) : Nat := Reg.CELL_STAT c.region.val c.block.val (s.posOf c)

/-- A cell instruction changes its own cell, its status register and the count of free values only. -/
def OnlyCell (c : CellId) (s t : State) : Prop :=
  t = { s with cells := t.cells, regs := t.regs, out := t.out, free := t.free } ∧
  (∀ k, k ≠ s.cellKey c → t.cell k = s.cell k) ∧ RegsBut (fun a => a = statOf s c) s t

/-- The cell after an instruction at its work time: the program goes on, and everything but the named parts is as
before. -/
def Advanced (x y : CellState) (t : Nat) : Prop :=
  y.pc = x.pc + 1 ∧ y.last = t ∧ y.fx = t ∧ y.mode = x.mode ∧ y.frame = x.frame ∧ y.lc = x.lc ∧
  y.queues = x.queues ∧ y.progLen = x.progLen

/-- Parts of a cell that only the MAC array, the drain and SRLD write. -/
def SameAccs (x y : CellState) : Prop :=
  y.acc = x.acc ∧ y.accInt0 = x.accInt0 ∧ y.accInt1 = x.accInt1 ∧ y.sc = x.sc

/-- Every byte of the store outside n bytes from a is as before. -/
def StoreBut (a n : Nat) (x y : CellState) : Prop :=
  ∀ z, ¬(a ≤ z ∧ z < a + n) → tget 0 y.store z = tget 0 x.store z

/-- The status register after an instruction: corrected errors counted, and its flags gathered (R55, R63). -/
def Flagged (c : CellId) (e : CellEnv) (f : Flags) (s t : State) : Prop :=
  t.reg (statOf s c) = (s.countCe c e.ce).reg (statOf s c) ||| f.word

/-- Lane j of the FP32 vectors at byte address a of a cell store. -/
def lane (st : Tbl Byte) (a j : Nat) : Word :=
  BitVec.ofNat 32 (leNat ((List.range 4).map (fun n => tget 0 st (a + 4 * j + n))))

/-- Lane j of FP32 vectors read as bytes. -/
def laneOf (b : Bytes) (j : Nat) : Nat := leAt b (4 * j) 4

/-- What a vector instruction does: lane j of the result is f of lane j of its operands A, B and D. -/
def VectorDoes (c : CellId) (i : CellIns) (e : CellEnv) (f : Nat → Nat → Nat → Nat × Flags) (A B D : Bytes)
    (s t : State) : Prop :=
  let x := s.cell (s.cellKey c)
  let y := t.cell (s.cellKey c)
  let r := (List.range (64 * i.n)).map (fun j => f (laneOf A j) (laneOf B j) (laneOf D j))
  OnlyCell c s t ∧ Advanced x y (s.issueTime c i true) ∧ SameAccs x y ∧ StoreBut i.dstA (256 * i.n) x y ∧
  (∀ j, j < 64 * i.n → lane y.store i.dstA j = BitVec.ofNat 32 (r.getD j (0, Flags.none)).1) ∧
  Flagged c e (gather r).2 s t

/-- An accumulator bank holds the elements r, and every other element is as before. -/
def BankHolds (b : Nat) (r : List Nat) (x y : CellState) : Prop :=
  (∀ k, k < 1024 → tget 0 y.acc (b * 1024 + k) = BitVec.ofNat 32 (r.getD k 0)) ∧
  ∀ k, ¬(b * 1024 ≤ k ∧ k < b * 1024 + 1024) → tget 0 y.acc k = tget 0 x.acc k

/-- What MMA (scale none) and MMAS do: element (m, n) of the bank is the group sums of column m of A and column n of
B from its old value, or from zero and then scaled and added. -/
def MatrixDoes (c : CellId) (i : CellIns) (e : CellEnv) (g : Nat) (scale : Option Nat) (A B : List Nat)
    (old : List Nat) (s t : State) : Prop :=
  let x := s.cell (s.cellKey c)
  let y := t.cell (s.cellKey c)
  let fa := i.fa.toNat
  let el (k acc : Nat) := mmaElem fa i.fb.toNat g (column A (k / 32) i.n) (column B (k % 32) i.n) acc
  let r := (List.range 1024).map (fun k => match scale with
    | none => el k (old.getD k 0)
    | some z => scaleElem (el k 0) z (old.getD k 0))
  OnlyCell c s t ∧ Advanced x y (s.issueTime c i true) ∧ y.store = x.store ∧ y.sc = x.sc ∧
  BankHolds i.bankN (gather r).1 x y ∧ y.accInt i.bank = (if i.clr then fa == 5 else x.accInt i.bank) ∧
  y.accInt (!i.bank) = x.accInt (!i.bank) ∧ Flagged c e (gather r).2 s t

/-- The ends of segment h of a route hold still and lie apart: a cell at either end runs without a fault and without a
transfer of its own under way, and the segment does not end in the queue that it starts from. -/
def EndsApart (f : Nat) (x : RouteRec) (h : Nat) (s : State) : Prop :=
  (∀ c q, s.segFrom x h = .cell c q →
    (s.cell (s.cellKey c)).mode ≠ .faulted ∧ (s.cell (s.cellKey c)).pend = none ∧
    ∀ d p, s.segTo f x h = .cell d p → s.cellKey c ≠ s.cellKey d) ∧
  (∀ d p, s.segTo f x h = .cell d p →
    (s.cell (s.cellKey d)).mode ≠ .faulted ∧ (s.cell (s.cellKey d)).pend = none) ∧
  ∀ r q n, s.segTo f x h = .queue r q n → s.startQueue x h ≠ some (r, q)

/-- Flit a has crossed segment h of a route (R125, R128 to R130, R140, R142): it has left where the segment starts and
stands where it ends, every other queue is as before, and nothing else changes but the grant of a row, the count of the
route's injections, and the peaks of queues. -/
def Crossed (f : Nat) (x : RouteRec) (h : Nat) (io : List FlitIO) (a : Flit) (s t : State) : Prop :=
  (∀ c q, s.segFrom x h = .cell c q → ∀ m, tget [] (t.cell (s.cellKey c)).queues m =
    if m = q then (tget [] (s.cell (s.cellKey c)).queues q).drop 1 else tget [] (s.cell (s.cellKey c)).queues m) ∧
  (∀ r q, s.startQueue x h = some (r, q) → t.lane r q x.lane = (s.lane r q x.lane).drop 1) ∧
  (∀ d p, s.segTo f x h = .cell d p → ∀ m, tget [] (t.cell (s.cellKey d)).queues m =
    if m = p then tget [] (s.cell (s.cellKey d)).queues p ++ [a] else tget [] (s.cell (s.cellKey d)).queues m) ∧
  (∀ r q n, s.segTo f x h = .queue r q n → t.lane r q x.lane = s.lane r q x.lane ++ [(n, a)]) ∧
  (∀ r o, s.segTo f x h = .staging r → ioStaging io = some o →
    t.staging = (s.writeStaging (s.stagingAt r o) a.data).staging) ∧
  (∀ i b, s.segTo f x h = .bank i → s.physicalBank f i = some b → Output.bank b a.data ∈ t.out) ∧
  (∀ k, (∀ c q, s.segFrom x h = .cell c q → k ≠ s.cellKey c) → (∀ d p, s.segTo f x h = .cell d p → k ≠ s.cellKey d) →
    t.cell k = s.cell k) ∧
  (∀ r q l, l < 4 → s.startQueue x h ≠ some (r, q) → (∀ n, s.segTo f x h ≠ .queue r q n) →
    t.lane r q l = s.lane r q l) ∧
  t = { s with cells := t.cells, blocks := t.blocks, regions := t.regions, staging := t.staging, regs := t.regs,
               out := t.out } ∧
  RegsBut (fun z => ∃ r q, z = Reg.QUE_STAT r q) s t

/-- A fault of the cell at position p is on record (R65, R66, R72, R76): its cause, the cell stopped, the block
asking for a reset, a hardware cause kept for its position and any other shown in BLK_EVT, and the step in flight of
its facet void. Nothing else changes but the count of cell faults. -/
def FaultRecorded (r b p cause : Nat) (s t : State) : Prop :=
  let hard := cause = 1 ∨ cause = 2 ∨ cause = 3 ∨ cause = 8
  let f := s.regionFacet r
  fld (t.reg (Reg.CELL_STAT r b p)) 11 8 = cause ∧
  (t.cell (posKey r b p)).mode = .faulted ∧ (t.cell (posKey r b p)).pend = none ∧
  (∀ k, k ≠ posKey r b p → t.cell k = s.cell k) ∧
  (t.block (8 * r + b)).needReset = true ∧
  (hard → p ∈ (t.block (8 * r + b)).bad) ∧
  (¬hard → bit (t.reg (Reg.BLK_EVT r b)) 3 = true ∧ (t.block (8 * r + b)).bad = (s.block (8 * r + b)).bad) ∧
  (s.regionBound r = true → (s.facet f).inStep = true → (t.facet f).void = true) ∧
  (∀ g, g ≠ f → t.facet g = s.facet g) ∧
  t = { s with cells := t.cells, blocks := t.blocks, facets := t.facets, regs := t.regs, out := t.out } ∧
  RegsBut (fun a => a = Reg.CELL_STAT r b p ∨ a = Reg.LOC_CELL ∨ a = Reg.BLK_EVT r b) s t

end Sys2Proof.Machine
end

