-- ==== Sys2Proof/Certificates/Slice0/Obligations.lean ====
section
/-! DEFINITION. The statements for the provers: what each family of commands does, what it leaves unchanged, and the
invariants that every step keeps. Every statement of a result concludes that exec answers a next state, under
hypotheses on the state and the operands alone. -/
open Sys2Proof Sys2Proof.Machine

/-- Log 1 (the model's queue; the spec has none): a step takes the command at the front of the queue and is that
command's exec on the state with the queue's rest; with an empty queue it is one device tick, which moves the device
time on by one, modulo 2⁶⁴, while the root is locked (R377). Every command ends in a next state. -/
def Obligations.StepRunsTheFrontCommand : Prop :=
  ∀ (c : Instr) (rest : List Instr) (s : State),
    (s.pending = c :: rest → step s = exec c { s with pending := rest }) ∧
    (s.pending = [] → step s = .next (tick s)) ∧
    (∃ t, exec c s = .next t) ∧
    (s.sys.clk.locked = true → (tick s).dt = (s.dt + 1) % 2 ^ 64) ∧
    (s.sys.clk.locked = false → (tick s).dt = s.dt)

/-- R14, R258, R344, R430: after reset every register reads as its reset value, among them the cap of 7,200 W, the
commit wait of 64 frames, and the 8 resends, 100 µs and 64 KiB of FAB_CTL; no facet is bound, no supply state is left,
and device time stands at 0 with the root not locked. Log 1 and log 7 (the model's choice): no command waits and memory
lists nothing. -/
def Obligations.ResetLeavesTheStatedValues : Prop :=
  (∀ a, State.reset.reg a = resetValue a) ∧ State.reset.reg Reg.PWR_CAP = 0x1C20#32 ∧
  State.reset.reg Reg.CFG_WAIT = 0x40#32 ∧ State.reset.reg Reg.FAB_CTL = 0x08064040#32 ∧
  (∀ f, f < 64 → State.reset.facetState f = 0) ∧ State.reset.pwrState = 0 ∧ State.reset.dt = 0 ∧
  State.reset.sys.clk.locked = false ∧ State.reset.pending = [] ∧ Memory.wf State.reset.mem = true ∧
  twf resetValue State.reset.regs = true ∧ ∀ a, State.reset.memByte a = 0

/-- R56, R59: words written out from the field table decode to the instructions they stand for: the MMA of R59's
worked example, and one word for each unit. -/
def Obligations.CellWordsDecodeAsTabled : Prop :=
  let z : CellIns := ⟨0, 0, 0, false, false, false, false, 0, 0, 0, 0, 0, 0, 0, 0, 0⟩
  decodeCell 0x01220400000100020004000100050000#128 =
    some (.mma, { z with fa := 2, fb := 2, clr := true, sa := 0x100, sb := 0x200, cnt := 64, tick := 16, beat := 5 }) ∧
  decodeCell 0x09600800000500000000000000000000#128 = some (.ald, { z with fa := 6, bank := true, sa := 0x500 }) ∧
  decodeCell 0x10000000110022003300100FA1020000#128 =
    some (.vadd, { z with dst := 0x11, sa := 0x22, sb := 0x33, cnt := 1, tick := 0xFA, beat := 0x102 }) ∧
  decodeCell 0x1C00420080004000000030000000FFFB#128 =
    some (.vcvt, { z with fd := 4, sat := true, dst := 0x80, sa := 0x40, cnt := 3, imm := 0xFFFB }) ∧
  decodeCell 0x33000000000044000000090000000000#128 = some (.srld, { z with sa := 0x44, sel := 9 }) ∧
  decodeCell 0x3C0000000000000000ABC2000000001F#128 =
    some (.loop, { z with cnt := 0xABC, sel := 2, imm := 0x1F }) ∧
  decodeCell 0x3D00000000000000000000000000ABCD#128 = none

/-- R56, R59: the word of every instruction decodes to it, with every field at every value; a word that decodes is the
word of what it decodes to; and a word decodes to nothing exactly where its OP is none of R59's. -/
def Obligations.CellWordsEncodeAndDecode : Prop :=
  ∀ (o : CellOp) (i : CellIns) (w : BitVec 128),
    decodeCell (encodeCell o i) = some (o, i) ∧
    (∀ p, decodeCell w = some p → encodeCell p.1 p.2 = w) ∧
    (decodeCell w = none ↔ ∀ q : CellOp, (w.extractLsb' 120 8).toNat ≠ q.code)

/-- Device memory and the register window keep their canonical form through every step, of a command or of a tick:
equal contents are equal data. -/
def Obligations.EveryStepKeepsTheTablesCanonical : Prop :=
  ∀ s t : State, step s = .next t →
    (Memory.wf s.mem = true → Memory.wf t.mem = true) ∧
    (twf resetValue s.regs = true → twf resetValue t.regs = true)

/-- Log 1, log 3 and log 4 (the model's queue, outputs and count of free values): a step takes exactly the front
command off the queue and adds none; what the module has put on its interfaces stays, in order; and the count of free
values never falls. -/
def Obligations.QueueAndOutputsAreFirstInFirstOut : Prop :=
  ∀ s t : State, step s = .next t →
    t.pending = s.pending.tail ∧ (∃ l, t.out = s.out ++ l) ∧ s.free ≤ t.free

/-- R39: FP4 elements are packed two to a byte, element 2i in bits [3:0] of byte i and element 2i + 1 in bits [7:4],
both in packing and in reading. -/
def Obligations.Fp4ElementsArePackedTwoToAByte : Prop :=
  ∀ (l : List Nat) (b : Bytes) (i : Nat),
    (2 * i + 1 < l.length → ((pack 4 l).getD i 0).extractLsb' 0 4 = BitVec.ofNat 4 (l.getD (2 * i) 0) ∧
      ((pack 4 l).getD i 0).extractLsb' 4 4 = BitVec.ofNat 4 (l.getD (2 * i + 1) 0)) ∧
    (i < b.length → (unpack 4 b).getD (2 * i) 0 = ((b.getD i 0).extractLsb' 0 4).toNat ∧
      (unpack 4 b).getD (2 * i + 1) 0 = ((b.getD i 0).extractLsb' 4 4).toNat) ∧
    (l.length % 2 = 0 → (∀ v ∈ l, v < 16) → unpack 4 (pack 4 l) = l)

/-- R103: slice N lies wholly in stack N mod 20, as local slice N div 20, which is at most 15; so consecutive slices
lie in consecutive stacks. -/
def Obligations.SlicesLieInTheirStacks : Prop :=
  (∀ a, sliceOf a < 320 → stackOf a = sliceOf a % 20 ∧ sliceOf a / 20 ≤ 15 ∧
    sliceOf a = sliceOf a / 20 * 20 + stackOf a) ∧
  ∀ a b, sliceOf b = sliceOf a + 1 → stackOf b = (stackOf a + 1) % 20

/-- R160: global block b lies on rank (b div I) mod G, at local index (b div (I × G)) × I + b mod I; a rank and a
local index name one block, so no two blocks of a rank share a place. -/
def Obligations.BlocksLieOnTheirRanks : Prop :=
  ∀ g k b : Nat, 0 < g → k ≤ 11 →
    let i := 2 ^ k
    rankOf g i b = b / i % g ∧ localOf g i b = b / (i * g) * i + b % i ∧ rankOf g i b < g ∧
    globalOf g (rankOf g i b) i (localOf g i b) = b ∧
    ∀ r j, r < g → rankOf g i (globalOf g r i j) = r ∧ localOf g i (globalOf g r i j) = j

/-- R470: BAR2 maps four consecutive slices from APT_BASE, which may be any of 0 to 316: a byte at offset X reaches
DPA = APT_BASE × 2³⁴ + X, and an access with a byte whose slice is 320 or above is unmapped. -/
def Obligations.ApertureReachesFourSlices : Prop :=
  ∀ (s : State) (x n : Nat) (wr : Bool), x < 2 ^ 36 → fld s.aptCtl 8 0 ≤ 316 →
    s.aptDpa x = fld s.aptCtl 8 0 * 2 ^ 34 + x ∧ sliceOf (s.aptDpa x) = fld s.aptCtl 8 0 + x / 2 ^ 34 ∧
    sliceOf (s.aptDpa x) < fld s.aptCtl 8 0 + 4 ∧ (0 < n → 320 ≤ sliceOf (s.aptDpa x + n - 1) → s.aptOk x n wr = false)

/-- R51: a two-operand vector instruction that its cell fetches and takes computes lane by lane from its operands as
read at its work time, one rounding each (VFMA: one rounding of a × b + d), sets the flags of its lanes, and changes
nothing else. R52: a one-operand vector instruction that its cell takes computes its function of each lane of SA. -/
def Obligations.VectorInstructionsComputeLaneByLane : Prop :=
  (∀ (c : CellId) (i : CellIns) (e : CellEnv) (s : State),
      let x := s.cell (s.cellKey c)
      let w := s.issueTime c i true
      let a := x.read w s.free i.aA (256 * i.n)
      let b := x.read w a.2 i.bA (256 * i.n)
      let d := x.read w b.2 i.dstA (256 * i.n)
      let takes (o : CellOp) : Prop := Issues o c i e (vecSpec i i.n 6 true (256 * i.n)) none s
      (takes .vadd → ∃ t, exec (.vadd c i e) s = .next t ∧ VectorDoes c i e (fun u v _ => fadd u v) a.1 b.1 [] s t) ∧
      (takes .vsub → ∃ t, exec (.vsub c i e) s = .next t ∧ VectorDoes c i e (fun u v _ => fsub u v) a.1 b.1 [] s t) ∧
      (takes .vmul → ∃ t, exec (.vmul c i e) s = .next t ∧ VectorDoes c i e (fun u v _ => fmul u v) a.1 b.1 [] s t) ∧
      (takes .vfma → ∃ t, exec (.vfma c i e) s = .next t ∧ VectorDoes c i e (fun u v z => ffma u v z) a.1 b.1 d.1 s t) ∧
      (takes .vmax → ∃ t, exec (.vmax c i e) s = .next t ∧ VectorDoes c i e (fun u v _ => fmax u v) a.1 b.1 [] s t) ∧
      (takes .vmin → ∃ t, exec (.vmin c i e) s = .next t ∧ VectorDoes c i e (fun u v _ => fmin u v) a.1 b.1 [] s t)) ∧
  (∀ (c : CellId) (i : CellIns) (e : CellEnv) (s : State),
      let takes (o : CellOp) : Prop := Issues o c i e (vecSpec i (4 * i.n) 20 false (256 * i.n)) none s
      let a := (s.cell (s.cellKey c)).read (s.issueTime c i true) s.free i.aA (256 * i.n)
      (takes .vexp2 → ∃ t, exec (.vexp2 c i e) s = .next t ∧ VectorDoes c i e (fun u _ _ => fexp2 u) a.1 [] [] s t) ∧
      (takes .vlog2 → ∃ t, exec (.vlog2 c i e) s = .next t ∧ VectorDoes c i e (fun u _ _ => flog2 u) a.1 [] [] s t) ∧
      (takes .vrcp → ∃ t, exec (.vrcp c i e) s = .next t ∧ VectorDoes c i e (fun u _ _ => frcp u) a.1 [] [] s t) ∧
      (takes .vrsq → ∃ t, exec (.vrsq c i e) s = .next t ∧ VectorDoes c i e (fun u _ _ => frsq u) a.1 [] [] s t))

/-- R53, R54: VCVT converts each element from FA to FD; VRSUM and VRMAX reduce each vector by the tree of R53, the
results followed by zeros to the end of the last 16-byte unit. -/
def Obligations.ConversionAndReductionResults : Prop :=
  ∀ (c : CellId) (i : CellIns) (e : CellEnv) (s : State),
    let x := s.cell (s.cellKey c)
    let w := s.issueTime c i true
    let fa := i.fa.toNat
    let fd := i.fd.toNat
    let a := x.read w s.free i.aA (span fa (64 * i.n))
    let b := x.read w s.free i.aA (256 * i.n)
    let done (r : List (Nat × Flags)) (out : Bytes) (t : State) : Prop :=
      OnlyCell c s t ∧ Advanced x (t.cell (s.cellKey c)) w ∧ SameAccs x (t.cell (s.cellKey c)) ∧
      (t.cell (s.cellKey c)).store = putBytes x.store i.dstA out ∧ Flagged c e (gather r).2 s t
    let cv := (unpack fa a.1).map (convert fa fd (i.imm.toNat % 32) i.sat)
    let red (op : Nat → Nat → Nat × Flags) := (chunks i.n 64 (lanes b.1)).map (fun v => treeReduce op 6 v Flags.none)
    (Issues .vcvt c i e (vcvtSpec i) none s →
      ∃ t, exec (.vcvt c i e) s = .next t ∧ done cv (pack fd (gather cv).1) t) ∧
    (Issues .vrsum c i e (vecSpec i i.n 14 false (reduceLen i.n)) none s →
      ∃ t, exec (.vrsum c i e) s = .next t ∧
        done (red fadd) (padTo (reduceLen i.n) (pack 0 (gather (red fadd)).1)) t) ∧
    (Issues .vrmax c i e (vecSpec i i.n 14 false (reduceLen i.n)) none s →
      ∃ t, exec (.vrmax c i e) s = .next t ∧
        done (red fmax) (padTo (reduceLen i.n) (pack 0 (gather (red fmax)).1)) t)

/-- R36, R45 to R50: MMA and MMAS compute every element of their bank, and only of it. -/
def Obligations.MatrixProductsFillTheirBank : Prop :=
  ∀ (c : CellId) (i : CellIns) (e : CellEnv) (s : State) (g lat : Nat) (occ : Nat → Nat),
    pairing i.fa.toNat i.fb.toNat = some (g, occ, lat) →
    let x := s.cell (s.cellKey c)
    let w := s.issueTime c i true
    let a := x.read w s.free i.aA (span i.fa.toNat (32 * i.n))
    let b := x.read w a.2 i.bA (span i.fb.toNat (32 * i.n))
    let old := if i.clr then (List.replicate 1024 0, b.2) else x.readBank w b.2 i.bankN
    let ea := unpack i.fa.toNat a.1
    let eb := unpack i.fb.toNat b.1
    (Issues .mma c i e (mmaSpec x i false) (some i.bankN) s →
      ∃ t, exec (.mma c i e) s = .next t ∧ MatrixDoes c i e g none ea eb old.1 s t) ∧
    (Issues .mmas c i e (mmaSpec x i true) (some i.bankN) s →
      ∃ t, exec (.mmas c i e) s = .next t ∧
        MatrixDoes c i e g (some (x.readScale w old.2 i.sel.toNat).1) ea eb old.1 s t)

/-- R50, R59: ACLR clears a bank and gives it the type of FD; ALD loads it from SA; AST stores it at DST in FD. -/
def Obligations.DrainInstructionsMoveABank : Prop :=
  ∀ (c : CellId) (i : CellIns) (e : CellEnv) (s : State),
    let x := s.cell (s.cellKey c)
    let w := s.issueTime c i true
    let y (t : State) := t.cell (s.cellKey c)
    let all (t : State) := OnlyCell c s t ∧ Advanced x (y t) w ∧ (y t).sc = x.sc ∧
      (y t).accInt (!i.bank) = x.accInt (!i.bank)
    let a := x.read w s.free i.aA 4096
    let r := x.readBank w s.free i.bankN
    let conv := r.1.map (convert (if x.accInt i.bank then 6 else 0) i.fd.toNat (i.imm.toNat % 32) i.sat)
    (Issues .aclr c i e (aclrSpec i) (some i.bankN) s → ∃ t, exec (.aclr c i e) s = .next t ∧ all t ∧
      (y t).store = x.store ∧ BankHolds i.bankN [] x (y t) ∧ (y t).accInt i.bank = (i.fd == 6) ∧
      Flagged c e Flags.none s t) ∧
    (Issues .ald c i e (aldSpec i) (some i.bankN) s → ∃ t, exec (.ald c i e) s = .next t ∧ all t ∧
      (y t).store = x.store ∧ BankHolds i.bankN (unpack 0 a.1) x (y t) ∧ (y t).accInt i.bank = (i.fa == 6) ∧
      Flagged c e Flags.none s t) ∧
    (Issues .ast c i e (astSpec (x.accInt i.bank) i) (some i.bankN) s → ∃ t, exec (.ast c i e) s = .next t ∧ all t ∧
      SameAccs x (y t) ∧ (y t).store = putBytes x.store i.dstA (pack i.fd.toNat (gather conv).1) ∧
      Flagged c e (gather conv).2 s t)

/-- R59: MOV copies CNT × 64 B from SA to DST, SRLD loads scale slot SEL from SA, and NOP changes nothing of its cell
but the program's place and time. R59, R60: LOOP counts and branches to IMM16 while its counter is below CNT, else
clears it and goes on; NEXTF leaves the cell waiting for a frame; each takes effect one cycle after its predecessor.
R59, R66, R210: END leaves its cell idle and changes nothing else; the last END of a step in flight that is not void
commits the step. -/
def Obligations.MovesAndSequencerInstructionsActInTheirCell : Prop :=
  (∀ (c : CellId) (i : CellIns) (e : CellEnv) (s : State),
      let x := s.cell (s.cellKey c)
      let w := s.issueTime c i true
      let y (t : State) := t.cell (s.cellKey c)
      let all (t : State) := OnlyCell c s t ∧ Advanced x (y t) w ∧ Flagged c e Flags.none s t ∧ (y t).acc = x.acc ∧
        (y t).accInt0 = x.accInt0 ∧ (y t).accInt1 = x.accInt1
      (Issues .mov c i e (movSpec i) none s → ∃ t, exec (.mov c i e) s = .next t ∧ all t ∧ (y t).sc = x.sc ∧
        (y t).store = putBytes x.store i.dstA (x.read w s.free i.aA (64 * i.n)).1) ∧
      (Issues .srld c i e (srldSpec i) none s → ∃ t, exec (.srld c i e) s = .next t ∧ all t ∧ (y t).store = x.store ∧
        (∀ k, tget 0 (y t).sc k = if k = i.sel.toNat then BitVec.ofNat 32 (leNat (x.read w s.free i.aA 4).1)
          else tget 0 x.sc k)) ∧
      (Issues .nop c i e (seqSpec true false i) none s → ∃ t, exec (.nop c i e) s = .next t ∧ all t ∧
        (y t).store = x.store ∧ (y t).sc = x.sc)) ∧
  (∀ (c : CellId) (i : CellIns) (e : CellEnv) (s : State),
      let x := s.cell (s.cellKey c)
      let y (t : State) := t.cell (s.cellKey c)
      let k := i.sel.toNat
      let all (t : State) := OnlyCell c s t ∧ SameAccs x (y t) ∧ (y t).store = x.store ∧ Flagged c e Flags.none s t ∧
        (y t).last = x.fx ∧ (y t).fx = x.fx + 1
      (Issues .loop c i e (seqSpec (k < 4 && (!decide (tget 0 x.lc k < i.n) || decide (i.imm.toNat < x.progLen))) true i)
          none s →
        ∃ t, exec (.loop c i e) s = .next t ∧ all t ∧ (y t).mode = x.mode ∧
          (∀ m, tget 0 (y t).lc m = if m = k then (if tget 0 x.lc k < i.n then tget 0 x.lc k + 1 else 0)
            else tget 0 x.lc m) ∧
          (y t).pc = (if tget 0 x.lc k < i.n then i.imm.toNat else x.pc + 1)) ∧
      (Issues .nextf c i e (seqSpec true false i) none s →
        ∃ t, exec (.nextf c i e) s = .next t ∧ all t ∧ (y t).mode = .waiting ∧ (y t).pc = x.pc + 1 ∧ (y t).lc = x.lc)) ∧
  (∀ (c : CellId) (i : CellIns) (e : CellEnv) (s : State),
      Issues .endp c i e (seqSpec true false i) none s →
      let x := s.cell (s.cellKey c)
      let f := s.regionFacet c.region.val
      ∃ u, OnlyCell c s u ∧ (u.cell (s.cellKey c)).mode = .idle ∧ (u.cell (s.cellKey c)).store = x.store ∧
        SameAccs x (u.cell (s.cellKey c)) ∧ Flagged c e Flags.none s u ∧
        exec (.endp c i e) s = .next (State.messages s
          (if s.regionBound c.region.val ∧ (s.facet f).inStep = true ∧ (s.facet f).void = false ∧ u.allEnded f = true then
            u.commitStep f else u)))

/-- R59, R128, R136: an LD takes the flits that its queue holds and an ST puts those that its queue has room for, in the
cycle of issue; once all CNT have moved, an LD has stored them at DST, and the cell goes on in either case. The others of
CNT follow as flits come and go. -/
def Obligations.LoadsAndStoresMoveFlitsOfTheirQueue : Prop :=
  ∀ (c : CellId) (i : CellIns) (e : CellEnv) (s : State),
    let x := s.cell (s.cellKey c)
    let y (t : State) := t.cell (s.cellKey c)
    let w := s.issueTime c i true
    let q := i.imm.toNat % 8
    let fl := tget [] x.queues q
    let k := min i.n fl.length
    let room := min i.n (16 - fl.length)
    let bytes := (chunks i.n 64 (x.read w s.free i.aA (64 * i.n)).1).map (fun d => Flit.mk false d s.dt none)
    let runs (t : State) : Prop :=
      OnlyCell c s t ∧ (y t).mode = .running ∧ SameAccs x (y t) ∧ (y t).pc = x.pc + 1 ∧ (y t).last = w
    (Issues .ld c i e (portSpec true i) none s → (s.portRoute c q true).isSome = true → x.pend = none → 0 < k →
      (fl.take k).all (fun z => !z.bad) = true →
      ∃ t, exec (.ld c i e) s = .next t ∧ runs t ∧
        (∀ m, tget [] (y t).queues m = if m = q then fl.drop k else tget [] x.queues m) ∧
        (k = i.n → (y t).pend = none ∧ (y t).store = putBytes x.store i.dstA ((fl.take i.n).flatMap (·.data))) ∧
        (k < i.n → (y t).store = x.store ∧
          (y t).pend = some ⟨true, q, i.dstA, w + (portSpec true i).delay x w, i.n, i.n - k, fl.take k, 0⟩)) ∧
    (Issues .st c i e (portSpec false i) none s → (s.portRoute c q false).isSome = true → x.pend = none → 0 < room →
      ∃ t, exec (.st c i e) s = .next t ∧ runs t ∧ (y t).store = x.store ∧
        (∀ m, tget [] (y t).queues m = if m = q then fl ++ bytes.take room else tget [] x.queues m) ∧
        (room = i.n → (y t).pend = none) ∧
        (room < i.n →
          (y t).pend = some ⟨false, q, i.dstA, w + (portSpec false i).delay x w, i.n, i.n - room, bytes.drop room, 0⟩))

/-- R57, R58, R60, R63, R65, R73: an instruction whose word fails its parity, whose opcode or format the die lacks, that
breaks R58, that comes while its unit is occupied or not after its predecessor, that meets an uncorrectable error of the
store or fails its residue check has no effect but the cell's fault, with cause 3, 4, 5, 1 or 2 in this order (log 17). -/
def Obligations.InstructionsThatFailTheirChecksFault : Prop :=
  ∀ (c : CellId) (i : CellIns) (e : CellEnv) (s : State),
    let x := s.cell (s.cellKey c)
    let w := s.issueTime c i true
    let pair := vecSpec i i.n 6 true (256 * i.n)
    let single := vecSpec i (4 * i.n) 20 false (256 * i.n)
    let at_ (q : Instr) (cause : Nat) : Prop :=
      ∃ t, exec q s = .next t ∧ FaultRecorded c.region.val c.block.val (s.posOf c) cause s t
    let checked (o : CellOp) (q : Instr) (sp : OpSpec) (bank : Option Nat) : Prop :=
      let fetch := e.ipar = false ∧ x.pc < x.progLen ∧ x.fetched = some (o, i) ∧ x.owed w = none
      let legal := illegal sp true i = false ∧ s.dieHas c.region.val o i = true
      let fits := fetch ∧ legal ∧ clash x sp bank w = false
      s.issuing c = true →
      (e.ipar = true → at_ q 3) ∧
      (e.ipar = false → x.progLen ≤ x.pc ∨ x.fetched = none → at_ q 4) ∧
      (fetch → ¬legal → at_ q 4) ∧
      (fetch → legal → clash x sp bank w = true → at_ q 5) ∧
      (fits → e.storeUe = true → at_ q 1) ∧
      (fits → e.storeUe = false → e.residue = true → sp.datapath = true → at_ q 2)
    checked .mma (.mma c i e) (mmaSpec x i false) (some i.bankN) ∧
    checked .mmas (.mmas c i e) (mmaSpec x i true) (some i.bankN) ∧
    checked .aclr (.aclr c i e) (aclrSpec i) (some i.bankN) ∧
    checked .ald (.ald c i e) (aldSpec i) (some i.bankN) ∧
    checked .ast (.ast c i e) (astSpec (x.accInt i.bank) i) (some i.bankN) ∧
    checked .vadd (.vadd c i e) pair none ∧
    checked .vsub (.vsub c i e) pair none ∧
    checked .vmul (.vmul c i e) pair none ∧
    checked .vfma (.vfma c i e) pair none ∧
    checked .vmax (.vmax c i e) pair none ∧
    checked .vmin (.vmin c i e) pair none ∧
    checked .vexp2 (.vexp2 c i e) single none ∧
    checked .vlog2 (.vlog2 c i e) single none ∧
    checked .vrcp (.vrcp c i e) single none ∧
    checked .vrsq (.vrsq c i e) single none ∧
    checked .vcvt (.vcvt c i e) (vcvtSpec i) none ∧
    checked .vrsum (.vrsum c i e) (vecSpec i i.n 14 false (reduceLen i.n)) none ∧
    checked .vrmax (.vrmax c i e) (vecSpec i i.n 14 false (reduceLen i.n)) none ∧
    checked .mov (.mov c i e) (movSpec i) none ∧
    checked .srld (.srld c i e) (srldSpec i) none ∧
    checked .nop (.nop c i e) (seqSpec true false i) none

/-- R65 to R68, R72, R99: a transfer that ends in an error response or with poisoned data, a program that misses its frame, and a cell that is
not isolated in time are recorded with causes 9, 6 and 8; the last is escalated, and its cell stays isolated where its block is retired. -/
def Obligations.TransferWatchdogAndIsolationFaults : Prop :=
  ∀ (c : CellId) (s : State),
    let x := s.cell (s.cellKey c)
    let f := s.regionFacet c.region.val
    let r := c.region.val
    let b := c.block.val
    let p := s.posOf c
    (x.mode = .running ∨ x.mode = .stalled ∨ x.mode = .waiting →
      ∃ t, exec (.xfer c none) s = .next t ∧ FaultRecorded r b p 9 s t) ∧
    (∀ a : BitVec 43, x.mode = .running ∨ x.mode = .stalled ∨ x.mode = .waiting →
      s.metBefore f (metKey true (a.toNat / 64 * 64)) = false →
      ∃ t, exec (.xfer c (some a)) s = .next t ∧ fld (t.reg (Reg.CELL_STAT r b p)) 11 8 = 9 ∧
        (t.cell (s.cellKey c)).mode = .faulted ∧ (t.cell (s.cellKey c)).pend = none ∧ a.toNat / 64 ∈ t.poison ∧
        (∀ z, t.memByte z = s.memByte z)) ∧
    (s.regionBound r = true → (s.facet f).inStep = true → (s.facet f).endMarked = true →
      (x.mode = .running ∨ x.mode = .stalled) → x.endSeen = false →
      ∃ t, exec (.wdog c) s = .next t ∧ FaultRecorded r b p 6 s t) ∧
    (x.mode = .faulted → ∃ t, exec (.isol c) s = .next t ∧ FaultRecorded r b p 8 s t ∧
      bit (t.reg (Reg.CELL_STAT r b p)) 0 = bit (s.reg (Reg.BLK_MAP r b)) 24 ∧ bit (t.reg (Reg.BLK_EVT r b)) 2 = true)

/-- R21, R72, R69, R389: a clean block reset without a hardware fault on record leaves every position of the block reset
with the contents of its store, raises its event, and touches no device memory. With one failed position the row is
remapped around it, once; any other outcome retires the block, with every position isolated. -/
def Obligations.CleanBlockResetRestoresItsCells : Prop :=
  ∀ (r : Fin 64) (b : Fin 8) (clean : Bool) (s : State),
    let x := s.block (8 * r.val + b.val)
    let m := Reg.BLK_MAP r.val b.val
    let kept := s.rf m 20 16
    let usable := clean = true ∧ (x.bad = [] ∨ x.bad.length = 1 ∧ 17 ≤ kept)
    x.needReset = true → bit (s.reg m) 24 = false →
    (clean = true → x.bad = [] →
      ∃ t, exec (.blockReset r b clean) s = .next t ∧
        t.block (8 * r.val + b.val) = BlockState.reset ∧
        (∀ p, p < 17 → (t.cell (posKey r.val b.val p)).mode = .idle ∧ (t.cell (posKey r.val b.val p)).pend = none ∧
          (t.cell (posKey r.val b.val p)).acc = [] ∧
          (t.cell (posKey r.val b.val p)).store = (s.cell (posKey r.val b.val p)).store ∧
          bit (t.reg (Reg.CELL_STAT r.val b.val p)) 0 = false) ∧
        bit (t.reg (Reg.BLK_EVT r.val b.val)) 1 = true ∧
        (∀ a, t.memByte a = s.memByte a) ∧ t.facets = s.facets) ∧
    (∀ p, clean = true → x.bad = [p] → p < 17 → 17 ≤ kept →
      ∃ t, exec (.blockReset r b clean) s = .next t ∧ fld (t.reg m) 20 16 = p ∧ bit (t.reg m) 24 = false ∧
        t.block (8 * r.val + b.val) = BlockState.reset ∧ bit (t.reg (Reg.BLK_EVT r.val b.val)) 0 = true ∧
        (∀ a, t.memByte a = s.memByte a)) ∧
    (¬usable →
      ∃ t, exec (.blockReset r b clean) s = .next t ∧ bit (t.reg m) 24 = true ∧
        bit (t.reg (Reg.BLK_EVT r.val b.val)) 2 = true ∧
        ∀ p, p < 17 → (t.cell (posKey r.val b.val p)).mode = .faulted ∧
          bit (t.reg (Reg.CELL_STAT r.val b.val p)) 0 = true)

/-- R136: transfers that wait go on, and a region resumes with those stalls that still hold; it reads STALL exactly
while one does. R137, R138, R147: the end of a region beat before the last of its frame moves the local beat on. The
next beat starts one region beat later, and one more for each slip that the lost time of an active beat takes; the
last beat of a frame leaves the region waiting for its frame start. A relock that waits for the drain starts there,
once its window is open. R139: a region that stands still reports it and stalls no more; the step in flight of its
facet is void. -/
def Obligations.RegionBeatsStallsAndResumes : Prop :=
  (∀ (r : Fin 64) (s : State),
      let x := s.region r.val
      let u := x.stalls.foldl (fun t w => match w with
        | .load c => t.advanceXfer c
        | .store c => t.advanceXfer c
        | _ => t) s
      let keep := x.stalls.filter (fun w => u.blocked r.val w)
      ∃ t, exec (.regionResume r) s = .next t ∧ t.region r.val = { x with stalls := keep } ∧
        fld (t.reg (Reg.REG_STAT r.val)) 19 19 = (if keep = [] then 0 else 1) ∧
        (∀ k, k ≠ r.val → t.region k = s.region k) ∧ t.cells = u.cells ∧ t.mem = s.mem ∧
        RegsBut (fun a => a = Reg.REG_STAT r.val) u t) ∧
  (∀ (r : Fin 64) (active : Bool) (lost : Nat) (s : State),
      let a := Reg.REG_STAT r.val
      let x := s.region r.val
      let k := s.beatRate r.val
      let lostN := if active then lost else 0
      let slips := if active then s.slipsOf r.val lost else 0
      let next := x.beatStart + k * (1 + slips)
      s.regionPoint r.val ≠ 2 → s.rf a 19 19 = 0 → s.rf Reg.CND_STAT 27 27 = 0 → x.holdUntil ≤ s.beat →
      x.done = false → x.behind = none → s.cellOwes r.val = none →
      ∃ t, exec (.regionBeatEnd r active lost) s = .next t ∧
        (s.rf a 11 0 < s.lastBeat r.val → fld (t.reg a) 11 0 = s.rf a 11 0 + 1 ∧ (t.region r.val).done = false) ∧
        (s.rf a 11 0 = s.lastBeat r.val → fld (t.reg a) 11 0 = s.rf a 11 0 ∧ (t.region r.val).done = true) ∧
        (t.region r.val).beatStart = next ∧ (t.region r.val).holdUntil = (if slips = 0 then 0 else next) ∧
        (t.region r.val).frameS = (if x.rejoin = true then x.frameS else x.frameS + slips * k) ∧
        (t.reg (Reg.REG_LOST r.val)).toNat = min (2 ^ 32 - 1) ((s.reg (Reg.REG_LOST r.val)).toNat + lostN * k) ∧
        (slips ≠ 0 → bit (t.reg (Reg.REG_EVT r.val)) 0 = true) ∧
        (x.relockDue = true → s.drained r.val = true →
          x.window ≤ (if s.rf a 11 0 < s.lastBeat r.val then s.rf a 11 0 + 1 else s.rf a 11 0) →
          bit (t.reg a) 20 = true ∧ bit (t.reg a) 18 = true ∧ bit (t.reg (Reg.REG_RETIME r.val)) 3 = false) ∧
        (∀ q, q ≠ r.val → t.region q = s.region q) ∧ t = { s with regions := t.regions, regs := t.regs, out := t.out } ∧
        RegsBut (fun z => (∃ q ∈ (s.kcs (s.regionFacet r.val)).table.regions, z = Reg.REG_STAT q) ∨ z = a ∨
          z = Reg.REG_LOST r.val ∨ z = Reg.REG_SLIP r.val ∨ z = Reg.REG_EVT r.val ∨ z = Reg.REG_RETIME r.val) s t) ∧
  (∀ (r : Fin 64) (s : State),
      let f := s.regionFacet r.val
      s.rf (Reg.REG_STAT r.val) 19 19 = 1 →
      ∃ t, exec (.stallFault r) s = .next t ∧ bit (t.reg (Reg.REG_EVT r.val)) 1 = true ∧
        (t.region r.val).stalls = [] ∧ fld (t.reg (Reg.REG_STAT r.val)) 19 19 = 0 ∧
        (s.regionBound r.val = true → (s.facet f).inStep = true → (t.facet f).void = true) ∧
        (∀ a, t.memByte a = s.memByte a))

/-- R444 to R446: where a facet's step was voided, its blocks are reset and no region of it is being re-timed, a restart
runs the step again from its first frame: after transient faults always, after a repair when the images of the remapped
cells read back well. Every cell of the facet that runs a program and is not faulted starts at its first instruction, the
step is as it was, and the restart is counted in REC. The third void of one step, and images that do not read back, stop
the facet. Anywhere else a restart changes nothing. -/
def Obligations.TransientVoidRunsTheStepAgain : Prop :=
  ∀ (f : Fin 64) (read : ImageRead) (s : State),
    let x := s.facet f.val
    let rec_ := Reg.REC f.val
    let ready := x.void = true ∧ s.blocksReset f.val = true ∧
      ∀ r ∈ (s.kcs f.val).table.regions, s.relocking r = false
    (ready → x.voids < 2 → (x.repair = true → read = .good) →
      ∃ t, exec (.stepRestart f read) s = .next t ∧
        (t.facet f.val).void = false ∧ (t.facet f.val).repair = false ∧ (t.facet f.val).inStep = true ∧
        (t.facet f.val).frame = 0 ∧ (t.facet f.val).voids = x.voids + 1 ∧ (t.facet f.val).step = x.step ∧
        (∀ c ∈ (s.kcs f.val).cells, c.prog ≠ 0xFFFF →
          (s.cell (s.keyOf c.region c.block c.cell)).mode ≠ .faulted →
          (t.cell (s.keyOf c.region c.block c.cell)).mode = .running ∧
          (t.cell (s.keyOf c.region c.block c.cell)).pc = 0 ∧ (t.cell (s.keyOf c.region c.block c.cell)).frame = 0) ∧
        fld (t.reg rec_) 15 0 = (if x.repair then min 65535 (s.rf rec_ 15 0 + 1) else s.rf rec_ 15 0) ∧
        fld (t.reg rec_) 31 16 = (if x.repair then s.rf rec_ 31 16 else min 65535 (s.rf rec_ 31 16 + 1)) ∧
        bit (t.reg Reg.CND_EVT) 8 = true ∧ ∀ g, g ≠ f.val → t.facet g = s.facet g) ∧
    (ready → (2 ≤ x.voids ∨ (x.repair = true ∧ read ≠ .good)) → s.facetState f.val ≠ 0 → s.facetState f.val ≠ 1 →
      ∃ t, exec (.stepRestart f read) s = .next t ∧ t.facetState f.val = 5 ∧ (t.facet f.val).inStep = false ∧
        bit (t.reg Reg.CND_EVT) 8 = true) ∧
    (¬ready → ∃ t, exec (.stepRestart f read) s = .next t ∧ OnlyRegs (fun _ => False) s t)

/-- R135, R143, R144, R246: a frame start of a facet that runs, or that is held and has been given START, counts the
frame. Of a single-module facet it comes S beats after the frame would have ended and begins every region at local beat
0; of a multi-module facet it comes at the group frame time, moved by the lateness that is due. -/
def Obligations.FrameStartBeginsEveryRegion : Prop :=
  ∀ (f : Fin 64) (s : State),
    let x := s.facet f.val
    s.framesRun f.val = true → s.mayStart f.val = true → bit (s.reg Reg.CND_STAT) 27 = false →
    s.stopsNow f.val = false → x.lost = false → s.sys.pwr.ordered = false → (∀ m, (s.stack m).retiring = []) →
    ∃ t, exec (.frameStart f) s = .next t ∧
      (t.facet f.val).frames = x.frames + 1 ∧
      (t.facet f.val).frame = (if x.inStep then x.frame + 1 else x.frame) ∧
      (x.startDue = true → t.facetState f.val = 3 ∧ (t.facet f.val).startDue = false) ∧
      ((s.kcs f.val).schedule.multi = false →
        (t.facet f.val).startBeat = (if x.frames = 0 then s.beat else x.startBeat + 4096 + s.facetS f.val) ∧
        ∀ r ∈ (s.kcs f.val).table.regions, r < 64 → fld (t.reg (Reg.REG_STAT r)) 11 0 = 0) ∧
      ((s.kcs f.val).schedule.multi = true →
        (t.facet f.val).startBeat = s.groupTime f.val + s.lateAt f.val (s.groupTime f.val)) ∧
      (∀ g, g ≠ f.val → t.facet g = s.facet g) ∧ (∀ a, t.memByte a = s.memByte a)

/-- R125, R128 to R130, R136, R142: in a scheduled slot, and in bounded mode for the route that the link takes next, one
flit leaves the queue, staging SRAM or bank at the start of a segment and reaches the queue, staging SRAM or bank at its
end; nothing else changes but the grant of a row and the queues' peaks. A slot whose flit or reserved entry is missing
stalls its region. -/
def Obligations.FlitsCrossFromQueueToQueue : Prop :=
  ∀ (f : Fin 64) (route : BitVec 16) (hop : BitVec 5) (io : List FlitIO) (s : State) (x : RouteRec),
    let h := hop.toNat
    let u := s.arrive f.val x h io
    s.routeOf f.val route.toNat = some x → s.facetBound f.val = true → h < x.hops →
    (x.mode % 2 = 0 → u.mayMove f.val x h = true →
      (∀ a, u.segHead (u.kcs f.val) x h io = some a → u.targetTakes f.val x io (u.segTo f.val x h) = true → EndsApart f.val x h u →
        ∃ t, exec (.scheduledSlot f route hop io) s = .next t ∧ Crossed f.val x h io a u t) ∧
      (∀ r q, u.startQueue x h = some (r, q) → u.segHead (u.kcs f.val) x h io = none →
        ∃ t, exec (.scheduledSlot f route hop io) s = .next t ∧
          (t.region (u.segRegion f.val x h)).stalls.contains (.inEmpty q x.num) = true ∧
          bit (t.reg (Reg.REG_STAT (u.segRegion f.val x h))) 19 = true) ∧
      ∀ a r q n, u.segHead (u.kcs f.val) x h io = some a → u.segTo f.val x h = .queue r q n →
        u.queueTakes f.val { x with num := n } r q = false →
        ∃ t, exec (.scheduledSlot f route hop io) s = .next t ∧
          (t.region (u.segRegion f.val x h)).stalls.contains (.outFull r q n x.reserve) = true ∧
          bit (t.reg (Reg.REG_STAT (u.segRegion f.val x h))) 19 = true) ∧
    ∀ y g a, x.mode % 2 = 1 → u.winner f.val x h io = some (y, g) → u.mayMove f.val y g = true →
      let io' := if y.num = x.num ∧ g = h then io else []
      u.segHead (u.kcs f.val) y g io' = some a → u.targetTakes f.val y io' (u.segTo f.val y g) = true → EndsApart f.val y g u →
      ∃ t, exec (.boundedFlit f route hop io) s = .next t ∧ Crossed f.val y g io' a u t ∧
        ∀ c q, u.segFrom y g = .cell c q → y.mode % 2 = 1 →
          (t.block (8 * c.region.val + c.block.val)).rowLast = c.cell.val

/-- R150 to R153, R376: a retime window that the schedule opens makes the facet's pending relocks due in each region
from its own local beat on; a relock that is done clears HOLD and RETIME and raises its event; a relock that fails
leaves its half at the previous point and is handled as a region that stood still. R150, R152: a relock that has
waited 64 frames starts without a window, at once where the region's outbound queues are drained and else at the
beat boundary at which they are, and every region of its facet holds for 32 device beats. R373, R243, R244: a
stretch is in force and shown as the largest so far; a job slot and the end of a step, at the beats that the
schedule gives them, are told to their bank and to the facet. -/
def Obligations.RelocksAndScheduleCommandsTakeEffect : Prop :=
  (∀ (f r : Fin 64) (beats : BitVec 16) (s : State),
      let a := Reg.REG_STAT r.val
      (s.scheduled f.val 3 (leBytes 2 beats.toNat) none = true →
        ∃ t, exec (.retime f beats) s = .next t ∧
          (∀ q ∈ s.pendingRelocks f.val, t.region q = { s.region q with
            relockDue := true, window := (s.beat - (s.facet f.val).startBeat) / s.beatRate q }) ∧
          (∀ q, q ∉ s.pendingRelocks f.val → t.region q = s.region q) ∧
          Output.command f.val 3 (leBytes 2 beats.toNat) ∈ t.out ∧
          t = { s with regions := t.regions, out := t.out, regs := t.regs } ∧ RegsBut (fun _ => False) s t) ∧
      (bit (s.reg a) 20 = true →
        ∃ t, exec (.retimeDone r) s = .next t ∧ bit (t.reg a) 20 = false ∧ bit (t.reg a) 18 = false ∧
          bit (t.reg (Reg.REG_EVT r.val)) 2 = true ∧ (t.region r.val).newPoint = none ∧
          fld (t.reg a) 22 21 = fld (s.reg a) 22 21 ∧ (∀ u ∈ t.sys.rst.waiting, Config.trimUnit u ≠ 1 + r.val) ∧
          t.mem = s.mem ∧ t.cells = s.cells ∧
          RegsBut (fun z => z = a ∨ z = Reg.REG_RETIME r.val ∨ z = Reg.REG_EVT r.val ∨ z = Reg.RAIL (r.val / 4)) s t) ∧
      (bit (s.reg a) 20 = true →
        ∃ t, exec (.relockFail r) s = .next t ∧ bit (t.reg a) 20 = false ∧ bit (t.reg (Reg.REG_EVT r.val)) 1 = true ∧
          (∀ p, (s.region r.val).newPoint = some p → ∀ n, n < 4 → t.regionPoint (r.val / 4 * 4 + n) = p % 4) ∧
          ((s.region r.val).newPoint = none → t.regionPoint r.val = s.regionPoint r.val) ∧
          (s.regionBound r.val = true → (s.facet (s.regionFacet r.val)).inStep = true →
            (t.facet (s.regionFacet r.val)).void = true) ∧ t.mem = s.mem)) ∧
  (∀ (f r : Fin 64) (s : State),
      s.facetBound f.val = true → r.val ∈ (s.kcs f.val).table.regions →
      bit (s.reg (Reg.REG_RETIME r.val)) 3 = true → 64 ≤ s.rf (Reg.REG_RETIME r.val) 15 8 →
      ∃ t, exec (.retimeForced f) s = .next t ∧
        (s.drained r.val = true → bit (t.reg (Reg.REG_STAT r.val)) 20 = true) ∧
        (s.drained r.val = false → (t.region r.val).relockDue = true ∧ (t.region r.val).window = 0) ∧
        bit (t.reg (Reg.REG_EVT r.val)) 3 = true ∧
        (∀ q ∈ (s.kcs f.val).table.regions, q < 64 → bit (t.reg (Reg.REG_STAT q)) 18 = true ∧
          (t.region q).holdUntil ≥ (s.region q).beatStart + 32) ∧ t.mem = s.mem) ∧
  (∀ (f r : Fin 64) (n : Fin 9) (bank : Byte) (beats : BitVec 16) (s : State),
      let x := s.facet f.val
      let args := leBytes 1 bank.toNat ++ leBytes 1 0 ++ leBytes 2 beats.toNat
      (s.regionPoint r.val ≠ 2 →
        ∃ t, exec (.stretch r n) s = .next t ∧ t.region r.val = { s.region r.val with stretch := n.val } ∧
          (n.val ≠ 0 → fld (t.reg (Reg.RGEN r.val)) 15 12 = max (s.rf (Reg.RGEN r.val) 15 12) n.val ∧
            fld (t.reg (Reg.RGEN r.val)) 31 16 = min 65535 (s.rf (Reg.RGEN r.val) 31 16 + 1)) ∧
          t = { s with regions := t.regions, regs := t.regs, out := t.out } ∧
          RegsBut (fun z => z = Reg.RGEN r.val) s t) ∧
      (s.scheduled f.val 2 args none = true →
        ∃ t, exec (.jobslot f bank beats) s = .next t ∧ Output.command f.val 2 args ∈ t.out ∧
          OnlyRegs (fun _ => False) s t) ∧
      (s.scheduled f.val 4 [] none = true →
        ∃ t, exec (.stepEnd f) s = .next t ∧ t.facet f.val = { x with endMarked := true } ∧
          Output.command f.val 4 [] ∈ t.out ∧ (∀ g, g ≠ f.val → t.facet g = s.facet g) ∧
          t = { s with facets := t.facets, regs := t.regs, out := t.out } ∧ RegsBut (fun _ => False) s t))

/-- R81, R84 to R86, R89, R92, R96, R136, R244: a run that the schedule issues sets its engine to the tensor's descriptor,
with its first block at the run's index entry; a descriptor that fails its checks leaves a run of zeros and raises the
event. An engine's block, once its bytes are there, is decoded to the staging SRAM, the engine goes on to the next block,
and the count of blocks rises; a failed run writes zeros, and a block that is not there stalls the region. No device
memory changes. -/
def Obligations.DecodeEnginesRunBlockByBlock : Prop :=
  ∀ (f : Fin 64) (engine : BitVec 12) (tensor : BitVec 16) (run dest : Word) (found : List ScrubFound) (rec : TensorRec)
    (s : State),
    let e := engine.toNat
    let d := s.readMem rec.dpa 48
    let j := run.toNat
    let from_ := if j < runCount d then s.indexEntry rec.dpa j else 0
    let to_ := if j + 1 < runCount d then s.indexEntry rec.dpa (j + 1) else descUnits d
    let args := leBytes 2 e ++ leBytes 2 tensor.toNat ++ leBytes 4 j ++ leBytes 4 dest.toNat
    let x := s.engine e
    let u := if x.zero then s else s.blockFinds x.facet x.addr found
    let y := u.engine e
    let size := 256 * widthOf (descFmt y.desc) / 8
    let out := decodeBlock y.desc (u.readMem y.addr 272) y.unitsLeft (y.blocksLeft == 1)
    let nextBlock (n : Nat) : EngineState :=
      { y with active := decide (1 < y.blocksLeft), blocksLeft := y.blocksLeft - 1, unitsLeft := y.unitsLeft - n,
               block := y.block + 1, addr := y.addr + 16 * n, dest := y.dest + size }
    let wrote (b : Bytes) (t : State) : Prop :=
      (∀ n, tget 0 t.staging n = tget 0 (putBytes u.staging y.dest b) n) ∧
      t.reg (Reg.EBW_BLOCKS (e / 512)) = u.reg (Reg.EBW_BLOCKS (e / 512)) + 1 ∧
      t = { u with engines := t.engines, staging := t.staging, regs := t.regs, out := t.out }
    ((s.kcs f.val).tensors[tensor.toNat]? = some rec → s.regionBound (e / 64) = true → s.regionFacet (e / 64) = f.val →
      s.scheduled f.val 1 args (some (e / 64)) = true →
      (s.tensorGood f.val rec.dpa d = true → ¬(j = 0 ∧ from_ ≠ 0) →
        ∃ t, exec (.run f engine tensor run dest) s = .next t ∧
          t.engine e = ⟨decide (0 < min 64 (descBlocks d - 64 * j)), runDest dest, f.val, d, min 64 (descBlocks d - 64 * j), to_ - from_, 64 * j,
            rec.dpa + 48 + indexBytes d + 16 * from_, runDest dest, false⟩ ∧
          t = { s with engines := t.engines, regs := t.regs, out := t.out } ∧ RegsBut (fun _ => False) s t) ∧
      (s.tensorGood f.val rec.dpa d = false →
        ∃ t, exec (.run f engine tensor run dest) s = .next t ∧
          (t.engine e).active = decide (64 * j < descBlocks rec.desc) ∧ (t.engine e).zero = true ∧
          (t.engine e).desc = rec.desc ∧ bit (t.reg (Reg.EBW_EVT (e / 512))) 0 = true)) ∧
    (x.active = true → s.frozenRegion (e / 64) = false →
      (y.zero = false → u.blockBad y.facet y.addr = false → out.cause = 0 →
        ∃ t, exec (.ebwBlockDecode engine ⟨true, found⟩) s = .next t ∧ wrote (blockBytes y.desc out.weights) t ∧
          t.engine e = nextBlock out.len) ∧
      (y.zero = true →
        ∃ t, exec (.ebwBlockDecode engine ⟨true, found⟩) s = .next t ∧ wrote (zeros size) t ∧ t.engine e = nextBlock 0) ∧
      ∃ t, exec (.ebwBlockDecode engine ⟨false, found⟩) s = .next t ∧ bit (t.reg (Reg.REG_STAT (e / 64))) 19 = true ∧
        (t.region (e / 64)).stalls.contains (.engine e) = true ∧ t.engines = s.engines)

/-- R99, R100, R112: a clean scrub changes nothing; a corrected error is counted, and more than 256 of a bank within 24
hours raise the event and begin its count afresh; an uncorrectable error poisons its unit, and counts when it is
first found. R107, R108: a slice that has been cleared is FREE, reads as zeros, and holds no poison; every byte of
the other slices is as before. -/
def Obligations.MemoryUnitsAreScrubbedAndCleared : Prop :=
  (∀ (unit : BitVec 37) (s : State),
      let dpa := unit.toNat * 64
      let m := stackOf dpa
      let errors := s.dt :: (tget [] (s.stack m).errors (bankKey dpa)).filter (fun t => s.dt < t + dayTicks)
      let counted (t : State) : Prop :=
        fld (t.reg (Reg.CE_COUNT m)) 31 0 = min (2 ^ 32 - 1) (s.rf (Reg.CE_COUNT m) 31 0 + 1)
      sliceOf dpa < 320 → s.stackOn m = true →
      (∃ t, exec (.scrub unit .clean) s = .next t ∧ OnlyRegs (fun _ => False) s t) ∧
      (errors.length ≤ 256 →
        ∃ t, exec (.scrub unit .corrected) s = .next t ∧ counted t ∧ tget [] (t.stack m).errors (bankKey dpa) = errors ∧
          t = { s with memStacks := t.memStacks, regs := t.regs, out := t.out } ∧
          RegsBut (fun a => a = Reg.CE_COUNT m) s t) ∧
      (256 < errors.length →
        ∃ t, exec (.scrub unit .corrected) s = .next t ∧ counted t ∧ tget [] (t.stack m).errors (bankKey dpa) = [] ∧
          bit (t.reg (Reg.MST_EVT m)) 0 = true) ∧
      ∃ t, exec (.scrub unit .uncorrectable) s = .next t ∧ unit.toNat ∈ t.poison ∧
        (unit.toNat ∉ s.poison → bit (t.reg (Reg.MST_EVT m)) 1 = true ∧
          fld (t.reg (Reg.UE_COUNT m)) 31 0 = min (2 ^ 32 - 1) (s.rf (Reg.UE_COUNT m) 31 0 + 1))) ∧
  (∀ (n : Fin 320) (s : State),
      s.sliceState n.val = 2 →
      ∃ t, exec (.sliceFree n) s = .next t ∧ t.sliceState n.val = 0 ∧ t.sliceFacet n.val = 0 ∧
        (∀ a, sliceOf a = n.val → t.memByte a = 0) ∧ (∀ a, sliceOf a ≠ n.val → t.memByte a = s.memByte a) ∧
        (∀ u ∈ t.poison, sliceOf (u * 64) ≠ n.val) ∧
        t = { s with mem := t.mem, poison := t.poison, regs := t.regs, out := t.out } ∧
        RegsBut (fun a => a = Reg.SLICE_STAT n.val) s t)

/-- R113 to R115: when the copy of a layer's map-out is complete, the logical layer lies in the copy's physical layer
and the layer that it left is retired; that of a bank's map-out joins the remap table. The copy bits clear, the
event is raised, and the maps are committed unless the supply's inhibit makes the commit wait. R119: a regulator
fault switches the stack's domain off; its slices are OFFLINE, or RETIRED where they are or are about to be, the
facets that hold one stop, and the event is raised. Where none is BOUND, their contents are lost. -/
def Obligations.LayersAndStacksLeaveService : Prop :=
  (∀ (m : Fin 20) (s : State) (c : MapOut),
      let x := s.stack m.val
      let switched (t : State) : Prop :=
        (t.stack m.val).copy = none ∧ bit (t.reg (Reg.MST_STAT m.val)) 4 = false ∧
        bit (t.reg (Reg.LAYER_STAT m.val c.dst)) 10 = false ∧ bit (t.reg (Reg.MST_EVT m.val)) 2 = true ∧
        (s.inhibited = false → (t.stack m.val).remapsNv = (t.stack m.val).remaps ∧ (t.stack m.val).commitDue = false) ∧
        (s.inhibited = true → (t.stack m.val).commitDue = true ∧ bit (t.reg (Reg.MST_EVT m.val)) 6 = true) ∧ t.mem = s.mem
      x.copy = some c → c.dst < 34 → x.waiting = [] →
      (∀ p, c.bank = none → c.layer < 32 → s.physicalOf m.val c.layer = some p → p ≠ c.dst →
        ∃ t, exec (.mapout m) s = .next t ∧ switched t ∧ t.layerUse m.val c.dst = 0 ∧
          fld (t.reg (Reg.LAYER_STAT m.val c.dst)) 4 0 = c.layer ∧ t.layerUse m.val p = 3) ∧
      (∀ b, c.bank = some b →
        ∃ t, exec (.mapout m) s = .next t ∧ switched t ∧
          (t.stack m.val).remaps = x.remaps ++ [(c.layer, b.1, b.2)] ∧
          t.poolUsed m.val c.dst = min 127 (s.poolUsed m.val c.dst + 1))) ∧
  (∀ (m : Fin 20) (s : State),
      s.domOn (stackDomain m.val) = true →
      ∃ t, exec (.regFault m) s = .next t ∧ t.domOn (stackDomain m.val) = false ∧ t.stackOn m.val = false ∧
        bit (t.reg (Reg.MST_EVT m.val)) 5 = true ∧
        (∀ j, j < 16 → t.sliceState (j * 20 + m.val) = if s.sliceState (j * 20 + m.val) = 4 ∨
          j * 20 + m.val ∈ (s.stack m.val).retiring then 4 else 3) ∧
        (∀ j, j < 16 → s.sliceState (j * 20 + m.val) = 1 → s.sliceFacet (j * 20 + m.val) < 64 →
          2 ≤ s.facetState (s.sliceFacet (j * 20 + m.val)) → t.facetState (s.sliceFacet (j * 20 + m.val)) = 5) ∧
        ((∀ j, j < 16 → s.sliceState (j * 20 + m.val) ≠ 1) →
          ∀ j a, j < 16 → sliceOf a = j * 20 + m.val → t.memByte a = 0))

/-- R116, R117, R431: a sample of a stack is the highest of its sensors that have not failed, shown in whole °C. A stack
whose band that temperature leaves changes its band at the next frame boundary, or enters B1 at once where it heats
fast or has reached 88 °C; a band that is due is taken at the frame boundary. R121, R410: the three wear counters of
every stack go to the non-volatile store with their check word; while its writes are inhibited nothing is stored,
and the counters wait for the supply. -/
def Obligations.StackSamplesAndWearAreKept : Prop :=
  (∀ (m : Fin 20) (t0 t1 t2 t3 : Reading) (s : State),
      let a := Reg.MST_STAT m.val
      let part := 0x50 + m.val
      let u := [(0, t0), (1, t1), (2, t2), (3, t3)].foldl (fun u e => u.read part (stackSensor m.val e.1) e.2) s
      let x := s.stack m.val
      let b := s.rf a 1 0
      let band (t : State) := fld (t.reg a) 1 0
      (∀ y l, [0, 1, 2, 3].filterMap (fun i => u.valid (stackSensor m.val i)) = y :: l →
        let v := maxInt y l
        let n := nextBand b v
        let fast := b = 0 ∧ (88000 ≤ v ∨ 100 * (x.hist.length : Int) < v - (x.hist.getLast?).getD v)
        (v < 105000 ∨ (s.part part).hot = 0 →
          ∃ t, exec (.stackTempSample m t0 t1 t2 t3) s = .next t ∧ fld (t.reg a) 15 8 = showTemp v ∧
            (t.stack m.val).temp = v ∧
            (n = b → band t = b ∧ (t.stack m.val).bandDue = x.bandDue) ∧
            (n ≠ b → ¬fast → band t = b ∧ (t.stack m.val).bandDue = some n) ∧
            (n ≠ b → fast → band t = 1 ∧ (t.stack m.val).bandDue = (if n = 2 then some 2 else none) ∧
              bit (t.reg (Reg.MST_EVT m.val)) 4 = true) ∧
            t = { s with memStacks := t.memStacks, sys := { s.sys with thm := t.sys.thm }, regs := t.regs, out := t.out } ∧
            RegsBut (fun z => z = a ∨ z = Reg.MST_EVT m.val ∨ z = Reg.CYC40 m.val ∨ z = Reg.CYC60 m.val ∨
              z = Reg.CYC80 m.val ∨ z = Reg.THM_EVT ∨ z = Reg.THM_FIRST) s t) ∧
        (105000 ≤ v → 0 < (s.part part).hot → s.pwrState ≠ 5 →
          ∃ t, exec (.stackTempSample m t0 t1 t2 t3) s = .next t ∧ band t = 3 ∧ t.sys.pwr.trip = true)) ∧
      ∀ b', x.bandDue = some b' → b' < 4 → b ≠ 3 →
        ∃ t, exec (.bandChange m) s = .next t ∧ fld (t.reg a) 1 0 = b' ∧ t.stack m.val = { x with bandDue := none } ∧
          (∀ k, k ≠ m.val → t.stack k = s.stack k) ∧
          t = { s with memStacks := t.memStacks, regs := t.regs, out := t.out } ∧ RegsBut (fun z => z = a) s t) ∧
  (∀ (s : State) (m : Nat), m < 20 →
      let counters := [Reg.CYC40 m, Reg.CYC60 m, Reg.CYC80 m]
      (s.inhibited = false →
        ∃ t, exec .wearCounterWrite s = .next t ∧
          (∀ a ∈ counters, tget (resetValue a &&& nvMask a) t.nv a = s.reg a &&& nvMask a) ∧
          (t.stack m).wearCrc = crc32c (counters.flatMap (fun a => leBytes 4 (s.reg a).toNat)) ∧
          t = { s with nv := t.nv, memStacks := t.memStacks, regs := t.regs, out := t.out } ∧
          RegsBut (fun _ => False) s t) ∧
      (s.inhibited = true →
        ∃ t, exec .wearCounterWrite s = .next t ∧ (∀ a ∈ counters, a ∈ t.nvDue) ∧
          t = { s with nvDue := t.nvDue, regs := t.regs, out := t.out } ∧ RegsBut (fun _ => False) s t))

/-- R200, R201, R202: a doorbell or ring message that passes the endpoint's checks is kept for its queue pair until the
frame boundary; a ring message first writes its descriptor to the entry before its RQ_TAIL. One of a pair outside
the facet's range, or with bytes that must be zero, is refused and logged. R202, R205: at a frame boundary of a
running facet each queue pair takes the furthest valid values of the doorbells that it holds, an invalid one raises
the event, and descriptors may be read from then on; at a device frame's first boundary the count of descriptors
read starts again. No pair here has anything to write. -/
def Obligations.DoorbellsWaitForTheFrameBoundary : Prop :=
  (∀ (p : Packet) (f : Nat) (s : State),
      let n := p.addr.toNat
      let tagged := s.eidFacet p.dst.toNat = some f ∧ p.jobTag.toNat = s.jobTag f ∧ wellFormedOp p = true
      let rung (body : Bytes) (t : State) : Prop :=
        t.qp n = { s.qp n with bells := (s.qp n).bells ++ [(leAt body 0 2, leAt body 2 2)] } ∧
        (∀ k, k ≠ n → t.qp k = s.qp k) ∧ RegsBut (fun _ => False) s t
      let body := sub p.payload 0 64
      let dpa := s.ringEntry f n ((leAt body 0 2 + 65535) % 65536)
      (tagged → s.bellBad f n p.payload = false → ∃ t, exec (.doorbell p) s = .next t ∧ rung p.payload t ∧
        t = { s with qps := t.qps, regs := t.regs, out := t.out }) ∧
      (tagged → s.bellBad f n body = false → s.areaLocked dpa (sub p.payload 64 128).length = false →
        ∃ t, exec (.ringMsg p) s = .next t ∧ rung body t ∧
          (∀ a, t.memByte a = (s.writeMem dpa (sub p.payload 64 128)).memByte a) ∧
          t = { s with qps := t.qps, mem := t.mem, regs := t.regs, out := t.out }) ∧
      (tagged → s.bellBad f n p.payload = true → ∃ t, exec (.doorbell p) s = .next t ∧ bit (t.reg Reg.SES_EVT) 0 = true ∧
        t.mem = s.mem) ∧
      (tagged → s.bellBad f n body = true → ∃ t, exec (.ringMsg p) s = .next t ∧ bit (t.reg Reg.SES_EVT) 0 = true ∧
        t.mem = s.mem)) ∧
  (∀ (f : Fin 64) (n : Nat) (x : SessionRec) (s : State),
      let q := s.qp n
      let tails := (q.bells.filter (State.tailValid q x.rqlog2)).map (·.1)
      let heads := (q.bells.filter (State.headValid q)).map (·.2)
      s.session f.val = some x → x.qbase ≤ n → n < x.qbase + x.qn → s.facetState f.val = 3 →
      (s.facet f.val).lost = false → s.sys.pwr.ordered = false → (∀ o ∈ s.ses.opens, o.facet ≠ f.val) →
      (∀ k, (s.qp k).entries = [] ∧ (s.qp k).req = none ∧ (s.qp k).notify = [] ∧ (s.qp k).resetDue = false ∧
        (s.qp k).error = false) →
      ∃ t, exec (.sessionFrameBoundary f) s = .next t ∧
        t.qp n = { q with bells := [], rqTail := furthest q.rqTail tails, pqHead := furthest q.pqHead heads } ∧
        (q.bells.any (fun b => !(State.tailValid q x.rqlog2 b && State.headValid q b)) = true →
          bit (t.reg Reg.SES_EVT) 0 = true) ∧
        tget 0 t.ses.boundary f.val = s.dt + 1 ∧ t.ses.opens = s.ses.opens ∧
        t.ses.readCount = (if s.ses.readFrame = s.devFrame then s.ses.readCount else 0) ∧ t.mem = s.mem ∧
        t = { s with qps := t.qps, ses := t.ses, slots := t.slots, regs := t.regs, out := t.out } ∧
        RegsBut (fun a => a = Reg.SES_EVT ∨ a = Reg.SES_FIRST) s t)

/-- R204 to R206, R209, R221: a descriptor that the engine reads acts on its queue pair. An OPEN takes the facet's lowest
free slot, or waits with the facet's ADMIT_WAIT; an APPEND starts its request in an idle slot; a CANCEL marks a request
whose input is in the step in flight, and ends another at once; a CLOSE closes the slot, once a cancelled request has
ended. Each advances RQ_HEAD and the expected SEQ, and counts. -/
def Obligations.DescriptorsActOnTheirQueuePair : Prop :=
  ∀ (f : Fin 64) (qp : BitVec 18) (d : Bytes) (x : SessionRec) (s : State),
    let n := qp.toNat
    let q := s.qp n
    let head := (q.rqHead + 1) % 65536
    let read (t : State) : Prop :=
      (t.qp n).rqHead = head ∧ (t.qp n).seq = (q.seq + 1) % 2 ^ 32 ∧
      t.reg (Reg.SES_REQ f.val) = s.reg (Reg.SES_REQ f.val) + 1 ∧ t.ses.readCount = s.ses.readCount + 1 ∧ t.mem = s.mem
    let alone (t : State) : Prop := ∀ k, k ≠ n → t.qp k = s.qp k
    let reached (eid : Nat) : Prop :=
      s.routeLocal eid = true ∨ s.routeValid eid = true ∧ s.portUp (s.route eid % 32) = true
    s.mayRead f.val n d = true → s.session f.val = some x → dSeq d = q.seq → descOk s f.val d = true →
    descTokens x.v d = true →
    (dOpc d = 1 → q.slot = none → s.freeSlotOf f.val = none →
      ∃ t, exec (.openq f qp d) s = .next t ∧ read t ∧ alone t ∧
        t.ses.opens = s.ses.opens ++ [⟨f.val, n, d, x.admitWait, head⟩]) ∧
    (∀ i, dOpc d = 1 → q.slot = none → s.freeSlotOf f.val = some i → (∀ o ∈ s.ses.opens, o.facet ≠ f.val) →
      s.slotOf f.val i < 64 → reached (leAt d 100 4 % 2 ^ 18) →
      ∃ t, exec (.openq f qp d) s = .next t ∧ read t ∧ t.ses.opens = s.ses.opens ∧
        (t.qp n).slot = some (s.slotOf f.val i) ∧ (t.qp n).ring = some (ringOfDesc d) ∧
        t.slotState (s.slotOf f.val i) = 1 ∧ fld (t.reg (Reg.SLOT_QP (s.slotOf f.val i))) 17 0 = n) ∧
    (∀ p, dOpc d = 2 → q.slot = some p → p < 64 → s.slotState p = 1 → ((s.slot p).pend.isSome = true ∨ 0 < dNPrompt d) →
      ∃ t, exec (.append f qp d) s = .next t ∧ read t ∧ alone t ∧
        (t.qp n).req = some ⟨d, head, 0, 0, [], 0, false⟩ ∧ t.slotState p = (if dNPrompt d = 0 then 3 else 2) ∧
        t.slots = s.slots) ∧
    (∀ p r, dOpc d = 3 → q.slot = some p → q.req = some r → p < 64 →
      let busy := (s.slot p).input.isSome = true ∨ s.owes f.val (s.localSlot (some p)) = true
      (busy → ∃ t, exec (.cancel f qp d) s = .next t ∧ read t ∧ alone t ∧
        (t.qp n).req = some { r with cancel := true } ∧ t.slots = s.slots) ∧
      (¬busy → ∃ t, exec (.cancel f qp d) s = .next t ∧ read t ∧ (t.qp n).req = none ∧
        (t.slotState p = 1 ∨ t.slotState p = 5) ∧
        (q.closing = none → s.slotState p ≠ 5 → (∀ g, q.ring = some g → reached g.eid) → t.slotState p = 1))) ∧
    ∀ p, dOpc d = 4 → q.slot = some p → p < 64 →
      ∃ t, exec (.close f qp d) s = .next t ∧ read t ∧ alone t ∧ (t.qp n).closing = some (d, head) ∧
        (q.req = none → t.slotState p = 5)

/-- R208, R209, R502: a step begins: its first frame, the inputs that its slots have chosen, its table in device memory,
and every cell of the facet that runs a program and is not isolated at instruction 0 with its scale slots and counters
cleared. -/
def Obligations.StepBeginStartsTheCells : Prop :=
  ∀ (f : Fin 64) (s : State),
    let x := s.facet f.val
    let u := (List.range (s.slotCount f.val)).foldl (fun t q => t.chooseInput f.val q) s
    s.facetState f.val = 3 → x.inStep = false → x.gapLeft = 0 → x.mismatch = false →
    ∃ t, exec (.stepBegin f) s = .next t ∧
      t.facet f.val = { x with inStep := true, frame := 0, void := false, endMarked := false } ∧
      (∀ c ∈ (s.kcs f.val).cells, c.prog ≠ 0xFFFF →
        let k := s.keyOf c.region c.block c.cell
        (s.cell k).mode ≠ .faulted →
        (t.cell k).pc = 0 ∧ (t.cell k).mode = .running ∧ (t.cell k).sc = [] ∧ (t.cell k).lc = [] ∧
        (t.cell k).pend = none ∧ (t.cell k).store = (s.cell k).store ∧ (t.cell k).acc = (s.cell k).acc) ∧
      (∀ m, (∀ c ∈ (s.kcs f.val).cells, m ≠ s.keyOf c.region c.block c.cell) → t.cell m = s.cell m) ∧
      t.slots = u.slots ∧ (∀ a, t.memByte a = (u.writeStepTable f.val).memByte a)

/-- R211, R214, R215: one of the four slots next in order takes a token from its logits: the token is the slot's next
input and joins the reply being built; one that a step has begun without is late, and counted. A token that ends its
request, by a stop token or as the last it may make, leaves the queue pair without a request. -/
def Obligations.SampledTokenJoinsTheReply : Prop :=
  ∀ (f slot : Fin 64) (onTime : Bool) (x : SessionRec) (r : Request) (tok : Nat) (drawn : Bool) (s : State),
    let p := s.slotOf f.val slot.val
    let y := s.slot p
    let n := s.rf (Reg.SLOT_QP p) 17 0
    let d := r.desc
    let z := (List.range x.v).map (fun i => leAt (s.readMem (x.logits + slot.val * x.v * 4) (x.v * 4)) (4 * i) 4)
    let stops := (List.range (byteAt d 6)).map (fun i => leAt d (52 + 4 * i) 4)
    let ends := stops.contains tok = true ∨ (tok = x.eos ∧ byteAt d 5 = 0) ∨ r.made + 1 = dMaxNew d
    s.session f.val = some x → (s.qp n).req = some r → (s.ses.sampling.take 4).contains (f.val, slot.val) = true →
    sampleToken z (leAt d 12 4) (leAt d 20 2) (leAt d 16 4) (leAt d 24 8) y.pos s.freeWord.toNat = some (tok, drawn) →
    (¬ends → s.beyond f.val y.pos = false → r.cancel = false → r.tokens.length + 1 < entryCap d →
      (∀ k, (s.qp k).notify = []) → 
      (y.late = false ∨ onTime = false ∨ (s.facet f.val).inStep = false ∨ (s.facet f.val).frame ≠ 0) →
      ∃ t, exec (.sample f slot onTime) s = .next t ∧
        t.slot p = { y with pend := some tok, late := false } ∧
        (t.qp n).req = some { r with tokens := r.tokens ++ [tok], made := r.made + 1,
                                     tokPos := if r.tokens.isEmpty then y.pos else r.tokPos } ∧
        (y.late = true → bit (t.reg Reg.SES_EVT) 4 = true ∧
          fld (t.reg (Reg.SES_ERR f.val)) 31 16 = min 65535 (s.rf (Reg.SES_ERR f.val) 31 16 + 1)) ∧
        t = { s with slots := t.slots, qps := t.qps, regs := t.regs, out := t.out, free := s.free + b2n drawn,
                     ses := { s.ses with sampling := s.ses.sampling.erase (f.val, slot.val) } } ∧
        RegsBut (fun a => a = Reg.SES_NAN f.val ∨ a = Reg.SES_ERR f.val ∨ a = Reg.SES_EVT ∨ a = Reg.SES_FIRST) s t) ∧
    (ends → ∃ t, exec (.sample f slot onTime) s = .next t ∧ (t.qp n).req = none ∧ t.mem = s.mem ∧ t.cells = s.cells)

/-- R217, R219, R225: a request held 65,536 frames in REPLY_WAIT ends with its entry kept for the ring; a failed
notification puts the pair in ERROR; a reset of a facet's pair waits for the boundary and shows GO, and one of a
pair of no facet is done at once. R206: an OPEN that has waited its frames ends: it waits no more and the event is
raised. R190, R223: a facet that loses its group is stopped at its next frame boundary, with its event. -/
def Obligations.SessionTroubleIsHandled : Prop :=
  (∀ (qp : BitVec 18) (s : State),
      let n := qp.toNat
      let q := s.qp n
      (∀ f p r g, s.qpFacet n = some f → q.slot = some p → p < 64 → s.slotState p = 4 → 65536 ≤ (s.slot p).waited →
        q.req = some r → q.ring = some g → ringFull q g = true →
        ∃ t, exec (.replyBlocked qp) s = .next t ∧ (t.qp n).req = none ∧
          (t.qp n).entries = q.entries ++ [s.entryNow f n r g 0x17] ∧
          t.slotState p = (if q.closing.isSome then 5 else 1) ∧ bit (t.reg Reg.SES_EVT) 5 = true ∧ t.mem = s.mem) ∧
      (∀ f p, s.qpFacet n = some f → q.slot = some p → p < 64 →
        ∃ t, exec (.notifyFail qp) s = .next t ∧
          t.qp n = { q with error := true, req := none, closing := none, entries := [], notify := [] } ∧
          t.slotState p = 5 ∧ bit (t.reg Reg.SES_EVT) 6 = true ∧
          t.ses.opens = s.ses.opens.filter (fun o => o.qp != n) ∧ t.mem = s.mem) ∧
      (∀ f, s.qpFacet n = some f →
        ∃ t, exec (.qpReset qp) s = .next t ∧ t.qp n = { q with resetDue := true } ∧ (∀ k, k ≠ n → t.qp k = s.qp k) ∧
          fld (t.reg Reg.QP_RESET) 31 31 = 1 ∧ fld (t.reg Reg.QP_RESET) 17 0 = n ∧
          t = { s with qps := t.qps, regs := t.regs, out := t.out } ∧ RegsBut (fun a => a = Reg.QP_RESET) s t) ∧
      (s.qpFacet n = none →
        ∃ t, exec (.qpReset qp) s = .next t ∧
          t.qp n = { QpState.reset with slot := q.slot, lastStatus := q.lastStatus } ∧
          fld (t.reg Reg.QP_RESET) 31 31 = 0 ∧ fld (t.reg Reg.QP_RESET) 17 0 = n ∧ t.mem = s.mem)) ∧
  (∀ (qp : BitVec 18) (o : OpenWait) (s : State),
      let eid := leAt o.desc 100 4 % 2 ^ 18
      s.ses.opens.find? (fun o => o.qp == qp.toNat && o.left == 0) = some o →
      (s.routeLocal eid = true ∨ s.routeValid eid = true ∧ s.portUp (s.route eid % 32) = true) →
      ∃ t, exec (.noSlot qp) s = .next t ∧ t.ses.opens = s.ses.opens.filter (fun o => o.qp != qp.toNat) ∧
        bit (t.reg Reg.SES_EVT) 2 = true ∧ (∀ a, t.memByte a = s.memByte a)) ∧
  (∀ (f : Fin 64) (s : State),
      let x := s.facet f.val
      (s.facetState f.val ≠ 0 → (s.kcs f.val).group.isSome = true →
        ∃ t, exec (.groupLost f) s = .next t ∧ t.facet f.val = { x with lost := true } ∧
          (∀ g, g ≠ f.val → t.facet g = s.facet g) ∧
          t = { s with facets := t.facets, regs := t.regs, out := t.out } ∧ RegsBut (fun _ => False) s t) ∧
      (x.lost = true → 2 ≤ s.facetState f.val →
        ∃ t, exec (.frameStart f) s = .next t ∧ t.facetState f.val = 5 ∧ (t.facet f.val).inStep = false ∧
          (t.facet f.val).lost = false ∧ bit (t.reg Reg.SES_EVT) 7 = true ∧ (∀ g, g ≠ f.val → t.facet g = s.facet g) ∧
          (∀ a, t.memByte a = s.memByte a)))

/-- R172, R173, R188: a job that passes its checks is accepted by a free bank: the bank is held for the scan and 64
ticks, counts it, and owes its list. A bank that is not free keeps it waiting. A job that fails a check is refused,
and the step in flight is void. R171, R174, R175, R187, R189: the list of the oldest accepted job stands at its
DEST: the pinned and the selected blocks in ascending order, then null entries. A full-context job (mode 3) selects
every held block before the tail; with LOG = 1 the list is written to LOGADDR as well. -/
def Obligations.LoupeJobsAreAcceptedAndListed : Prop :=
  (∀ (f : Fin 64) (d : Bytes) (b : Nat) (s : State),
      let x := s.bank b
      s.facetBound f.val = true →
      (s.jobOk f.val d = true → s.physicalBank f.val (parseJob d).bank = some b →
        (s.bankFree b = true → x.waiting = [] →
          ∃ t, exec (.loupeJob f d) s = .next t ∧
            t.bank b = { x with heldUntil := s.dt + scanTicks (parseJob d) + 64, lists := x.lists ++ [(f.val, d)] } ∧
            (∀ k, k ≠ b → t.bank k = s.bank k) ∧ t.reg (Reg.BANK_JOBS b) = s.reg (Reg.BANK_JOBS b) + 1 ∧
            t = { s with banks := t.banks, regs := t.regs, out := t.out } ∧
            RegsBut (fun a => a = Reg.BANK_JOBS b) s t) ∧
        (s.bankFree b = false →
          ∃ t, exec (.loupeJob f d) s = .next t ∧ t.bank b = { x with waiting := x.waiting ++ [(f.val, d)] } ∧
            (∀ k, k ≠ b → t.bank k = s.bank k) ∧ t = { s with banks := t.banks, regs := t.regs, out := t.out } ∧
            RegsBut (fun _ => False) s t)) ∧
      (s.jobOk f.val d = false →
        ∃ t, exec (.loupeJob f d) s = .next t ∧ bit (t.reg Reg.LPE_EVT) 2 = true ∧ t.banks = s.banks ∧ t.mem = s.mem ∧
          t.staging = s.staging ∧ ((s.facet f.val).inStep = true → (t.facet f.val).void = true))) ∧
  (∀ (bank : Fin 32) (f : Nat) (d : Bytes) (rest : List (Nat × Bytes)) (s : State),
      let b := bank.val
      let j := parseJob d
      let pin := if j.empty then [] else s.pinnedBlocks f j
      let real := if j.empty then [] else sortNat (pin ++ (s.select b f j).1)
      let n := max j.entries real.length
      let at_ := j.destLayer * 805306368 + j.destOff
      let entry (i : Nat) : Nat := if i < real.length then listEntry pin (real.getD i 0) % 2 ^ 32 else 0x80000000
      (s.bank b).lists = (f, d) :: rest → (s.bank b).waiting = [] → s.areaLocked j.logAddr (listBytes n) = false →
      (j.mode = 3 → j.empty = false → s.bankStateOf b ≠ 4 → (s.select b f j).1 = s.candidates f j) ∧
      ∃ t, exec (.listWrite bank) s = .next t ∧ (t.bank b).lists = rest ∧
        (∀ i, i < n → leNat (t.readStaging (at_ + 4 * i) 4) = entry i) ∧
        (j.log = true → ∀ i, i < n → leNat (t.readMem (j.logAddr + 4 * i) 4) = entry i) ∧
        (j.log = false → t.mem = s.mem) ∧
        t = { s with banks := t.banks, staging := t.staging, mem := t.mem, free := t.free, regs := t.regs, out := t.out } ∧
        RegsBut (fun a => a = Reg.LPE_CNT f ∨ a = Reg.LPE_EVT ∨ a = Reg.LPE_FIRST) s t)

/-- R167, R241: an append of a block that this rank holds writes the key row and the value row in their places, and at
the block's end its sketch, and no other byte; a rank that does not hold the block discards it. One that leaves the
facet's slices or breaks its form is refused, and the step in flight is void. R158, R165, R190, R208: the home of a
ring record sends it with its step's STEP, POS and EMPTY and its own partial, and keeps it once it has come round,
and every other member merges its partial and passes it on; a member that receives its own digest may start, and one
with another does not; a RESTART of the step in flight voids it. -/
def Obligations.AppendsAndGroupMessagesReachTheirMember : Prop :=
  (∀ (f : Fin 64) (d : Bytes) (s : State),
      let g := (s.kcs f.val).ring
      let pos := leAt d 16 4
      let row := dhOf (byteAt d 25) * elemBytes (byteAt d 24)
      let blk := blkBytes (byteAt d 24) (byteAt d 25)
      let i := localOf g.1 g.2.2 (pos / 128)
      let k := leAt d 0 8 + i * 2 * blk + pos % 128 * row
      let sk := leAt d 8 8 + 16 * i
      let step := ceilDiv row 64 * 64
      let inside := s.inSlices f.val k row = true ∧ s.inSlices f.val (k + blk) row = true ∧
        (byteAt d 26 = 1 → s.inSlices f.val sk 16 = true)
      let u := (s.writeMem k (sub d 64 row)).writeMem (k + blk) (sub d (64 + step) row)
      s.facetBound f.val = true →
      (appendForm d = true → inside → rankOf g.1 g.2.2 (pos / 128) ≠ g.2.1 →
        ∃ t, exec (.appendCommand f d) s = .next t ∧ OnlyRegs (fun _ => False) s t) ∧
      (appendForm d = true → inside → rankOf g.1 g.2.2 (pos / 128) = g.2.1 → (∀ a n, s.areaLocked a n = false) →
        ∃ t, exec (.appendCommand f d) s = .next t ∧
          (∀ a, t.memByte a =
            (if pos % 128 = 127 ∧ byteAt d 26 = 1 then u.writeMem sk (sub d (64 + 2 * step) 16) else u).memByte a) ∧
          t = { s with mem := t.mem, regs := t.regs, out := t.out } ∧ RegsBut (fun _ => False) s t) ∧
      (appendForm d = false ∨ ¬inside →
        ∃ t, exec (.appendCommand f d) s = .next t ∧ bit (t.reg Reg.LPE_EVT) 2 = true ∧ t.mem = s.mem ∧
          ((s.facet f.val).inStep = true → (t.facet f.val).void = true))) ∧
  (∀ (p : Packet) (f : Fin 64) (g : GroupRec) (record : Bytes) (part : List HeadPartial) (s : State),
      let x := s.facet f.val
      let home := leAt record 12 2 = g.rank
      let passed (b : Bytes) (t : State) : Prop :=
        t = State.messages s (s.sendRecord f.val g.next b) ∧ t.mem = s.mem ∧ t.facets = s.facets
      let here : Prop := s.routeLocal p.dst.toNat = true ∧ s.epFacet (s.routeEp p.dst.toNat) = some f.val ∧
        p.jobTag.toNat = s.jobTag f.val ∧ wellFormedOp p = true ∧ p.op = 7 ∧ timeForm p.payload = true
      s.facetBound f.val = true → (s.kcs f.val).group = some g →
      (home → 1 < g.g → leAt record 14 2 = 0 →
        ∃ t, exec (.ringRecord f record part) s = .next t ∧ passed (openRecord (s.stampRecord f.val record) part) t) ∧
      (home → leAt record 14 2 ≠ 0 →
        ∃ t, exec (.ringRecord f record part) s = .next t ∧ OnlyRegs (fun _ => False) s t) ∧
      (¬home → 1 < g.g → ∃ t, exec (.ringRecord f record part) s = .next t ∧ passed (mergeRecord record part) t) ∧
      (here → byteAt p.payload 0 = 8 →
        ∃ t, exec (.digest p) s = .next t ∧
          t.facet f.val = (if sub p.payload 32 8 = g.digest then { x with digestSeen := true }
            else { x with mismatch := true }) ∧
          (sub p.payload 32 8 ≠ g.digest → bit (t.reg Reg.LPE_EVT) 8 = true) ∧ t.mem = s.mem ∧ t.cells = s.cells) ∧
      (here → byteAt p.payload 0 = 7 → x.inStep = true → x.void = false → x.step = leAt p.payload 4 4 →
        ∃ t, exec (.timeRestart p) s = .next t ∧ (t.facet f.val).void = true ∧ (t.facet f.val).joined = true ∧
          (∀ h, h ≠ f.val → t.facet h = s.facet h) ∧ t.mem = s.mem))

/-- R180, R181: a bank that measures at least 4.5 effective bits is READY, else BELOW. A full calibration puts its
corrections in force at once, and those of a READY bank join its record, which is stored unless the supply's inhibit
makes it wait; a trim update leaves its trims waiting, and they apply in the first gap after the next frame
boundary. R170, R183, R185, R189: a bank that is not OFF enters FAULT, and stays out of service; between its jobs
the lowest spare READY bank takes the facet's index of a bank that is BELOW or in FAULT, and the jobs that wait; the
banks of a quadrant keep SLEW from its start to its end. -/
def Obligations.BankCalibrationAndFaultsSetTheBankState : Prop :=
  (∀ (bank : Fin 32) (enob : BitVec 8) (lanes : List LaneCal) (d : TrimNew) (s : State),
      let b := bank.val
      let x := s.bank b
      let st := if 72 ≤ enob.toNat then 2 else 3
      (s.bankStateOf b ≠ 4 → s.bankStateOf b ≠ 5 → x.heldUntil ≤ s.dt → x.waiting = [] →
        ∃ t, exec (.fullCalibration bank ⟨enob, lanes⟩) s = .next t ∧ t.bankStateOf b = st ∧
          fld (t.reg (Reg.BANK_ENOB b)) 15 8 = enob.toNat ∧ fld (t.reg (Reg.BANK_CAL b)) 15 8 = s.bankTemp b ∧
          (t.bank b).calFrame = some s.devFrame ∧ (t.bank b).trimDue = none ∧ (t.bank b).trims = lanes ∧
          (t.bank b).points =
            (if st = 2 then replacePoint x.points (State.nearestPoint (s.quadMilli b)) lanes else x.points) ∧
          (st = 2 → s.inhibited = false → (t.bank b).stored = (t.bank b).points) ∧
          (st = 2 → s.inhibited = true → (t.bank b).storeDue = true ∧ (t.bank b).stored = x.stored) ∧
          (∀ k, k ≠ b → t.bank k = s.bank k) ∧ t.mem = s.mem) ∧
      (s.bankStateOf b = 2 ∨ s.bankStateOf b = 3 →
        ∃ t, exec (.trimUpdate bank ⟨enob, lanes⟩) s = .next t ∧ t.bankStateOf b = st ∧
          fld (t.reg (Reg.BANK_ENOB b)) 15 8 = enob.toNat ∧
          (t.bank b).trimDue = some ⟨s.bankTemp b, s.devFrame, lanes⟩ ∧ (t.bank b).trims = x.trims ∧
          fld (t.reg (Reg.BANK_CAL b)) 0 0 = 1 ∧ t.mem = s.mem) ∧
      (x.trimDue = some d → x.heldUntil ≤ s.dt → d.frame < s.devFrame → d.temp < 256 →
        ∃ t, exec (.trimApply bank) s = .next t ∧
          t.bank b = { x with trimDue := none, calFrame := some d.frame, trims := retrim x.trims d.lanes } ∧
          fld (t.reg (Reg.BANK_CAL b)) 15 8 = d.temp ∧ fld (t.reg (Reg.BANK_CAL b)) 0 0 = 0 ∧
          t = { s with banks := t.banks, regs := t.regs, out := t.out } ∧
          RegsBut (fun a => a = Reg.BANK_CAL b) s t)) ∧
  (∀ (bank : Fin 32) (q : Fin 4) (c : Nat) (rest : List Nat) (s : State),
      let b := bank.val
      (s.bankStateOf b ≠ 5 → ∃ t, exec (.bankFault bank) s = .next t ∧ t.bankStateOf b = 4 ∧
        t.bank b = { s.bank b with failed := true } ∧ (∀ k, k ≠ b → t.bank k = s.bank k) ∧
        bit (t.reg Reg.LPE_EVT) 6 = true ∧ t = { s with banks := t.banks, regs := t.regs, out := t.out } ∧
        RegsBut (fun a => a = Reg.BANK_STAT b ∨ a = Reg.LPE_EVT ∨ a = Reg.LPE_FIRST) s t) ∧
      (s.bankBound b = true → s.bankStateOf b = 3 ∨ s.bankStateOf b = 4 → s.bankIdle b = true →
        s.spareBanks = c :: rest →
        ∃ t, exec (.subst bank) s = .next t ∧ t.bankBound c = true ∧ t.bankFacet c = s.bankFacet b ∧
          fld (t.reg (Reg.BANK_STAT c)) 4 0 = fld (s.reg (Reg.BANK_STAT b)) 4 0 ∧ t.bankBound b = false ∧
          t.bankStateOf b = (if s.bankStateOf b = 3 then 1 else 4) ∧ (t.bank b).waiting = [] ∧
          (s.bankFree c = false → (t.bank c).waiting = (s.bank b).waiting) ∧ bit (t.reg Reg.LPE_EVT) 7 = true ∧
          t.mem = s.mem) ∧
      (∃ t, exec (.slew q) s = .next t ∧ bit (t.reg Reg.LPE_EVT) 5 = true ∧
        (∀ k, (t.bank k).slew = (if k / 8 = q.val then true else (s.bank k).slew)) ∧
        t = { s with banks := t.banks, regs := t.regs, out := t.out }) ∧
      ∃ t, exec (.slewClear q) s = .next t ∧
        (∀ k, (t.bank k).slew = (if k / 8 = q.val then false else (s.bank k).slew)) ∧
        t = { s with banks := t.banks, regs := t.regs, out := t.out } ∧ RegsBut (fun _ => False) s t)

/-- R246, R247, R248, R251, R253, R254: each command of the loader, given in a state that allows it while the loader
is not busy, puts its facet where the manual says; in another state it is refused with STATE; while the loader is busy it
is dropped and counted. -/
def Obligations.LoaderCommandsMoveTheirFacet : Prop :=
  ∀ (f : Fin 64) (at_ : Bool) (s : State),
    let x := s.facet f.val
    let st := s.facetState f.val
    let a := Reg.FACET_STAT f.val
    let drain := (s.kcs f.val).table.drain
    let when_ := if at_ then some (s.reg Reg.CFG_AT).toNat else none
    let result := fun z => z = Reg.CFG_RESULT ∨ z = Reg.CFG_RESULT_AT ∨ z = Reg.CFG_EVT
    let wrong (c : Instr) : Prop := ∃ t, exec c s = .next t ∧ Refused f.val ⟨0x1F, 0xFF, 0, false⟩ t ∧
      OnlyFacet f.val result s t ∧ t.facet f.val = { x with commit := none }
    (bit (s.reg Reg.CFG_STAT) 31 = true →
      ∀ c ∈ [Instr.stage f 0#2, .stage f 1#2, .stage f 2#2, .stage f 3#2, .commit f at_, .commitAll at_, .start f, .hold f,
          .unbind f, .forceUnbind f, .discard f],
        ∃ t, exec c s = .next t ∧ fld (t.reg Reg.CFG_STAT) 7 0 = min 255 (s.rf Reg.CFG_STAT 7 0 + 1) ∧
          OnlyRegs (fun z => z = Reg.CFG_STAT) s t) ∧
    (bit (s.reg Reg.CFG_STAT) 31 = false → x.commit = none →
      (x.staged = none ∨ s.atPast f.val at_ = true → wrong (.commit f at_)) ∧ (st ≠ 2 → wrong (.start f)) ∧
      (st ≠ 3 → wrong (.hold f)) ∧ (st = 0 ∨ st = 1 ∨ st = 4 → wrong (.unbind f)) ∧ (st = 0 → wrong (.forceUnbind f))) ∧
    (bit (s.reg Reg.CFG_STAT) 31 = false → st = 0 → wrong (.unbind f) ∧ wrong (.forceUnbind f)) ∧
    (bit (s.reg Reg.CFG_STAT) 31 = false →
    (∀ src : BitVec 2, src ≠ 3#2 → ∃ t, exec (.stage f src) s = .next t ∧
      t.loader = { s.loader with
        busy := some (1, f.val), source := src.toNat, len := (s.reg Reg.CFG_LEN).toNat
        addr := (s.reg Reg.CFG_SRC_LO).toNat + (s.reg Reg.CFG_SRC_HI).toNat * 2 ^ 32 } ∧
      t.facet f.val = { x with staged := none } ∧ fld (t.reg a) 28 27 = 1 ∧ t.facetState f.val = st ∧
      bit (t.reg Reg.CFG_STAT) 31 = true ∧ t.rf Reg.CFG_STAT 27 24 = 1 ∧ t.rf Reg.CFG_STAT 21 16 = f.val ∧
      OnlyFacet f.val (fun z => z = a ∨ z = Reg.CFG_STAT) s t) ∧
    (∃ t, exec (.stage f 3#2) s = .next t ∧ t.facet f.val = { x with staged := none } ∧ fld (t.reg a) 28 27 = 3 ∧
      t.facetState f.val = st ∧ Refused f.val ⟨0x08, 0xFF, 0, false⟩ t ∧
      OnlyFacet f.val (fun z => z = a ∨ z = Reg.CFG_RESULT ∨ z = Reg.CFG_RESULT_AT ∨ z = Reg.CFG_EVT) s t) ∧
    (x.staged.isSome = true → s.atPast f.val at_ = false → ∃ t, exec (.commit f at_) s = .next t ∧
      let run := st == 3 || s.wasRunning f.val
      t.facet f.val = { x with commit := some ⟨0, when_, false, run, false, false, none⟩, drainLeft := drain } ∧
      t.facetState f.val = (if run && !at_ then 4 else st) ∧ OnlyFacet f.val (fun z => z = a) s t) ∧
    (x.staged.isSome = true → (∀ g, g < 64 → (s.facet g).staged.isSome = true → s.atPast g at_ = false) →
      ∃ t, exec (.commitAll at_) s = .next t ∧
      (∀ g, g < 64 → (s.facet g).staged.isSome = true →
        (t.facet g).commit = some ⟨0, when_, true, s.facetState g == 3 || s.wasRunning g, false, false, none⟩) ∧
      (∀ g, (s.facet g).staged.isSome = false → t.facet g = s.facet g) ∧ t.mem = s.mem) ∧
    (st = 2 → ∃ t, exec (.start f) s = .next t ∧ t.facet f.val = { x with startDue := true, autoStart := false } ∧
      OnlyFacet f.val (fun _ => False) s t) ∧
    (st = 3 → ∃ t, exec (.hold f) s = .next t ∧ t.facet f.val = { x with drain := 1, drainLeft := drain } ∧
      t.facetState f.val = 4 ∧ OnlyFacet f.val (fun z => z = a) s t) ∧
    (st = 2 ∨ st = 3 ∨ st = 5 ∨ (st = 4 ∧ x.commit.isSome = true) → ∃ t, exec (.unbind f) s = .next t ∧
      t.facet f.val = { x with commit := none, drain := 2, drainLeft := drain, startDue := false } ∧
      t.facetState f.val = 4 ∧ OnlyFacet f.val (fun z => z = a) s t) ∧
    (st ≠ 0 → ∃ t, exec (.forceUnbind f) s = .next t ∧
      t.facet f.val = { x with drain := 2, forced := true, inStep := false, void := false, startDue := false,
                               commit := none, load := none } ∧
      t.facetState f.val = 4 ∧ (∀ g, g ≠ f.val → t.facet g = s.facet g) ∧
      (∀ c : CellId, c.region.val ∈ x.kcs.table.regions → (t.cell (s.cellKey c)).mode = .faulted) ∧
      t.mem = s.mem) ∧
    (x.commit = none → ∃ t, exec (.discard f) s = .next t ∧ t.facet f.val = { x with staged := none } ∧
      fld (t.reg a) 28 27 = 0 ∧ t.facetState f.val = st ∧ OnlyFacet f.val (fun z => z = a) s t) ∧
    (x.commit.isSome = true → ∃ t, exec (.discard f) s = .next t ∧
      t.facet f.val = { x with staged := none, commit := none } ∧ fld (t.reg a) 28 27 = 0 ∧
      Refused f.val ⟨0x1F, 0xFF, 0, false⟩ t ∧
      OnlyFacet f.val (fun z => z = a ∨ z = Reg.CFG_RESULT ∨ z = Reg.CFG_RESULT_AT ∨ z = Reg.CFG_EVT) s t))

/-- R247, R249, R251, R253, R254, R255, R256: how a stage, a commit, a load and an unbind end. A stream that passes
every check is staged with its repair record; a commit with every resource free and no check failed binds its stream,
and the facet is LOADING until its load ends, then HELD, or STOPPED where the load cannot end; a facet of a COMMIT_ALL
is held until the others are; a commit that fails a check, or whose frames are used up, is refused and the facet
keeps its binding; an unbind unbinds the facet at its boundary, and one whose frames are used up becomes forced. -/
def Obligations.StagesCommitsAndUnbindsEnd : Prop :=
  ∀ (f : Fin 64) (s : State),
    let x := s.facet f.val
    let st := s.facetState f.val
    let a := Reg.FACET_STAT f.val
    let shown := fun z => z = a ∨ z = Reg.CFG_RESULT ∨ z = Reg.CFG_RESULT_AT ∨ z = Reg.CFG_EVT
    (∀ (stream : Bytes) (sig : SigCheck),
      let k := parseKcs (stream.take s.loader.len)
      let record := State.recordBytes (s.repairRecord k.table.regions)
      let staged := { k with repair := State.recordParse record }
      s.loader.busy = some (1, f.val) → s.loader.source ≠ 2 →
      s.stageBad f.val (stream.take s.loader.len) sig = none → s.rf Reg.SEC_STAT 31 29 ≠ 3 → State.recordCrc record = true →
      ∃ t, exec (.staged stream true sig) s = .next t ∧
        t.facet f.val = { x with staged := some ⟨staged, s.loader.source, s.loader.addr, 0, record⟩ } ∧
        fld (t.reg a) 28 27 = 2 ∧ t.facetState f.val = st ∧ bit (t.reg Reg.CFG_EVT) 2 = true ∧
        t.loader.busy = none ∧ bit (t.reg Reg.CFG_STAT) 31 = false ∧
        OnlyFacet f.val (fun z => z = a ∨ z = Reg.CFG_STAT ∨ z = Reg.CFG_EVT) s t) ∧
    (∀ (stream : Bytes) (readOk : Bool) (sig : SigCheck) (b : Check), s.loader.busy = some (1, f.val) → s.loader.source ≠ 2 →
      (readOk = false ∧ b = ⟨0x20, 0xFF, 0, false⟩ ∨
        readOk = true ∧ s.stageBad f.val (stream.take s.loader.len) sig = some b) →
      ∃ t, exec (.staged stream readOk sig) s = .next t ∧ t.facet f.val = { x with staged := none } ∧
        fld (t.reg a) 28 27 = 3 ∧ t.facetState f.val = st ∧ Refused f.val b t ∧ t.loader.busy = none ∧
        (b.code = 4 ∨ b.code = 5 → bit (t.reg Reg.SEC_EVT) 5 = true) ∧
        OnlyFacet f.val (fun z => shown z ∨ z = Reg.CFG_STAT ∨ z = Reg.SEC_EVT) s t) ∧
    (∀ (y : Staged) (c : CommitWait) (again : Reread),
      let k := y.kcs
      let v := s.atBoundary f.val
      let u := if c.released then v else v.releaseFor f.val k
      let own := [(f.val, k)]
      x.load = none → x.staged = some y → x.commit = some c → x.drain ≠ 2 → s.commitDue f.val = true →
      s.readAgain y again = none →
      (c.all = false → (c.released = true ∨ (v.commitBad f.val y own v.unbinding = none ∧
          v.banksBusy f.val k.table = false)) → v.switchWaits k = false →
        firstBad (u.unusable k) = none → u.resourceHeld (u.boundExcept [f.val] ++ u.lowerClaims f.val) k = false →
        u.unbindWaits f.val y own = false → u.commitBad f.val y own [] = none → k.table.jobTag < 2 ^ 24 →
        ∃ t, exec (.commitBoundary f again) s = .next t ∧ t.facetState f.val = 1 ∧ (t.facet f.val).kcs = k ∧
          (t.facet f.val).step = (if k.retain then x.step else 0) ∧ (t.facet f.val).firstFrame = true ∧
          ((t.facet f.val).load.map (·.running)) = some c.running ∧ (t.facet f.val).commit = none ∧
          (t.facet f.val).staged = none) ∧
      (∀ b : Check, c.all = false → c.released = false → v.commitBad f.val y own v.unbinding = some b →
        ∃ t, exec (.commitBoundary f again) s = .next t ∧ t.facet f.val = { x with commit := none } ∧
          Refused f.val b t ∧ t.facetState f.val = (if c.running = true ∧ st = 4 then 3 else st) ∧
          OnlyFacet f.val shown s t) ∧
      (c.all = true → (∃ g, g ≠ f.val ∧ g < 64 ∧ ∃ d, (s.facet g).commit = some d ∧ d.all = true ∧ d.held = false) →
        ∃ t, exec (.commitBoundary f again) s = .next t ∧
          t.facet f.val = { x with
            commit := some { c with held := true, boundary := some (c.boundary.getD s.dt) } } ∧
          OnlyFacet f.val (fun _ => False) s t)) ∧
    (∀ (w : LoadWait) (again : Reread), x.load = some w →
      (if x.source = 2 then s.poisoned x.srcAddr (x.kcs.signed + 16640) = false else again ≠ .failed) →
      (firstBad (s.lostInLoad f.val x.kcs) = none → ∃ t, exec (.commitBoundary f again) s = .next t ∧
        t.facetState f.val = 2 ∧ t.facet f.val = { x with
          load := none, startDue := w.running, autoStart := w.running } ∧
        (∀ g, g ≠ f.val → t.facet g = s.facet g) ∧ (w.all = false → bit (t.reg Reg.CFG_EVT) 0 = true)) ∧
      (∀ b : Check, firstBad (s.lostInLoad f.val x.kcs) = some b → ∃ t, exec (.commitBoundary f again) s = .next t ∧
        t.facetState f.val = 5 ∧ t.facet f.val = { x with load := none } ∧ Refused f.val b t ∧
        OnlyFacet f.val shown s t)) ∧
    (∀ c : CommitWait, x.commit = some c → c.running = true → c.at_ = none → x.inStep = true → x.drainLeft = 0 →
      ∃ t, exec (.drain f) s = .next t ∧ t.facet f.val = { x with commit := none } ∧
        Refused f.val ⟨0x21, 0xFF, 0, false⟩ t ∧ t.facetState f.val = (if st = 4 then 3 else st) ∧
        (c.all = false → OnlyFacet f.val shown s t) ∧
        (c.all = true → ∀ g, g < 64 → t.facet g = (if g ∈ s.allWaiting then { s.facet g with commit := none } else s.facet g))) ∧
    (∀ (y : Staged) (c : CommitWait) (b : Check), x.commit = some c → x.staged = some y → c.all = false →
      s.commitDue f.val = true → s.rf Reg.CFG_WAIT 15 0 ≤ c.frames → 0 < c.frames →
      firstBad (s.heldChecks (s.boundExcept [f.val] ++ s.lowerClaims f.val) y.kcs) = some b →
      ∃ t, exec (.busy f) s = .next t ∧ t.facet f.val = { x with commit := none } ∧ b.code = 0x0B ∧
        Refused f.val b t ∧ OnlyFacet f.val shown s t) ∧
    (x.drain = 2 → (x.forced = true ∨ (x.inStep = false ∧ (s.banksOf f.val).all s.bankIdle = true)) →
      ∃ t, exec (.unbindBoundary f) s = .next t ∧ t.facetState f.val = 0 ∧ t.reg (Reg.FACET_ID f.val) = 0 ∧
        t.reg (Reg.GRP_CFG f.val) = 0 ∧ (t.facet f.val).kcs = Kcs.empty ∧ (t.facet f.val).inStep = false ∧
        bit (t.reg Reg.CFG_EVT) 3 = true) ∧
    (x.drain = 2 → x.forced = false → x.inStep = true → x.drainLeft = 0 →
      ∃ t, exec (.forced f) s = .next t ∧ (t.facet f.val).forced = true ∧ (t.facet f.val).inStep = false ∧
        t.facetState f.val = 4 ∧ bit (t.reg Reg.CFG_EVT) 4 = true ∧ t.mem = s.mem)

/-- R263, R265, R266, R267, R268, R275, R276, R277, R280: a beat of the Prism carries the flits of a grant that applies,
as far as the channels of both sites take them, and keeps what lacked channels as late; marked flits cross on what is
left. A replay counts on its group, and eight failures retrain it; what a failing lane carries moves to the first lane of
the pool, a spare or, at half width, a good lane of the other half, and with none left its direction of the group goes to
half width and then to zero; a swap that completes is stored, at once or after the inhibit. -/
def Obligations.GroupsReplaySpareAndNarrow : Prop :=
  ∀ (k : Fin 434) (out : Bool) (s : State),
    let a := Reg.VGRP k.val
    let x := s.groupDir k.val out
    (∀ flows : List PrismFlow, ∃ t, exec (.prismBeat flows) s = .next t ∧
      t = { s with regions := t.regions, prism := t.prism, regs := t.regs, out := t.out } ∧
      RegsBut (fun z => z = Reg.MSF_EVT ∨ z = Reg.PBL_EVT ∨ z = Reg.PBL_FIRST ∨
        ∃ f, f < 65 ∧ z = Reg.PRISM_LATE f) s t) ∧
    (∀ (fc : Option (Fin 64)) (src dst : BitVec 8) (m : Nat), 8 ≤ src.toNat → src ≠ 0x40#8 → src ≠ 0x41#8 → m ≤ 32 →
      let room := (State.siteOut s src.toNat - s.heldBack src.toNat true) * 32
      let room := min room ((State.siteIn s dst.toNat - s.heldBack dst.toNat false) * 32)
      ∃ t, exec (.prismBeat [⟨fc, src, dst, 0, 0, m, [], none⟩]) s = .next t ∧
        t = { s with prism := t.prism, out := s.out ++ (if min m room = 0 then [] else
          [.prism (fc.map (fun z => z.val)) src.toNat dst.toNat (min m room) []]) }) ∧
    (∀ (f : Fin 64) (src dst : BitVec 8) (due present : Nat) (g : GrantRec), 8 ≤ src.toNat → src ≠ 0x40#8 →
      src ≠ 0x41#8 → s.facetBound f.val = true → s.beatGrants = [(f.val, g)] → g.src = src.toNat → g.dst = dst.toNat →
      s.prism.owed = [] →
      let room := (State.siteOut s src.toNat - s.heldBack src.toNat true) * 32
      let room := min room ((State.siteIn s dst.toNat - s.heldBack dst.toNat false) * 32)
      let n := min due (min (32 * g.channels) present)
      let more := (s.kcs f.val).grants.any (fun h => h.src == src.toNat && h.dst == dst.toNat && s.grantAt f.val h 1)
      let kept : Owed := ⟨f.val, src.toNat, dst.toNat, if more then due - n else 0,
        n - min n room + (if more then 0 else due - n)⟩
      ∃ t, exec (.prismBeat [⟨some f, src, dst, due, present, 0, [], none⟩]) s = .next t ∧
        t.prism.owed = (if kept.due + kept.late = 0 then [] else [kept]) ∧
        t = { s with prism := t.prism, out := s.out ++ (if min n room = 0 then [] else
          [.prism (some f.val) src.toNat dst.toNat (min n room) []]) }) ∧
    (∀ (n : Fin 9) (r : Bool), n.val < 8 ∨ r = true →
      ∃ t, exec (.groupReplay k out n r) s = .next t ∧
        fld (t.reg a) 23 16 = min 255 (s.rf a 23 16 + min 8 (n.val + 1)) ∧
        (n.val = 8 → bit (t.reg Reg.PBL_EVT) 3 = true) ∧
        OnlyRegs (fun z => z = a ∨ (n.val = 8 ∧ (z = Reg.PBL_EVT ∨ z = Reg.PBL_FIRST))) s t) ∧
    (∀ lane : Byte, x.map.bad.contains lane.toNat = false → s.groupWidth k.val out ≠ 2 →
      lane.toNat < groupData k.val + groupSpares k.val → (∀ y ∈ x.swapping, y.beat ≠ s.beat) →
      let d := groupData k.val
      let n := groupSpares k.val
      let m := { x.map with bad := x.map.bad ++ [lane.toNat] }
      let shown (t : State) : Prop := k.val < 418 →
        fld (t.reg a) 15 12 = ((t.groupDir k.val true).map.spares d n).length ∧
        fld (t.reg a) 11 8 = ((t.groupDir k.val false).map.spares d n).length ∧
        fld (t.reg a) 7 0 =
          min 255 ((t.groupDir k.val true).map.bad.length + (t.groupDir k.val false).map.bad.length)
      (x.map.carriedBy d lane.toNat = none → s.inhibited = false →
        ∃ t, exec (.laneFailing k out lane) s = .next t ∧ t.groupDir k.val out = { x with map := m }.store ∧ shown t ∧
          t = { s with groups := t.groups, nv := t.nv, regs := t.regs, out := t.out } ∧ RegsBut (fun z => z = a) s t) ∧
      (∀ (p l : Nat) (r : List Nat), x.map.carriedBy d lane.toNat = some p → m.pool d n = l :: r →
        ∃ t, exec (.laneFailing k out lane) s = .next t ∧
          t.groupDir k.val out = { x with
            map := m.put p l, swapping := ⟨p, lane.toNat, s.beat⟩ :: x.swapping.filter (fun y => y.pos != p) } ∧
          (t.groupDir k.val out).map.carrier p = l ∧ shown t ∧ t.groupWidth k.val out = s.groupWidth k.val out ∧
          t = { s with groups := t.groups, regs := t.regs, out := t.out } ∧ RegsBut (fun z => z = a) s t) ∧
      ((x.map.carriedBy d lane.toNat).isSome = true → m.pool d n = [] → x.map.half = false →
        (418 ≤ k.val → bit (s.reg (Reg.GCAP ((k.val - 418) / 8) 3)) 4 = true) →
        ∃ t, exec (.laneFailing k out lane) s = .next t ∧ t.groupWidth k.val out = 1 ∧
          (t.groupDir k.val out).map.half = true ∧ (t.groupDir k.val out).swapping = [] ∧
          bit (t.reg Reg.PBL_EVT) 1 = true ∧
          (k.val < 418 → bit (t.reg (Reg.SITE_CH (groupSite k.val))) 31 = true ∧
            (if out then t.siteOut (groupSite k.val) = s.siteOut (groupSite k.val) - groupHalf k.val
             else t.siteIn (groupSite k.val) = s.siteIn (groupSite k.val) - groupHalf k.val)) ∧
          t = { s with groups := t.groups, guests := t.guests, nv := t.nv, nvDue := t.nvDue, regs := t.regs,
                       out := t.out }) ∧
      ((x.map.carriedBy d lane.toNat).isSome = true → m.pool d n = [] → x.map.half = true → k.val < 256 →
        ∃ t, exec (.laneFailing k out lane) s = .next t ∧ t.groupWidth k.val out = 2 ∧
          bit (t.reg Reg.PBL_EVT) 2 = true ∧ (∀ z, t.memByte z = s.memByte z))) ∧
    ∀ (l : LaneSwap) (r : List LaneSwap), x.swapping = l :: r →
      (s.inhibited = false → ∃ t, exec (.laneSpared k out) s = .next t ∧
        t.groupDir k.val out = { x with swapping := r }.store ∧
        t.groupDir k.val (!out) = (s.groupDir k.val (!out)).store ∧
        bit (t.reg Reg.PBL_EVT) 0 = true ∧ tget (resetValue a &&& nvMask a) t.nv a = s.reg a &&& nvMask a ∧
        t = { s with groups := t.groups, nv := t.nv, regs := t.regs, out := t.out } ∧
        RegsBut (fun z => z = Reg.PBL_EVT ∨ z = Reg.PBL_FIRST) s t) ∧
      (s.inhibited = true → ∃ t, exec (.laneSpared k out) s = .next t ∧ t.groupDir k.val out = { x with swapping := r } ∧
        bit (t.reg Reg.PBL_EVT) 0 = true ∧ bit (t.reg Reg.PBL_EVT) 9 = true ∧ t.nvDue = insertNat a s.nvDue ∧
        t = { s with groups := t.groups, nvDue := t.nvDue, regs := t.regs, out := t.out } ∧
        RegsBut (fun z => z = Reg.PBL_EVT ∨ z = Reg.PBL_FIRST) s t)

/-- R273, R281, R282, R283, R284, R285, R290: a rail fault takes its domain down; a guest that trains and shows good words
is offered its channels, and on accepting them is ACTIVE; one that does not train, or shows words out of range, is in
FAULT; a fault, or a link drop that one retrain does not mend, closes the site; a site reset that no facet shuts out
begins the site again. -/
def Obligations.RailsAndGuestSitesChangeState : Prop :=
  ∀ (g : Fin 2) (s : State),
    let a := Reg.GST_STAT g.val
    let ctl := Reg.GST_CTL g.val
    let ch := Reg.SITE_CH (0x40 + g.val)
    let id := Reg.DIE_ID (38 + g.val)
    let x := s.guest g.val
    (∀ d : Fin 24, s.domOn d.val = true → ∃ t, exec (.railFault d) s = .next t ∧ t.domOn d.val = false ∧
      fld (t.reg (Reg.DOM_STAT d.val)) 30 30 = 1 ∧ bit (t.reg (Reg.RAIL d.val)) 30 = true ∧
      bit (t.reg Reg.PBL_EVT) 5 = true ∧
      (∀ z, t.memByte z = s.memByte z)) ∧
    (∀ b : GuestBringUp,
      let w (i : Nat) : Word := b.words.getD i 0
      let slow := b.slow || bit (s.reg ctl) 0
      let widths := (List.range (fld (w 3) 3 0)).map (fun m =>
        let y := ((b.widths[m]?).map (fun (z : Fin 3) => z.val)).getD 2
        if y = 1 ∧ !bit (w 3) 4 then 2 else y)
      let channels := sumNat (widths.map (fun y => if y = 0 then 16 else if y = 1 then 8 else 0))
      let avail := channels / (if slow then 2 else 1)
      let modules := (widths.zipIdx.filter (fun e => e.1 != 2)).map (·.2)
      let cin := min (fld (w 4) 31 24) avail
      let cout := min (fld (w 4) 15 8) avail
      bit (s.reg ctl) 31 = true → s.domOn (State.guestDomain g.val) = true → s.rf a 31 29 < 3 →
      (b.trained = false → ∃ t, exec (.guestBringUp g b) s = .next t ∧ fld (t.reg a) 31 29 = 5 ∧
        fld (t.reg a) 10 8 = 1 ∧ t.reg ch = 0 ∧ bit (t.reg Reg.PBL_EVT) 8 = true) ∧
      (b.trained = true → (slow = true → bit (w 3) 5 = true) →
        (guestWordsOk b.words = false → ∃ t, exec (.guestBringUp g b) s = .next t ∧ fld (t.reg a) 31 29 = 5 ∧
          fld (t.reg a) 10 8 = 2 ∧ t.reg ch = 0 ∧ bit (t.reg Reg.PBL_EVT) 8 = true) ∧
        (guestWordsOk b.words = true → fld (w 4) 23 16 ≤ avail → fld (w 4) 7 0 ≤ avail →
          let power := min (fld (w 2) 15 0) 400
          ∃ t, exec (.guestBringUp g b) s = .next t ∧
            t.guest g.val = ⟨true, cin, cout, power, fld (w 5) 3 0, true, true, fld (w 2) 31 16⟩ ∧
            Output.offer g.val cin cout power (fld (w 2) 31 16) modules slow ∈ t.out ∧
            fld (t.reg a) 31 29 = 3 ∧ fld (t.reg a) 15 12 = modules.length ∧ bit (t.reg a) 11 = slow ∧
            fld (t.reg a) 23 16 = min cin cout ∧ t.reg ch = 0 ∧
            (∀ m y, widths[m]? = some y → ∀ dir, t.groupWidth (418 + 8 * g.val + m) dir = y) ∧
            t.reg id = BitVec.ofNat 32 (6 * 2 ^ 28 + fld (w 1) 15 8 * 2 ^ 16 + fld (w 1) 7 0 * 2 ^ 8 + g.val) ∧
            (∀ i, i < 16 → t.reg (Reg.GCAP g.val i) = w i) ∧
            t = { s with guests := t.guests, groups := t.groups, nv := t.nv, nvDue := t.nvDue, regs := t.regs,
                         out := t.out } ∧
            RegsBut (fun z => z = a ∨ z = ch ∨ z = id ∨ (∃ i, i < 16 ∧ z = Reg.GCAP g.val i) ∨
              (∃ m, m < 8 ∧ z = Reg.VGRP (418 + 8 * g.val + m)) ∨ z = Reg.PBL_STAT ∨ z = Reg.PBL_EVT ∨
              z = Reg.PBL_FIRST) s t))) ∧
    (s.rf a 31 29 = 3 → ∃ t, exec (.guestUp g) s = .next t ∧ fld (t.reg a) 31 29 = 4 ∧
      t.reg ch = BitVec.ofNat 32 (b2n (s.reduced (0x40 + g.val)) * 2 ^ 31 + x.chIn * 2 ^ 16 + x.chOut) ∧ bit (t.reg Reg.PBL_EVT) 7 = true ∧
      OnlyRegs (fun z => z = a ∨ z = ch ∨ z = ctl ∨ z = Reg.PBL_EVT ∨ z = Reg.PBL_FIRST) s t) ∧
    (s.guestLive g.val = true →
      (∀ c : BitVec 3, c ≠ 0#3 → c ≠ 7#3 → ∃ t, exec (.guestFault g c) s = .next t ∧ fld (t.reg a) 31 29 = 5 ∧
        fld (t.reg a) 10 8 = c.toNat ∧ t.reg ch = 0 ∧ (t.guest g.val).linkUp = false ∧ (t.guest g.val).viog = false ∧
        (t.guest g.val).vddg = 0 ∧
        bit (t.reg Reg.PBL_EVT) 8 = true) ∧
      (∃ t, exec (.guestLinkDrop g true) s = .next t ∧ OnlyRegs (fun _ => False) s t) ∧
      ∃ t, exec (.guestLinkDrop g false) s = .next t ∧ fld (t.reg a) 31 29 = 5 ∧ fld (t.reg a) 10 8 = 6 ∧
        t.reg ch = 0 ∧ bit (t.reg Reg.PBL_EVT) 8 = true) ∧
    (s.guestFacet g.val = none → ∃ t, exec (.guestSiteReset g) s = .next t ∧
      fld (t.reg a) 31 29 = (if x.present then 1 else 0) ∧ fld (t.reg a) 10 8 = 0 ∧ fld (t.reg a) 15 12 = 0 ∧
      t.reg ch = 0 ∧
      t.guest g.val = { x with linkUp := false, chIn := 0, chOut := 0, viog := false, vddg := 0 } ∧
      bit (t.reg ctl) 30 = (bit (s.reg ctl) 31 && x.present) ∧
      t = { s with guests := t.guests, regs := t.regs, out := t.out } ∧
      RegsBut (fun z => z = a ∨ z = ch ∨ z = ctl) s t) ∧
    ((s.guestFacet g.val).isSome = true → ∃ t, exec (.guestSiteReset g) s = .next t ∧ bit (t.reg ctl) 30 = false ∧
      OnlyRegs (fun z => z = ctl) s t)

/-- R297, R298, R299, R302, R303, R342, R343: a port trains each direction to the lanes that its good lines give, of the
receive lines that have begun to equalise those that are DONE; a training block moves a tap, answers it and carries this
side's own request, and the first one begins EQUALISE at P1; a retrain takes the lines that are left, and totals that do not
balance fail the port's credits; a direction that goes down has no channels; an idle direction sleeps, and wakes to ACTIVE
where the receiver decodes and to TRAINING where it does not. -/
def Obligations.PortDirectionsTrainSleepAndFall : Prop :=
  ∀ (p : Fin 32) (tx : Bool) (s : State),
    let a := Reg.PORT_STAT p.val
    let ch := Reg.SITE_CH (0x60 + p.val)
    let f := fibreOfPort p.val
    let x := s.port p.val
    let begins := x.equalising.isNone
    let lineTrain := fun (j : Nat) => if begins then LineTrain.reset else tget LineTrain.reset x.training j
    (∀ y : PortTrain,
      let good := fun (d : Bool) (j : Nat) => if d then y.txGood.getLsbD j && !s.lineOut f j
        else y.rxGood.getLsbD j && ((lineTrain j).done || (lineTrain j).sent == 0)
      s.domOn (quadDomain (p.val / 8)) = true → NothingWaits s → (∀ d, laneCount (good d) ≠ 0) →
      ∃ t, exec (.portTraining p y) s = .next t ∧ (∀ d, t.dirState p.val d = 2) ∧
        fld (t.reg a) 28 28 = b2n (laneCount (good true) == 16) ∧ fld (t.reg a) 24 24 = b2n (laneCount (good false) == 16) ∧
        fld (t.reg ch) 25 16 = laneCount (good true) ∧ fld (t.reg ch) 9 0 = laneCount (good false) ∧
        (∀ d j, j < 36 → t.planeRoleAt p.val d j = lineRole (good d) j) ∧
        (begins = true → ∀ j, j < 35 →
          fld (t.reg (Reg.PLANE p.val j)) 7 4 = 2 ∧ fld (t.reg (Reg.PLANE p.val j)) 11 8 = 4) ∧
        t.port p.val = State.freshPort x.queue ∧
        (∀ q, q ≠ p.val → t.port q = s.port q) ∧ t = { s with ports := t.ports, regs := t.regs, out := t.out }) ∧
    (∀ b : BitVec 64,
      let j := nbits b.toNat 55 50
      let set := preset (nbits b.toNat 43 41)
      let c := Reg.PLANE p.val j
      let pre := if begins && decide (j < 35) then 2 else s.rf c 7 4
      let post := if begins && decide (j < 35) then 4 else s.rf c 11 8
      let pre' := (tapAfter (nbits b.toNat 47 46) pre 8 ((set.map (·.1)).getD pre)).1
      let post' := (tapAfter (nbits b.toNat 45 44) post 12 ((set.map (·.2)).getD post)).1
      s.dirState p.val true ≤ 1 → nbits b.toNat 63 56 = 0xB5 → j < 36 →
      (lineTrain j).ask < 128 → (lineTrain j).id < 64 →
      ∃ t, exec (.trainingBlock p b) s = .next t ∧ fld (t.reg c) 7 4 = pre' ∧ fld (t.reg c) 11 8 = post' ∧
        (∃ e : BitVec 64, t.out = s.out ++ [.training p.val e] ∧ nbits e.toNat 63 56 = 0xB5 ∧ nbits e.toNat 55 50 = j ∧
          nbits e.toNat 47 41 = (t.lineTrain p.val j).ask ∧ nbits e.toNat 40 40 = b2n (t.lineTrain p.val j).done ∧
          nbits e.toNat 29 24 = (t.lineTrain p.val j).id ∧ nbits e.toNat 23 18 = nbits b.toNat 29 24 ∧
          nbits e.toNat 39 36 = pre' ∧ nbits e.toNat 35 32 = post') ∧
        (begins = true → ∀ i, i < 35 → i ≠ j →
          fld (t.reg (Reg.PLANE p.val i)) 7 4 = 2 ∧ fld (t.reg (Reg.PLANE p.val i)) 11 8 = 4) ∧
        t.port p.val = { x with
          equalising := some (x.equalising.getD s.dt), training := (t.port p.val).training } ∧
        (∀ q, q ≠ p.val → t.port q = s.port q) ∧ t = { s with ports := t.ports, regs := t.regs, out := t.out } ∧
        RegsBut (fun z => z = c ∨ begins = true ∧ ∃ i, i < 35 ∧ z = Reg.PLANE p.val i) s t) ∧
    (∀ r : RetrainEnd,
      let g := fun (j : Nat) => r.good.getLsbD j && !(tx && s.lineOut f j)
      let balanced := (r.totals.take 10).zipIdx.all (fun e => tget 0 x.credit e.2 + e.1 == bufferSize e.2)
      s.dirState p.val tx ≠ 0 → NothingWaits s → laneCount g ≠ 0 → (tx = true → x.txBuf = [] ∧ x.sent = 0) →
      ((tx = true → balanced = true) → ∃ t, exec (.retrain p tx r) s = .next t ∧ t.dirState p.val tx = 2 ∧
        (∀ j, j < 36 → t.planeRoleAt p.val tx j = lineRole g j) ∧
        fld (t.reg a) 15 0 = min 65535 (s.rf a 15 0 + 1) ∧ bit (t.reg Reg.OPT_EVT) 8 = true ∧
        (tx = false → Output.totals p.val ((List.range 10).map (s.bufferTotal p.val)) ∈ t.out) ∧
        t.dirState p.val (!tx) = s.dirState p.val (!tx) ∧ t = { s with regs := t.regs, out := t.out }) ∧
      (tx = true → balanced = false → ∃ t, exec (.retrain p tx r) s = .next t ∧ (∀ d, t.dirState p.val d = 1) ∧
        t.port p.val = State.freshPort x.queue ∧ bit (t.reg Reg.FAB_EVT) 6 = true ∧
        (∀ q, q ≠ p.val → t.port q = s.port q))) ∧
    (s.dirState p.val tx ≠ 0 → NothingWaits s → x.queue = [] →
      ∃ t, exec (.portDown p tx) s = .next t ∧ t.dirState p.val tx = 0 ∧
        fld (t.reg ch) (if tx then 25 else 9) (if tx then 16 else 0) = 0 ∧ bit (t.reg Reg.OPT_EVT) 7 = true ∧
        t.port p.val = (if tx then { x with
          txBuf := [], txMoves := [], sent := 0, resend := false, resends := 0, equalising := none, training := []
          wakeIdle := 0 } else x) ∧
        (∀ q, q ≠ p.val → t.port q = s.port q) ∧ t = { s with ports := t.ports, regs := t.regs, out := t.out } ∧
        RegsBut (fun z => z = a ∨ z = ch ∨ z = Reg.OPT_EVT ∨ z = Reg.OPT_FIRST) s t) ∧
    (s.maySleep p.val = true → ∃ t, exec (.sleep p) s = .next t ∧ t.dirState p.val true = 3 ∧
      (∀ q, q ≠ p.val → t.port q = s.port q) ∧ (t.port p.val).txSeq = x.txSeq ∧
      t = { s with ports := t.ports, regs := t.regs, out := t.out } ∧ RegsBut (fun z => z = a) s t) ∧
    (s.dirState p.val tx = 3 → (tx = true → x.queue ≠ [] ∨ s.grantSoon p.val = true) →
      ∀ d : Bool, ∃ t, exec (.wake p tx d) s = .next t ∧
      t.dirState p.val tx = (if d then 2 else 1) ∧ t.dirState p.val (!tx) = s.dirState p.val (!tx) ∧
      t.port p.val = (if tx then { x with wakeIdle := 2 } else x) ∧ (∀ q, q ≠ p.val → t.port q = s.port q) ∧
      t = { s with ports := t.ports, regs := t.regs, out := t.out } ∧ RegsBut (fun z => z = a) s t)

/-- R294, R295, R296, R300, R301, R302: a link frame that arrives in order is accepted and its SEQ kept; one with an
uncorrectable codeword is counted and asks for a resend; 64 blocks with an invalid header force a retrain; a transmitter
sends the packet that waits in a new frame, which it keeps until it is acknowledged, sends it again when the peer asks
for it, and an IDLE frame when nothing waits; a sleeping direction sends its keeper. The frames received here carry no
packet, credit, margin or move, and acknowledge everything. -/
def Obligations.LinkFramesAreKeptInOrder : Prop :=
  ∀ (p : Fin 32) (fr : LinkFrame) (n m : Nat) (s : State),
    let x := s.port p.val
    let lanes := s.txLanes p.val
    let counted := fun z => z = Reg.PORT_CORR p.val ∨ z = Reg.PORT_UNCORR p.val ∨ ∃ j, j < 36 ∧ z = Reg.PLANE p.val j
    (s.dirState p.val false = 2 → NothingWaits s → fr.idle = false → fr.sleep = false →
      x.rxMove.any (fun v => State.moveDue v fr.seq.toNat) = false →
      fr.mvLane = 0x3F#6 → fr.credit = [] → fr.margin = [] → fr.packets = [] → x.txBuf = [] → x.txSeq < 4096 →
      fr.ack.toNat = (x.txSeq + 4095) % 4096 → fr.seq.toNat = (x.rxSeq + 1) % 4096 →
      (∀ b, b < 10 → tget 0 x.credit b ≤ bufferSize b) →
      ∃ t, exec (.linkFrame p fr ⟨0, n, 0, []⟩) s = .next t ∧
        t.port p.val = { x with rxSeq := fr.seq.toNat, nak := false, peaks := (t.port p.val).peaks } ∧
        fld (t.reg (Reg.PORT_CORR p.val)) 31 0 = min (2 ^ 32 - 1) (s.rf (Reg.PORT_CORR p.val) 31 0 + n) ∧
        (∀ q, q ≠ p.val → t.port q = s.port q) ∧ t = { s with ports := t.ports, regs := t.regs, out := t.out } ∧
        RegsBut counted s t) ∧
    (s.dirState p.val false = 2 ∨ s.dirState p.val false = 3 → 0 < m →
      ∃ t, exec (.linkFrame p fr ⟨0, n, m, []⟩) s = .next t ∧ t.port p.val = { x with nak := true, peaks := (t.port p.val).peaks } ∧
        fld (t.reg (Reg.PORT_UNCORR p.val)) 31 0 = min (2 ^ 32 - 1) (s.rf (Reg.PORT_UNCORR p.val) 31 0 + m) ∧
        (∀ q, q ≠ p.val → t.port q = s.port q) ∧ t = { s with ports := t.ports, regs := t.regs, out := t.out } ∧
        RegsBut counted s t) ∧
    (s.dirState p.val false = 2 ∨ s.dirState p.val false = 3 → 0 < m →
      64 ≤ sumNat ((x.headErrs.filter (fun e => s.dt < e.1 + 1800000)).map (·.2)) + m →
      ∃ t, exec (.linkFrame p fr ⟨m, n, 0, []⟩) s = .next t ∧ t.port p.val = { x with headErrs := [] } ∧
        t.dirState p.val false = 1 ∧ (∀ q, q ≠ p.val → t.port q = s.port q) ∧
        t = { s with ports := t.ports, regs := t.regs, out := t.out } ∧
        RegsBut (fun z => z = Reg.PORT_STAT p.val) s t) ∧
    (∀ q : Packet,
      let b := bufferOf q
      let y := { x with queue := [], credit := tset 0 x.credit b (tget 0 x.credit b - packetUnits q) }
      let h : TxFrame := ⟨s.frameOf p.val x false false [q], linkData x y [q] (640 * lanes)⟩
      let r := s.frameLines p.val lanes h
      s.dirState p.val true = 2 → NothingWaits s → x.wakeIdle = 0 → s.idleOnly p.val = false →
      x.txMoves.head?.any (fun v => State.moveDue v x.txSeq) = false →
      x.txBuf = [] → x.queue = [q] → x.sent = 0 → x.resend = false →
      packetUnits q ≤ creditFree x b → packetBytes q ≤ 640 * lanes →
      ∃ t, exec (.linkFrameSend p) s = .next t ∧
        t.port p.val = { payOwed y with
          txSeq := (x.txSeq + 1) % 4096, txBuf := [h], sentBeat := s.beat, scram := r.2
          clock := (x.clock + periodSymbols) % 4 } ∧
        (∀ k, k ≠ p.val → t.port k = s.port k) ∧ t = { s with ports := t.ports, out := s.out ++ [.frame p.val h.frame r.1] }) ∧
    (∀ (h : TxFrame) (l : List TxFrame),
      let again := { h with frame := { h.frame with ack := BitVec.ofNat 12 x.rxSeq, nak := x.nak } }
      let r := s.frameLines p.val lanes again
      s.dirState p.val true = 2 → x.wakeIdle = 0 → s.idleOnly p.val = false →
      x.txMoves.head?.any (fun v => State.moveDue v x.txSeq) = false → x.txBuf = h :: l → x.resend = true →
      ∃ t, exec (.linkFrameSend p) s = .next t ∧
        t.port p.val = { x with
          txSeq := (h.frame.seq.toNat + 1) % 4096, resends := x.resends + 1, resend := false, scram := r.2
          clock := (x.clock + periodSymbols) % 4 } ∧
        fld (t.reg (Reg.PORT_REPLAY p.val)) 31 0 = min (2 ^ 32 - 1) (s.rf (Reg.PORT_REPLAY p.val) 31 0 + 1) ∧
        (∀ k, k ≠ p.val → t.port k = s.port k) ∧
        t = { s with ports := t.ports, regs := t.regs, out := s.out ++ [.frame p.val again.frame r.1] } ∧
        RegsBut (fun z => z = Reg.PORT_REPLAY p.val) s t) ∧
    (s.dirState p.val true = 2 → x.txMoves.head?.any (fun v => State.moveDue v x.txSeq) = false →
      x.txBuf = [] → x.queue = [] → x.sent = 0 →
      let fr := s.frameOf p.val x true false []
      let r := s.frameLines p.val lanes ⟨fr, s.idleData p.val⟩
      ∃ t, exec (.linkFrameSend p) s = .next t ∧
        t.port p.val = { payOwed x with
          scram := r.2, clock := (x.clock + periodSymbols) % 4, wakeIdle := x.wakeIdle - 1 } ∧
        (∀ k, k ≠ p.val → t.port k = s.port k) ∧ t = { s with ports := t.ports, out := s.out ++ [.frame p.val fr r.1] }) ∧
    (s.dirState p.val true = 3 →
      let fr := s.frameOf p.val x true false []
      let r := s.frameLines p.val 1 ⟨fr, leBytes 40 (frameControl fr)⟩
      ∃ t, exec (.linkFrameSend p) s = .next t ∧
        t.port p.val = { payOwed x with scram := r.2, clock := (x.clock + periodSymbols) % 4 } ∧
        (∀ k, k ≠ p.val → t.port k = s.port k) ∧ t = { s with ports := t.ports, out := s.out ++ [.frame p.val fr r.1] })

/-- R260, R311 to R314, R316, R317: commissioning sets each line's laser and the module's state; a fade is shown, and
at 2 dB warms the cold spare; a retired line at 6 dB is dark; a spare that passes its check is ready, one that does not
waits, and one of a dark line brings it back as a spare line; a swap, in line order, puts the line on its spare and its rings
on the new heater offsets, and its channels are withheld for 8 beats; a module that is inserted comes into service, and its
removal and the loss of a quadrant show at once. -/
def Obligations.LasersAreCommissionedAndSpared : Prop :=
  ∀ (m : Fin 8) (fibre : Fin 128) (line : Fin 36) (s : State),
    let f := fibre.val
    let i := line.val
    let a := Reg.LINE f i
    let x := s.line (36 * f + i)
    let kept := s.opt.withheld.filter (fun h => s.beat < h.until_)
    (∀ l : LmLevels, bit (s.reg Reg.OPT_STAT) m.val = true →
      ∃ t, exec (.lmCmd m l) s = .next t ∧ fld (t.reg (Reg.LM_STAT m.val)) 31 29 = 2 ∧
        bit (t.reg Reg.LM_CMD) 31 = false ∧ tget none t.opt.serials m.val = some l.serial.toNat ∧
        (∀ n, n < 576 → t.laserOf (16 * m.val + n / 36) (n % 36) =
          if l.primary.getD n 0 < 800 ∧ 800 ≤ l.spare.getD n 0 then 2 else 0)) ∧
    (∀ v : Int, s.rf (Reg.LM_STAT (f / 16)) 31 29 = 2 → s.lineOut f i = false →
      (-100 < v - x.level → x.warned = false → ∃ t, exec (.fadeCheck fibre line v false) s = .next t ∧
        fld (t.reg a) 15 0 = ((v - x.level) % 65536).toNat ∧ OnlyRegs (fun z => z = a) s t) ∧
      (-70 < v - x.level → x.warned = true → ∃ t, exec (.fadeCheck fibre line v false) s = .next t ∧
        fld (t.reg a) 15 0 = ((v - x.level) % 65536).toNat ∧ t.line (36 * f + i) = { x with warned := false } ∧
        t = { s with lines := t.lines, regs := t.regs, out := t.out } ∧ RegsBut (fun z => z = a) s t) ∧
      (v - x.level ≤ -200 → -300 < v - x.level → s.laserOf f i = 0 → x.spareOk = true →
        (∀ p, portOfFibre f = some p → s.dirState p true ≠ 1) →
        ∃ t, exec (.fadeCheck fibre line v false) s = .next t ∧ t.laserOf f i = 1 ∧
          fld (t.reg a) 15 0 = ((v - x.level) % 65536).toNat ∧ t.line (36 * f + i) = { x with warned := true } ∧
          (x.warned = false → bit (t.reg Reg.OPT_EVT) 0 = true) ∧
          t = { s with lines := t.lines, regs := t.regs, out := t.out } ∧
          RegsBut (fun z => z = a ∨ z = Reg.OPT_EVT ∨ z = Reg.OPT_FIRST) s t)) ∧
    (∀ v : Int, s.rf (Reg.LM_STAT (f / 16)) 31 29 = 2 → s.lineRoleOf f i = 2 → v - x.level ≤ -600 →
      ∃ t, exec (.fadeCheck fibre line v false) s = .next t ∧ fld (t.reg a) 15 0 = ((v - x.level) % 65536).toNat ∧
        t.lineRoleOf f i = 3 ∧ bit (t.reg Reg.OPT_EVT) 4 = true) ∧
    (s.laserOf f i = 1 → s.lineRoleOf f i ≠ 3 →
      let next_ := ∀ j, j < i → s.swapDue f j false = false ∧ s.swapDue f j true = false
      let swapped (t : State) : Prop := t.laserOf f i = 2 ∧
        t.line (36 * f + i) = { x with ready := false, tries := 0, shift := x.ahead } ∧
        (∀ k ∈ State.ringsOn f i,
          let z := (s.ring k).settle s.devFrame
          t.ring k = { z with heater := z.table k (s.quadTemp (f / 32)) + x.ahead + z.offset }) ∧
        bit (t.reg Reg.OPT_EVT) 1 = true ∧
        t = { s with lines := t.lines, rings := t.rings, banks := t.banks, opt := t.opt, nv := t.nv, nvDue := t.nvDue,
                     regs := t.regs, out := t.out }
      (∀ w : WarmSpare, ∃ t, exec (.spareWarm fibre line w) s = .next t ∧
        let y := { x with ahead := State.heaterShift w.offset }
        t.line (36 * f + i) = (if (!w.uncorrectable && !w.resent && s.marginOn f i) = true then { y with ready := true }
          else { y with tries := y.tries + 1 }) ∧
        (∀ k, k ≠ 36 * f + i → t.line k = s.line k) ∧ t = { s with lines := t.lines, regs := t.regs, out := t.out } ∧
        RegsBut (fun _ => False) s t) ∧
      (x.ready = true → next_ →
        ∃ t, exec (.swap fibre line) s = .next t ∧ swapped t ∧
          t.opt = { s.opt with withheld := kept ++ [⟨f, none, i, s.beat + 8, false⟩] }) ∧
      (64 ≤ x.tries → next_ →
        ∃ t, exec (.swapForced fibre line) s = .next t ∧ swapped t ∧ bit (t.reg Reg.OPT_EVT) 2 = true ∧
          t.opt = { s.opt with withheld := kept ++ [⟨f, none, i, s.beat + 8, true⟩] })) ∧
    (s.laserOf f i = 1 → s.lineRoleOf f i = 3 → ∀ w : WarmSpare, ∃ t, exec (.spareWarm fibre line w) s = .next t ∧
      t.laserOf f i = 2 ∧ t.lineRoleOf f i = 1 ∧
      t.line (36 * f + i) = { x with ahead := State.heaterShift w.offset, shift := State.heaterShift w.offset } ∧
      t = { s with lines := t.lines, nv := t.nv, nvDue := t.nvDue, regs := t.regs, out := t.out }) ∧
    (bit (s.reg Reg.OPT_STAT) m.val = false → ∀ l : LmLevels, ∃ t, exec (.lmChange m (some l)) s = .next t ∧
      bit (t.reg Reg.OPT_STAT) m.val = true ∧ fld (t.reg (Reg.LM_STAT m.val)) 31 29 = 2 ∧
      tget none t.opt.serials m.val = some l.serial.toNat ∧ bit (t.reg Reg.OPT_EVT) 11 = true) ∧
    (bit (s.reg Reg.OPT_STAT) m.val = true → ∃ t, exec (.lmChange m none) s = .next t ∧
      bit (t.reg Reg.OPT_STAT) m.val = false ∧ fld (t.reg (Reg.LM_STAT m.val)) 31 29 = 0 ∧
      bit (t.reg Reg.OPT_EVT) 4 = true ∧ bit (t.reg Reg.OPT_EVT) 11 = true) ∧
    ∀ q : Fin 4, s.domOn (quadDomain q.val) = true → ∃ t, exec (.quadrantFail q) s = .next t ∧
      t.domOn (quadDomain q.val) = false ∧
      (∀ j d, j < 8 → t.dirState (8 * q.val + j) d = 0) ∧ (q.val = 0 → bit (t.reg Reg.CND_EVT) 3 = true)

/-- R304 to R308, R315 to R317: a lane takes its new line when its frame is due, when the old line is dark, or asleep; a
ring in lock moves by one code and one in false lock towards its table value, a ring that is not tracked holds its table
setting, new coefficients fall due, and a ring that cannot lock fails; a channel on which a flit is sent again is withheld
for the beat, and one that fails leaves its line. -/
def Obligations.LanesRingsAndChannelsMove : Prop :=
  ∀ (p : Fin 32) (tx : Bool) (r : RingId) (fibre : Fin 128) (way : Fin 9) (line : Fin 36) (s : State),
    let x := s.port p.val
    let k := State.ringKey r
    let y := s.ring k
    let q := s.quadTemp (r.fibre.val / 32)
    let w := (y.settle s.devFrame).chooseBand q s.devFrame
    let z := if s.ringIdle r then w.takeBand else w
    let shift := if State.receiveRing r then 0 else (s.line (36 * r.fibre.val + r.line.val)).shift
    let off_ := y.failed || (!State.receiveRing r && s.lineOut r.fibre.val r.line.val) || s.ringDark r
    let moved := fun (u t : State) (m : LaneMove) => t.planeRoleAt p.val tx m.line = m.lane ∧
      (∀ j, j < 36 → j ≠ m.line → t.planeRoleAt p.val tx j =
        if u.planeRoleAt p.val tx j = m.lane then 0x22 else u.planeRoleAt p.val tx j) ∧
      t = { u with ports := t.ports, regs := t.regs, out := t.out }
    (∀ (m : LaneMove) (l : List LaneMove), tx = true → x.txMoves = m :: l → m.lane < 32 → m.line < 36 →
      (m.dark = true ∨ s.dirState p.val true = 3 ∨ State.moveDue m x.txSeq = true) →
      ∃ t, exec (.laneMove p tx) s = .next t ∧ moved s t m ∧ (t.port p.val).txMoves.length = l.length ∧
        (l = [] → t.port p.val = { x with txMoves := [] })) ∧
    (∀ m : LaneMove, tx = false → x.rxMove = some m → m.lane < 32 → m.line < 36 →
      (s.dirState p.val false = 3 ∨ State.moveDue m (x.rxSeq + 1) = true) →
      ∃ t, exec (.laneMove p tx) s = .next t ∧ moved s t m ∧ t.port p.val = { x with rxMove := none }) ∧
    (∀ (l : RingLevel) (d : Nat),
      let good := decide (70 ≤ d ∧ d ≤ 80)
      let off := z.offset + (if good || z.offset == 0 then steer r.drop l else towardTable z.offset)
      let bad := if good then 0 else z.falseFor + 1
      let rings (t : State) : Prop := (∀ i, i ≠ k → t.ring i = s.ring i) ∧
        t = { s with rings := t.rings, regs := t.regs, out := t.out } ∧ RegsBut (fun _ => False) s t
      (off_ = true → ∃ t, exec (.ringTune r l d) s = .next t ∧ rings t ∧
        t.ring k = { z with offset := 0, heater := z.table k q + shift }) ∧
      (off_ = false → -250 ≤ off → off ≤ 250 → bad < 100 → ∃ t, exec (.ringTune r l d) s = .next t ∧ rings t ∧
        t.ring k = { z with
          offset := off, falseFor := bad, heater := z.table k q + shift + off, hist := z.hist.note off s.dt }) ∧
      (off_ = false → (off < -250 ∨ 250 < off ∨ 100 ≤ bad) → ∃ t, exec (.ringTune r l d) s = .next t ∧
        t.ring k = { z with failed := true, falseFor := bad, offset := 0, heater := z.table k q + shift } ∧
        (∀ i, i ≠ k → t.ring i = s.ring i) ∧ bit (t.reg Reg.OPT_EVT) 10 = true)) ∧
    (∀ (band : Fin 4) (slope intercept : Int),
      let u := y.settle s.devFrame
      let n := { u with
        coefDue := u.coefDue ++ [RingDue.mk band.val slope intercept s.devFrame]
        hist := { u.hist with mean := 0, calAt := s.dt, rebuild := false } }
      (s.recalDue k = true → ∃ t, exec (.ringRecal ⟨r, band, slope, intercept⟩) s = .next t ∧
        t.ring k = (if s.inhibited then { n with storeDue := true } else n.storeCoefs) ∧
        (∀ i, i ≠ k → t.ring i = s.ring i) ∧ t = { s with rings := t.rings, regs := t.regs, out := t.out } ∧
        RegsBut (fun w => s.inhibited = true ∧ (w = Reg.OPT_EVT ∨ w = Reg.OPT_FIRST)) s t) ∧
      (s.recalDue k = false → ∃ t, exec (.ringRecal ⟨r, band, slope, intercept⟩) s = .next t ∧
        OnlyRegs (fun _ => False) s t)) ∧
    ∀ c : ChannelResend,
      let f := fibre.val
      let i := line.val
      let key := 9 * f + way.val
      let e := tget (0, 0) s.opt.errors (36 * key + i)
      let n := (if e.1 = s.devFrame then e.2 else 0) + c.errors
      let b := { s.bus key with bad := insertNat i (s.bus key).bad }
      let good := (List.range 36).filter (fun j => !s.lineOut f j && !b.bad.contains j)
      let held := s.opt.withheld.filter (fun h => s.beat < h.until_) ++ [Withheld.mk f (some way.val) i (s.beat + 1) false]
      let errors := tset (0, 0) s.opt.errors (36 * key + i) (s.devFrame, n)
      4 ≤ f % 16 → f % 16 < 14 →
      (n ≤ 16 → c.fails ≠ 8 → c.locked = true → ∃ t, exec (.prismChannelResend fibre way line c) s = .next t ∧
        t.opt = { s.opt with errors := errors, withheld := held } ∧
        t = { s with opt := t.opt, regs := t.regs, out := t.out } ∧ RegsBut (fun _ => False) s t) ∧
      ((16 < n ∨ c.fails = 8 ∨ c.locked = false) → ∃ t, exec (.prismChannelResend fibre way line c) s = .next t ∧
        t.bus key = (match s.busChannel key i with
          | some ch => b.leave good ch
          | none => b) ∧
        (∀ ch, s.busChannel key i = some ch → (b.leave good ch).lost.contains ch = true →
          bit (t.reg Reg.OPT_EVT) 5 = true) ∧
        t.opt.withheld = held ∧ t.opt.errors = errors ∧ (∀ m, m ≠ key → t.bus m = s.bus m) ∧
        t = { s with opt := t.opt, guests := t.guests, nv := t.nv, nvDue := t.nvDue, regs := t.regs, out := t.out })

/-- R345 to R350, R352, R353, R358, R360, R365, R366: a request that passes its checks, at an endpoint of a facet or of an
open key region, enters the home agents' queues line by line, a READ or ATOMIC as a job to be answered; one that another
module forwards, and DATA for a read of this module, enter as if sent here. No byte of memory changes until an agent
serves it. A page's refusal is counted, and nothing enters a queue. -/
def Obligations.RequestsEnterTheHomeQueues : Prop :=
  ∀ (port : Fin 32) (p : Packet) (f ep dpa : Nat) (x : RecvFlow) (s : State),
    let a := State.requestOf p
    let n := s.msf.nextJob
    let b := p.payload
    let sound := b.length % 64 = 0 ∧ b ≠ [] ∧ s.inPod p.src.toNat = true
    let same (t : State) : Prop := Received p port.val x s t ∧ t.mem = s.mem
    let keyed (r : KeyRegion) (op : Nat) : Prop := Taken p op port.val ep x s ∧ s.epFacet ep = none ∧
      (∃ k, s.epKey ep = some k ∧ s.keyRegion k = some r) ∧ p.jobTag.toNat = r.key.toNat ∧ s.keyCheck r a = .at_ dpa
    let job (g : Nat) (t : State) : Prop := same t ∧ Joined (jobReqs dpa a n) s t ∧ t.msf.nextJob = n + 1 ∧
      t.msf.jobs = tput n ⟨p, g, (State.accessLines dpa a).length, []⟩ s.msf.jobs
    (InOrder p 1 port.val f ep x s → sound → s.pageCheck f ep a = .at_ dpa →
      ∃ t, exec (.write port p) s = .next t ∧ same t ∧ Joined (storeReqs dpa b) s t ∧ t.msf.jobs = s.msf.jobs) ∧
    (∀ r, keyed r 1 → sound →
      ∃ t, exec (.write port p) s = .next t ∧ same t ∧ Joined (storeReqs dpa b) s t ∧ t.msf.jobs = s.msf.jobs) ∧
    (InOrder p 2 port.val f ep x s → sound → readForm b = true → s.pageCheck f ep a = .at_ dpa →
      ∃ t, exec (.read port p) s = .next t ∧ job f t) ∧
    (∀ r, keyed r 2 → sound → readForm b = true → ∃ t, exec (.read port p) s = .next t ∧ job r.facet t) ∧
    (InOrder p 3 port.val f ep x s → sound → atomicForm b = true → s.pageCheck f ep a = .at_ dpa →
      ∃ t, exec (.atomic port p) s = .next t ∧ job f t) ∧
    (InOrder p 9 port.val f ep x s → (parseHeader b).op = 1#5 → (b.drop 64).length % 64 = 0 → b.drop 64 ≠ [] →
      s.inPod p.src.toNat = true → s.pageCheck f ep a = .at_ dpa →
      ∃ t, exec (.fwdReq port p) s = .next t ∧ same t ∧ Joined (storeReqs dpa (b.drop 64)) s t ∧
        t.msf.jobs = s.msf.jobs) ∧
    (InOrder p 9 port.val f ep x s → ((parseHeader b).op = 2#5 ∧ readForm (b.drop 64) = true) ∨
        ((parseHeader b).op = 3#5 ∧ atomicForm (b.drop 64) = true) →
      (b.drop 64).length % 64 = 0 → b.drop 64 ≠ [] → s.inPod p.src.toNat = true → s.pageCheck f ep a = .at_ dpa →
      ∃ t, exec (.fwdReq port p) s = .next t ∧ same t ∧ Joined (jobReqs dpa a n) s t ∧ t.msf.nextJob = n + 1 ∧
        t.msf.jobs = tput n ⟨{ parseHeader b with dst := p.dst, payload := b.drop 64 }, f,
          (State.accessLines dpa a).length, []⟩ s.msf.jobs) ∧
    (∀ r : RTag, Taken p 0x10 port.val ep x s → s.epFacet ep = some f → s.dataTag p = some r →
      s.pageCheck f ep ⟨1, p.addr.toNat, b.length / 64⟩ = .at_ dpa →
      ∃ t, exec (.data port p) s = .next t ∧ same t ∧ Joined (storeReqs dpa b) s t ∧
        t.msf.rtags = s.msf.rtags.erase r) ∧
    ∀ st : Nat, sound → s.pageCheck f ep a = .refuse st → f < 64 →
      let refused (t : State) : Prop := t.mem = s.mem ∧ t.msf = s.msf ∧
        fld (t.reg (Reg.MSF_REF f)) 31 0 = min (2 ^ 32 - 1) (s.rf (Reg.MSF_REF f) 31 0 + 1)
      (InOrder p 1 port.val f ep x s → ∃ t, exec (.write port p) s = .next t ∧ refused t) ∧
      (InOrder p 2 port.val f ep x s → readForm b = true → ∃ t, exec (.read port p) s = .next t ∧ refused t) ∧
      (InOrder p 3 port.val f ep x s → atomicForm b = true → ∃ t, exec (.atomic port p) s = .next t ∧ refused t)

/-- R349, R350, R353, R354, R363, R364, R367: an agent serves the operation at the front of its queue: a store is written,
or merged where merging is on, into the entry of its line that opened in this beat; a READ's line joins its job; an atomic
changes its field in memory, or in the open merge entry. A merge entry closes at the end of its beat and is written. A
message joins the queue of its endpoint at the next slot, a gateway
passes on one for another module, one that finds the queue off or full is counted, and a DONE ends the request that it
names. -/
def Obligations.HomeAgentsAndMessageQueuesServe : Prop :=
  ∀ (port : Fin 32) (h : Fin 160) (p : Packet) (f ep : Nat) (x : RecvFlow) (s : State),
    let y := s.home h.val
    let b := p.payload
    let tail := s.mqTail ep
    let size := 2 ^ s.mqLog2 ep
    let slot := s.mqBase ep + 64 + 8192 * (tail % size)
    let msg := sub b 0 15 ++ leBytes 1 (1 - tail / size % 2) ++ sub b 16 (48 + leAt b 4 4)
    let cnt (hi lo : Nat) (t : State) : Prop :=
      fld (t.reg (Reg.MQ_CNT ep)) hi lo = min 65535 (s.rf (Reg.MQ_CNT ep) hi lo + 1)
    let put (t : State) : Prop := (∀ a, t.memByte a = (s.writeMem slot msg).memByte a) ∧
      t.mqTail ep = (tail + 1) % 65536 ∧ cnt 31 16 t ∧
      (byteAt b 12 % 2 = 0 → Received p port.val x { s with poison := t.poison } t)
    let still : Prop := ∀ n, s.home n = ⟨[], []⟩
    let sound := messageForm b = true ∧ ep < 64
    let may := s.mqOn ep = true ∧ s.mqFull ep = false ∧ s.areaLocked slot msg.length = false
    let final := leAt b 8 4
    (∀ (r : HomeReq) (l : List HomeReq) (found : List ScrubFound),
      let at_ := r.line * 128 + r.off
      let w := (s.setHome h.val { y with queue := l }).readFinds (r.line * 128) (found.take 2)
      y.queue = r :: l → s.stackOn (stackOf (r.line * 128)) = true → w.stackOn (stackOf (r.line * 128)) = true →
      s.msf.waiting = [] → (∀ e ∈ s.fab.recv, e.2.held = []) →
      (r.op = 1 → s.mergeOn = false → ∃ t, exec (.homeAgentServe ⟨h, found⟩) s = .next t ∧ (t.home h.val).queue = l ∧
        ∀ a, t.memByte a = ((s.closeMerge h.val r.line).writeMem at_ r.data).memByte a) ∧
      (r.op = 1 → s.mergeOn = true →
        (∀ i, y.merges.findIdx? (fun m => m.line == r.line) = some i → s.mergeOver h.val r.line = false →
          ∃ t, exec (.homeAgentServe ⟨h, found⟩) s = .next t ∧ t.mem = s.mem ∧
            t.home h.val = ⟨l, y.merges.modify i (fun m => { m with bytes := overlay m.bytes r.off r.data })⟩) ∧
        (s.mergeOver h.val r.line = true → y.merges.length ≤ 128 →
          ∃ t, exec (.homeAgentServe ⟨h, found⟩) s = .next t ∧
            (∀ a, t.memByte a = (s.closeMerge h.val r.line).memByte a) ∧
            t.home h.val = ⟨l, y.merges.filter (fun m => m.line != r.line) ++ [⟨r.line, overlay [] r.off r.data, s.beat⟩]⟩) ∧
        (y.merges.findIdx? (fun m => m.line == r.line) = none → y.merges.length < 128 →
          ∃ t, exec (.homeAgentServe ⟨h, found⟩) s = .next t ∧ t.mem = s.mem ∧
            t.home h.val = ⟨l, y.merges ++ [⟨r.line, overlay [] r.off r.data, s.beat⟩]⟩) ∧
        (y.merges.findIdx? (fun m => m.line == r.line) = none → 128 ≤ y.merges.length →
          ∃ t, exec (.homeAgentServe ⟨h, found⟩) s = .next t ∧ t.home h.val = ⟨l, y.merges⟩ ∧
            ∀ a, t.memByte a = (s.writeMem at_ r.data).memByte a)) ∧
      (∀ j : HomeJob, r.op = 2 → s.msf.jobs.find? (fun e => e.1 == r.job) = some (r.job, j) →
        let k := { j with left := j.left - 1, got := j.got ++ [(r.off, w.lineBytes r.line, w.linePoison r.line)] }
        ∃ t, exec (.homeAgentServe ⟨h, found⟩) s = .next t ∧ (t.home h.val).queue = l ∧ t.mem = w.mem ∧
          (2 ≤ j.left → t.msf.jobs = tput r.job k s.msf.jobs) ∧
          (j.left ≤ 1 → t.msf.jobs = s.msf.jobs.filter (fun e => e.1 != r.job))) ∧
      (∀ j : HomeJob, r.op = 3 → s.msf.jobs.find? (fun e => e.1 == r.job) = some (r.job, j) →
        w.linePoison r.line = false →
        let c := j.packet.payload
        let n := atomicSize c
        let old := leNat (sub (w.lineBytes r.line) (leAt c 10 2) n)
        let new := leBytes n (atomicNew (byteAt c 8) (8 * n) old (leAt c 16 n) (leAt c 24 n))
        (y.merges.findIdx? (fun m => m.line == r.line) = none →
          ∃ t, exec (.homeAgentServe ⟨h, found⟩) s = .next t ∧ (t.home h.val).queue = l ∧
            ∀ a, t.memByte a = (w.writeMem (r.line * 128 + leAt c 10 2) new).memByte a) ∧
        (∀ i, y.merges.findIdx? (fun m => m.line == r.line) = some i →
          ∃ t, exec (.homeAgentServe ⟨h, found⟩) s = .next t ∧ t.mem = w.mem ∧
            t.home h.val = ⟨l, y.merges.modify i (fun m => { m with bytes := overlay m.bytes (leAt c 10 2) new })⟩))) ∧
    (∀ (line : BitVec 36) (m : MergeEntry), s.mergeEntry h.val line.toNat = some m →
      (m.since ≠ s.beat ∨ s.dt % 256 = 255 →
        ∃ t, exec (.mergeClose h line) s = .next t ∧
          t.home h.val = { y with merges := y.merges.filter (fun e => e.line != line.toNat) } ∧
          ∀ a, t.memByte a = (if s.stackOn (stackOf (line.toNat * 128)) then s.writeLine line.toNat m.bytes else s).memByte a) ∧
      (m.since = s.beat → s.dt % 256 ≠ 255 → ∃ t, exec (.mergeClose h line) s = .next t ∧ OnlyRegs (fun _ => False) s t)) ∧
    (InOrder p 6 port.val f ep x s → sound → still → (s.mqGateway ep = false ∨ byteAt b 12 < 2 ∨ final = p.dst.toNat) →
      (may → ∃ t, exec (.send port p) s = .next t ∧ put t) ∧
      (s.mqOn ep = false ∨ s.mqFull ep = true → ∃ t, exec (.send port p) s = .next t ∧ t.mem = s.mem ∧ cnt 15 0 t)) ∧
    (InOrder p 6 port.val f ep x s → sound → s.mqGateway ep = true → 2 ≤ byteAt b 12 → final ≠ p.dst.toNat →
      ∃ t, exec (.send port p) s = .next t ∧ t.mem = s.mem ∧ t.msf = s.msf ∧ t.reg (Reg.MQ_CTL ep) = s.reg (Reg.MQ_CTL ep)) ∧
    (InOrder p 8 port.val f ep x s → sound → still →
      (may → final = p.dst.toNat → ∃ t, exec (.relay port p) s = .next t ∧ put t) ∧
      (s.mqOn ep = false ∨ s.mqFull ep = true ∨ final ≠ p.dst.toNat →
        ∃ t, exec (.relay port p) s = .next t ∧ t.mem = s.mem ∧ cnt 15 0 t)) ∧
    (∀ r : RTag, Taken p 0x11 port.val ep x s → s.epFacet ep = some f →
      s.findRTag ep p.jobTag.toNat (fun r => r.rtag == leAt b 0 4) = some r →
      ∃ t, exec (.done port p) s = .next t ∧ Received p port.val x s t ∧ t.msf.rtags = s.msf.rtags.erase r ∧
        t.mem = s.mem ∧ (byteAt b 4 = 0x12 → bit (t.reg Reg.MSF_EVT) 1 = true))

/-- R330 to R332, R334 to R336, R341, R344: an ACK settles what it covers and moves the window; a RETURN settles its packet
and is counted; a TAIL is answered once its range is there, and its answer ends it; the timers send an ACK, send a
packet again or abandon it, and free a flow. -/
def Obligations.FlowsSettleAndResend : Prop :=
  ∀ (port : Fin 32) (p : Packet) (fl : FlowId) (seq : BitVec 16) (ep f : Nat) (s : State),
    let b := p.payload
    let k := flowKey fl
    let quiet := s.fab.fences = [] ∧ s.fab.pendRoutes = []
    let back := parseHeader b
    (∀ x : SendFlow,
      let acked := fun (q : Nat) => seqBelow q (leAt b 0 2) || (let d := (q + 65536 - (leAt b 0 2 + 1)) % 65536
        d < 256 && (leAt b 8 32).testBit d)
      let left := x.unacked.filter (fun u => !acked u.seq)
      let y := windowAfter x (leAt b 4 2) (leAt b 6 2) s.dt s.wMin s.wMax s.wStep
      fl = ⟨p.dst, p.src, true, BitVec.ofNat 2 (byteAt b 2)⟩ → Reaches p 0x12 port.val ep s → quiet →
      s.sendFlow k = some x → x.id = fl → wellFormedOp p = true → State.answersFlow x p = true →
      (∀ u ∈ x.unacked, u.packet.mc = false) → x.waiting = [] →
      ∃ t, exec (.ack port p) s = .next t ∧ t.mem = s.mem ∧
        (byteAt b 42 = 0 → t.sendFlow k = some { y with unacked := left }) ∧
        (byteAt b 42 ≠ 0 → t.sendFlow k = some { y with unacked := left.filter (fun u => u.seq != leAt b 40 2) } ∧
          bit (t.reg Reg.FAB_EVT) 0 = true)) ∧
    (∀ (x : SendFlow) (y : RecvFlow), fl = flowOf back → Taken p 0x13 port.val ep y s → quiet →
      s.sendFlow k = some x → x.id = fl → back.src = p.dst → back.jobTag = p.jobTag →
      (back.op = 0x14#5 → (∃ r ∈ x.tails, r.epoch = back.epoch.toNat ∧ r.tag = p.jobTag.toNat) →
        ∃ t, exec (.return_ port p) s = .next t ∧ t.mem = s.mem ∧
          t.sendFlow k = some { x with tails := x.tails.filter (fun r => r.epoch != back.epoch.toNat) }) ∧
      (back.marked = true → State.hasSeq back = true →
        (∀ u : Unacked, x.unacked.find? (fun v => v.seq == back.seq.toNat) = some u → u.packet.jobTag = p.jobTag →
          x.waiting = [] → (∀ v ∈ x.unacked, v.packet.mc = false) →
          ∃ t, exec (.return_ port p) s = .next t ∧ t.mem = s.mem ∧
            t.sendFlow k = some { x with unacked := x.unacked.filter (fun v => v.seq != back.seq.toNat) } ∧
            bit (t.reg Reg.FAB_EVT) 0 = true ∧ (back.op = 8#5 → bit (t.reg Reg.MSF_EVT) 8 = true)) ∧
        ((∀ u ∈ x.unacked, u.seq ≠ back.seq.toNat) → ∃ t, exec (.return_ port p) s = .next t ∧
          t.sendFlow k = some x ∧ t.mem = s.mem ∧ RegsBut (fun _ => False) s t))) ∧
    (∀ x : RecvFlow,
      let r : TailOut := ⟨byteAt b 0 % 4, leAt b 2 2, leAt b 4 2, p.jobTag.toNat, 0⟩
      let there : Prop := ∀ i, i < (r.last + 65536 - r.first) % 65536 + 1 → x.has ((r.first + i) % 65536) = true
      fl = ⟨p.src, p.dst, true, BitVec.ofNat 2 (byteAt b 1)⟩ → Reaches p 0x14 port.val ep s → s.epFacet ep = some f →
      p.jobTag.toNat = s.jobTag f → wellFormedOp p = true → s.recvFlow k = some x → x.id = fl → x.tailsDue = [] →
      ∃ t, exec (.tail port p) s = .next t ∧ t.mem = s.mem ∧
        (there → t.recvFlow k = some { x with epochs := x.epochs.filter (fun e => e.2 != r.epoch) }) ∧
        (¬there → t.recvFlow k = some { x with tailsDue := [r] })) ∧
    (∀ x : SendFlow, fl = ⟨p.dst, p.src, true, BitVec.ofNat 2 (byteAt b 1)⟩ → Reaches p 0x15 port.val ep s → quiet →
      s.sendFlow k = some x → x.id = fl → wellFormedOp p = true → (∃ r ∈ x.tails, r.tag = p.jobTag.toNat) →
      ∃ t, exec (.tailAck port p) s = .next t ∧
        t.sendFlow k = some { x with tails := x.tails.filter (fun r => !(r.epoch == byteAt b 0 &&
          r.first == leAt b 2 2 && r.last == leAt b 4 2 && r.tag == p.jobTag.toNat)) } ∧ t.mem = s.mem) ∧
    (∀ x : RecvFlow, s.recvFlow k = some x → x.id = fl →
      ((0 < x.newN ∨ x.naks ≠ []) → fl.marked = true →
        let a := { mkPacket x.id.src.toNat x.id.dst.toNat 2 0x12 x.tag 0 false (ackPayload x) with
          echo := decide (0 < x.ceN) }
        (s.answerRoom a = true → ∃ t, exec (.ackTimer fl) s = .next t ∧
          t.recvFlow k = some { x with newN := 0, ceN := 0, naks := x.naks.tail, ackDue := !x.naks.tail.isEmpty } ∧
          t.mem = s.mem) ∧
        (s.answerRoom a = false → ∃ t, exec (.ackTimer fl) s = .next t ∧
          t.recvFlow k = some { x with ackDue := true } ∧
          t = { s with fab := t.fab, regs := t.regs, out := t.out } ∧ RegsBut (fun _ => False) s t)) ∧
      (∃ t, exec (.receiveFlowFree fl) s = .next t ∧ t.recvFlow k = none ∧
        (x.held ≠ [] → bit (t.reg Reg.FAB_EVT) 5 = true) ∧ t = { s with fab := t.fab, regs := t.regs, out := t.out }) ∧
      ((∃ h ∈ x.held, h.packet.seq = seq) → ∃ t, exec (.lastExpired fl seq) s = .next t ∧
        t.recvFlow k = some { x with held := x.held.filter (fun h => h.packet.seq != seq) } ∧
        bit (t.reg Reg.FAB_EVT) 5 = true ∧ t = { s with fab := t.fab, regs := t.regs, out := t.out })) ∧
    ∀ x : SendFlow, s.sendFlow k = some x → x.id = fl →
      (x.unacked = [] → x.tails = [] → x.waiting = [] → s.fab.blocked = [] →
        ∃ t, exec (.sendFlowFree fl) s = .next t ∧ t.sendFlow k = none ∧
          t = { s with fab := t.fab, regs := t.regs, out := t.out } ∧ RegsBut (fun _ => False) s t) ∧
      (∀ r : TailOut, x.unacked.find? (fun v => v.seq == seq.toNat) = none →
        x.tails.find? (fun v => v.last == seq.toNat) = some r → r.resends < max 1 (fld (s.hw Reg.FAB_CTL) 31 24) →
        ∃ t, exec (.resendTimeout fl seq) s = .next t ∧ t.mem = s.mem ∧
          t.sendFlow k = some { x with lastSent := s.dt, tails := x.tails.map (fun v =>
            if v = r then { v with resends := v.resends + 1 } else v) }) ∧
      ∀ u : Unacked, x.unacked.find? (fun v => v.seq == seq.toNat) = some u →
        (u.resends < max 1 (fld (s.hw Reg.FAB_CTL) 31 24) →
          (s.routeLocal u.packet.dst.toNat = true ∨ s.egressBad (sealHeader u.packet) = none) →
          ∃ t, exec (.resendTimeout fl seq) s = .next t ∧ t.mem = s.mem ∧
            t.sendFlow k = some { x with lastSent := s.dt, unacked := x.unacked.map (fun v =>
              if v.seq == seq.toNat then { v with resends := v.resends + 1, sentAt := s.dt } else v) }) ∧
        (max 1 (fld (s.hw Reg.FAB_CTL) 31 24) ≤ u.resends → x.waiting = [] → s.fab.fences = [] →
          (∀ v ∈ x.unacked, v.packet.mc = false) →
          ∃ t, exec (.resendTimeout fl seq) s = .next t ∧ t.mem = s.mem ∧ bit (t.reg Reg.FAB_EVT) 1 = true ∧
            t.sendFlow k = some { x with unacked := x.unacked.filter (fun v => v.seq != seq.toNat) })

/-- R323 to R325, R335 to R339, R344: a packet for another module joins the queue of its port, with DL set at a dateline
and CE where the queue is long; one held too long comes back; a fence holds while its flows have packets out; a
multicast sends one copy to each target; a changed route opens a new epoch; and the tables of routes and groups read
as they were written. -/
def Obligations.PacketsFollowTheirRoutes : Prop :=
  ∀ (port : Fin 32) (p : Packet) (f ep : Fin 64) (eid : BitVec 18) (group : BitVec 10) (hdr : Bool) (index : Byte)
    (s : State),
    let e := s.route p.dst.toNat
    let h := s.mcHeader group.toNat
    let copy := fun (d : Nat) => { p with
      dst := BitVec.ofNat 18 d, src := BitVec.ofNat 18 (s.eidOf f.val ep.val), mc := true
      jobTag := BitVec.ofNat 16 (s.jobTag f.val) }
    let v := (s.reg Reg.RT_LO).toNat + (s.reg Reg.RT_HI).toNat * 2 ^ 32
    let n := (s.routeEpoch eid.toNat + 1) % 4
    let shown := fun (m : McState) => (m.group, m.facet, m.targets.map (fun z => (z.key, z.out, z.missed)))
    (∀ o : Nat,
      let q := if e.testBit 28 then sealHeader { p with dl := true } else p
      let long := p.marked && decide (fld (s.hw Reg.FAB_CTL) 11 0 * 1024 < s.egressFill o (bufferOf q) * 64)
      let sent := if long && !q.ce then sealHeader { q with ce := true } else q
      hcrcOk p = true → p.op ≠ 0#5 → s.overfull port.val p = false → s.routeLocal p.dst.toNat = false → s.routeValid p.dst.toNat = true →
      p.marked = true → (e.testBit 28 = true → p.dl = false) → s.egressBad q = none → s.choosePort e q = some o →
      s.moveOf p.dst.toNat = none →
      ∃ t, exec (.packetForward port p) s = .next t ∧ (t.port o).queue = (s.port o).queue ++ [sent] ∧
        tget 0 (t.port port.val).owed (bufferOf p) = tget 0 (s.port port.val).owed (bufferOf p) + packetUnits p ∧
        (∀ q, q ≠ o → q ≠ port.val → t.port q = s.port q) ∧
        t = { s with ports := t.ports, regs := t.regs, out := t.out } ∧ RegsBut (fun z => long = true ∧ z = Reg.PFAB_MARK o) s t) ∧
    (let y := s.port port.val
      let n := if y.sent = 0 then 0 else 1
      let left := y.queue.take n ++ (y.queue.drop n).erase p
      p.marked = true → p ∈ y.queue.drop n →
      (s.routeLocal p.src.toNat = true → p.chan ≠ 2#2 →
        ∃ t, exec (.aged port p) s = .next t ∧ (t.port port.val).queue = left ∧ t.fab = { s.fab with back := s.fab.back ++ [p] } ∧
          bit (t.reg Reg.FAB_EVT) 0 = true ∧ (∀ q, q ≠ port.val → t.port q = s.port q) ∧
          t = { s with fab := t.fab, ports := t.ports, qps := t.qps, slots := t.slots, ses := t.ses, regs := t.regs,
                       out := t.out }) ∧
      (s.routeLocal p.src.toNat = false → p.chan ≠ 2#2 →
        ∃ t, exec (.aged port p) s = .next t ∧ t = { s with fab := t.fab, ports := t.ports, regs := t.regs, out := t.out }) ∧
      (p.chan = 2#2 →
        ∃ t, exec (.aged port p) s = .next t ∧ (t.port port.val).queue = left ∧
          t.fab = { s.fab with refused := s.fab.refused + 1 } ∧
          (∀ q, q ≠ port.val → t.port q = s.port q) ∧ t = { s with fab := t.fab, ports := t.ports, out := t.out })) ∧
    (∀ (y : SendFlow) (dst : Option (BitVec 18)), s.fab.fences = [] → s.fab.blocked = [] → s.fab.send = [(flowKey y.id, y)] →
      s.fenceCovers ⟨ep.val, dst.map BitVec.toNat, [], false, []⟩ y.id = true →
      (y.unacked ≠ [] ∨ y.waiting ≠ [] ∨ y.tails ≠ []) →
      ∃ t, exec (.fence ep dst) s = .next t ∧ t.fab.fences = [⟨ep.val, dst.map BitVec.toNat, [y.id], false, []⟩] ∧
        t.sendFlow (flowKey y.id) = some { y with waiting := markLast y.id y.waiting } ∧
        t = { s with fab := t.fab, regs := t.regs, out := t.out } ∧ RegsBut (fun _ => False) s t) ∧
    (∀ dst : Option (BitVec 18), (∀ z ∈ s.fab.fences.zipIdx, s.fenceDone z.2 z.1 = false) →
      (∀ y ∈ s.fab.send, s.fenceCovers ⟨ep.val, dst.map BitVec.toNat, [], false, []⟩ y.2.id = false) →
      (∀ q ∈ s.beforeFence s.fab.fences.length,
        s.fenceCovers ⟨ep.val, dst.map BitVec.toNat, [], false, []⟩ (flowOf q) = false) →
      ∃ t, exec (.fence ep dst) s = .next t ∧ OnlyRegs (fun _ => False) s t) ∧
    (h.testBit 31 = true → nbits h 29 24 = f.val → s.facetBound f.val = true →
      (s.kcs f.val).table.eps.contains ep.val = true →
      (p.marked = true → ∃ t, exec (.multicast f ep group p) s = .next t ∧
        t.fab.mcasts.map shown = s.fab.mcasts.map shown ++ [(group.toNat, f.val, (s.mcTargets group.toNat).map (fun d =>
          (flowKey (flowOf (copy d)), true, false)))] ∧ t.mem = s.mem) ∧
      (p.marked = true → h % 256 = 0 → s.fab.fences = [] → s.fab.send.length < 16384 → packetBytes p ≤ s.wInit →
        let c := copy (tget 0 s.fab.mcDst (group.toNat * 256))
        s.sendFlow (flowKey (flowOf c)) = none → s.routeLocal c.dst.toNat = true →
        ∃ t, exec (.multicast f ep group p) s = .next t ∧ t = { s with
          fab := t.fab, msf := (s.expectAnswer c).msf, out := s.out ++ [.packet (sealHeader { c with seq := 0, epoch := BitVec.ofNat 2 (s.routeEpoch c.dst.toNat) })] }) ∧
      (p.marked = false → s.mcCredit p (s.mcTargets group.toNat) = false →
        ∃ t, exec (.multicast f ep group p) s = .next t ∧
          t.fab = { s.fab with mcWait := s.fab.mcWait ++ [⟨f.val, ep.val, group.toNat, s.mcTargets group.toNat, p⟩] } ∧
          bit (t.reg Reg.FAB_EVT) 10 = true ∧ t = { s with fab := t.fab, regs := t.regs, out := t.out }) ∧
      (p.marked = false → s.mcCredit p (s.mcTargets group.toNat) = true →
        ∃ t, exec (.multicast f ep group p) s = .next t ∧ t.fab.mcasts = s.fab.mcasts ∧ t.fab.mcWait = s.fab.mcWait ∧
          t.mem = s.mem)) ∧
    (s.routeBad eid.toNat v = 0 →
      let onto (m : Nat) (t : State) : Prop := routePath (t.route eid.toNat) = routePath v ∧
        t.routeEpoch eid.toNat = m ∧ t.routeValid eid.toNat = v.testBit 31 ∧ t.routeLocal eid.toNat = false ∧
        t.reg Reg.RT_CMD = BitVec.ofNat 32 (2 ^ 30 + eid.toNat) ∧ (∀ z ∈ t.fab.pendRoutes, z.1 ≠ eid.toNat)
      let only (t : State) : Prop := t = { s with fab := t.fab, regs := t.regs, out := t.out } ∧
        RegsBut (fun z => z = Reg.RT_CMD) s t
      let same : Prop := routePath (s.route eid.toNat) = routePath (routeWritable v)
      let open_ : Prop := s.epochOpen eid.toNat n = true ∨ (s.route eid.toNat).testBit 25 = true
      (same → ∃ t, exec (.rtWrite eid) s = .next t ∧ onto (s.routeEpoch eid.toNat) t ∧ only t) ∧
      (¬same → ¬open_ → (∀ x ∈ s.fab.send, x.2.id.dst ≠ eid) →
        ∃ t, exec (.rtWrite eid) s = .next t ∧ onto n t ∧ only t) ∧
      (¬same → open_ → ∃ t, exec (.rtWrite eid) s = .next t ∧ only t ∧
        (t.route eid.toNat).testBit 25 = true ∧ routePath (t.route eid.toNat) = routePath (s.route eid.toNat) ∧
        t.routeEpoch eid.toNat = s.routeEpoch eid.toNat ∧
        t.fab.pendRoutes = tput eid.toNat (routeWritable v) s.fab.pendRoutes ∧
        t.reg Reg.RT_CMD = BitVec.ofNat 32 (2 ^ 30 + 2 ^ 27 + eid.toNat))) ∧
    (s.routeBad eid.toNat v ≠ 0 → ∃ t, exec (.rtWrite eid) s = .next t ∧
      t.reg Reg.RT_CMD = BitVec.ofNat 32 (2 ^ 30 + s.routeBad eid.toNat v * 2 ^ 28 + eid.toNat) ∧
      bit (t.reg Reg.FAB_EVT) 9 = true ∧
      OnlyRegs (fun z => z = Reg.RT_CMD ∨ z = Reg.FAB_EVT ∨ z = Reg.FAB_FIRST) s t) ∧
    (∃ t, exec (.rtRead eid) s = .next t ∧ t.reg Reg.RT_LO = BitVec.ofNat 32 (s.route eid.toNat) ∧
      t.reg Reg.RT_HI = BitVec.ofNat 32 (s.route eid.toNat / 2 ^ 32) ∧
      OnlyRegs (fun z => z = Reg.RT_LO ∨ z = Reg.RT_HI ∨ z = Reg.RT_CMD) s t) ∧
    (∃ t, exec (.mcWrite group hdr index) s = .next t ∧
      (hdr = true → t.mcHeader group.toNat = mcBits true (s.reg Reg.MC_DATA) ∧ t.fab.mcDst = s.fab.mcDst) ∧
      (hdr = false → tget 0 t.fab.mcDst (group.toNat * 256 + index.toNat) = mcBits false (s.reg Reg.MC_DATA) ∧
        t.fab.mcHdr = s.fab.mcHdr) ∧
      t = { s with fab := t.fab, regs := t.regs, out := t.out } ∧ RegsBut (fun z => z = Reg.MC_CMD) s t) ∧
    ∃ t, exec (.mcRead group hdr index) s = .next t ∧
      t.reg Reg.MC_DATA = BitVec.ofNat 32 (if hdr then s.mcHeader group.toNat
        else tget 0 s.fab.mcDst (group.toNat * 256 + index.toNat)) ∧
      OnlyRegs (fun z => z = Reg.MC_DATA ∨ z = Reg.MC_CMD) s t

/-- R345, R346, R357, R359, R361, R363, R369: the tables of windows and translations take what the host writes where
it may, and read back; a key region opens on a free endpoint of a held facet with a key that reads once, and closes; a
message queue starts with TAIL 0. -/
def Obligations.MemoryTablesTakeAndShowEntries : Prop :=
  ∀ (page : BitVec 11) (ep f : Fin 64) (entry : Fin 16) (kr : Fin 8) (rd wr : Bool) (who : Requester) (s : State),
    let v := (s.reg Reg.WIN_DATA).toNat
    let n := s.rf Reg.XLT_DATA1 12 0
    let tag := s.rf Reg.XLT_DATA1 31 16
    let first := s.rf Reg.KEY_DATA 26 18
    let eid := s.rf Reg.KEY_DATA 17 0
    (s.windowBad ep.val v = 0 → ∃ t, exec (.winWrite page ep) s = .next t ∧
      t.window page.toNat ep.val = State.windowBits v ∧
      (∀ i, i ≠ page.toNat * 64 + ep.val → tget 0 t.msf.windows i = tget 0 s.msf.windows i) ∧
      t = { s with msf := t.msf, regs := t.regs, out := t.out } ∧ RegsBut (fun z => z = Reg.WIN_CMD) s t) ∧
    (∃ t, exec (.winRead page ep) s = .next t ∧ t.reg Reg.WIN_DATA = BitVec.ofNat 32 (s.window page.toNat ep.val) ∧
      OnlyRegs (fun z => z = Reg.WIN_DATA ∨ z = Reg.WIN_CMD) s t) ∧
    (s.windowBad ep.val v ≠ 0 → ∃ t, exec (.winWrite page ep) s = .next t ∧
      fld (t.reg Reg.WIN_CMD) 29 28 = s.windowBad ep.val v ∧ OnlyRegs (fun z => z = Reg.WIN_CMD) s t) ∧
    (s.facetBound f.val = true → (tag ≠ 0 ∨ n = 0) → ∃ t, exec (.xltWrite entry f) s = .next t ∧
      tget 0 t.msf.xlt (f.val * 16 + entry.val) =
        (if n = 0 then 0 else s.rf Reg.XLT_DATA0 17 0 + n * 2 ^ 18 + tag * 2 ^ 31) ∧
      (∀ i, i ≠ f.val * 16 + entry.val → tget 0 t.msf.xlt i = tget 0 s.msf.xlt i) ∧
      t = { s with msf := t.msf, regs := t.regs, out := t.out } ∧ RegsBut (fun z => z = Reg.XLT_CMD) s t) ∧
    (∃ t, exec (.xltRead entry f) s = .next t ∧
      t.reg Reg.XLT_DATA0 = BitVec.ofNat 32 (tget 0 s.msf.xlt (f.val * 16 + entry.val) % 2 ^ 18) ∧
      OnlyRegs (fun z => z = Reg.XLT_DATA0 ∨ z = Reg.XLT_DATA1 ∨ z = Reg.XLT_CMD) s t) ∧
    (s.keyBad kr.val f.val ep.val first eid = 0 → ∃ t, exec (.keyOpen kr rd wr f ep) s = .next t ∧
      t.keyRegion kr.val = some ⟨f.val, first, (s.kcs f.val).table.slices.length - first, ep.val, eid, rd, wr,
        t.reg Reg.KEY_VALUE, 0⟩ ∧
      t.reg Reg.KEY_VALUE ≠ 0 ∧ (t.reg Reg.KEY_VALUE).toNat < 65536 ∧ t.routeLocal eid = true ∧
      t.routeEp eid = ep.val ∧ t.free = s.free + 1 ∧
      t = { s with msf := t.msf, fab := t.fab, free := t.free, regs := t.regs, out := t.out } ∧
      RegsBut (fun z => z = Reg.KEY_CMD ∨ z = Reg.KEY_VALUE) s t) ∧
    (s.keyBad kr.val f.val ep.val first eid ≠ 0 → ∃ t, exec (.keyOpen kr rd wr f ep) s = .next t ∧
      fld (t.reg Reg.KEY_CMD) 24 23 = s.keyBad kr.val f.val ep.val first eid ∧
      OnlyRegs (fun z => z = Reg.KEY_CMD) s t) ∧
    (∃ t, exec (.keyClose kr) s = .next t ∧ t.keyRegion kr.val = none ∧
      (∀ k, k ≠ kr.val → t.keyRegion k = s.keyRegion k) ∧
      t = { s with msf := t.msf, regs := t.regs, out := t.out } ∧ RegsBut (fun z => z = Reg.KEY_CMD) s t) ∧
    (∃ t, exec (.keyValue who) s = .next t ∧ Output.read (s.reg Reg.KEY_VALUE) ∈ t.out ∧ t.reg Reg.KEY_VALUE = 0 ∧
      OnlyRegs (fun z => z = Reg.KEY_VALUE) s t) ∧
    (∀ w : Word, bit w 31 = false → ∃ t, exec (.mqEnable ep w) s = .next t ∧ t.mqOn ep.val = false ∧
      t.mqGateway ep.val = bit w 30 ∧ OnlyRegs (fun z => z = Reg.MQ_CTL ep.val) s t) ∧
    ∀ w : Word, bit w 31 = true → s.mqOn ep.val = false → s.mqOk ep.val = true →
      ∃ t, exec (.mqEnable ep w) s = .next t ∧ t.mqOn ep.val = true ∧ t.mqTail ep.val = 0 ∧
        t.mqGateway ep.val = bit w 30 ∧ tget 0 t.msf.heads ep.val = 0 ∧
        t = { s with msf := t.msf, regs := t.regs, out := t.out } ∧ RegsBut (fun z => z = Reg.MQ_CTL ep.val) s t

/-- R378 to R380, R382: a follower asks its parent at T1; a parent remembers the child that asks; from the answer the follower
takes O and D; an exchange that fails for long is an event; a step that waits sets the counter to the parent's time. -/
def Obligations.ExchangesSetOffsetDelayAndCounter : Prop :=
  ∀ (port : Fin 32) (p : Packet) (f ep : Nat) (x : RecvFlow) (c1 c2 : BitVec 4) (s : State),
    let b := p.payload
    let c := s.sys.clk
    let e := exchange (leAt b 8 8) (leAt b 16 8) (leAt b 24 8) (s.stamp c1.toNat)
    let who := (p.src.toNat, p.dst.toNat, p.jobTag.toNat)
    let sent (t : State) : Prop := t = { s with
      sys := t.sys, fab := t.fab, ports := t.ports, qps := t.qps, slots := t.slots, ses := t.ses, regs := t.regs
      out := t.out }
    (s.role = 2 → ∃ t, exec (.syncExchange c1) s = .next t ∧
      t.sys = { s.sys with clk := { c with t1 := some (s.stamp c1.toNat) } } ∧
      sent t) ∧
    (s.role = 1 ∨ s.role = 2 → InOrder p 7 port.val f ep x s → timeForm b = true → byteAt b 0 = 1 →
      ∃ t, exec (.syncReq port p c1 c2) s = .next t ∧
        t.sys = { s.sys with clk := { c with children := if c.children.contains who then c.children else c.children ++ [who] } } ∧
        sent t) ∧
    (s.role = 2 → InOrder p 7 port.val f ep x s → timeForm b = true → byteAt b 0 = 2 → c.t1 = some (leAt b 8 8) →
      p.src.toNat = fld (s.hw Reg.SYNC_PARENT) 17 0 →
      ∃ t, exec (.syncResp port p c1) s = .next t ∧ t.sys.clk.t1 = none ∧
        t.sys.clk.trips = (e.1.toNat :: c.trips).take 16 ∧ t.dt = s.dt ∧ t.mem = s.mem ∧
        (tripValid (c.trips.map Int.ofNat) e.1 = true →
          t.reg Reg.SYNC_OFS = BitVec.ofInt 32 e.2.1 ∧ t.reg Reg.SYNC_DELAY = BitVec.ofInt 32 e.2.2) ∧
        (tripValid (c.trips.map Int.ofNat) e.1 = false →
          t.reg Reg.SYNC_OFS = s.reg Reg.SYNC_OFS ∧ t.reg Reg.SYNC_DELAY = s.reg Reg.SYNC_DELAY)) ∧
    (s.role = 2 → ∃ t, exec .syncTimeout s = .next t ∧ bit (t.reg Reg.CLK_EVT) 5 = true ∧
      OnlyRegs (fun z => z = Reg.CLK_EVT) s t) ∧
    ∀ o : Int, s.role = 2 → c.stepBy = some o → s.mayStep = true →
      ∃ t, exec .step s = .next t ∧ t.dt = (((((s.dt * 16 : Nat) : Int) + o) / 16) % 2 ^ 64).toNat ∧
        t.sys = { s.sys with clk := { c with stepBy := none, dt := t.dt, stepped := true, t1 := none } } ∧
        bit (t.reg Reg.CLK_EVT) 6 = true ∧ t = { s with sys := t.sys, regs := t.regs, out := t.out } ∧
        RegsBut (fun z => z = Reg.CLK_EVT) s t

/-- R145, R383 to R385, R403: the root's states on the loss and the return of its reference, the notices that a member
takes (one that is not in a multi-module facet stays as it is), and the latch of the upper half of device time. -/
def Obligations.ReferenceLossRunsThroughItsStates : Prop :=
  ∀ (p : Packet) (f : Nat) (who : Requester) (s : State),
    let x := s.facet f
    let b := p.payload
    let clk := Reg.CLK_STAT
    (TimeFor p 3 f s → ∃ t, exec (.holdover p) s = .next t ∧ OnlyRegs (fun _ => False) s t) ∧
    (TimeFor p 4 f s → ∃ t, exec (.refok p) s = .next t ∧ OnlyRegs (fun _ => False) s t) ∧
    (TimeFor p 5 f s → (s.kcs f).schedule.multi = true → ∃ t, exec (.stop p) s = .next t ∧
      t.facet f = { x with stopAt := some (match x.stopAt with
        | some u => min (leAt b 40 8 / 256) u
        | none => leAt b 40 8 / 256) } ∧ OnlyFacet f (fun _ => False) s t) ∧
    (TimeFor p 6 f s → (s.kcs f).schedule.multi = true → ∃ t, exec (.late p) s = .next t ∧
      t.facet f = { x with lateness := x.lateness ++
        [(x.startBeat + (if leAt b 40 8 / 256 < x.startBeat then 4096 else 8192), leAt b 32 2)] } ∧
      OnlyFacet f (fun _ => False) s t) ∧
    ((s.kcs f).schedule.multi = false →
      (TimeFor p 5 f s → ∃ t, exec (.stop p) s = .next t ∧ OnlyRegs (fun _ => False) s t) ∧
      (TimeFor p 6 f s → ∃ t, exec (.late p) s = .next t ∧ OnlyRegs (fun _ => False) s t)) ∧
    (s.refState = 1 ∨ s.refState = 5 → ∃ t, exec .refLoss s = .next t ∧ t.refState = 2 ∧
      t.sys = { s.sys with clk := { s.sys.clk with lostAt := s.dt } } ∧ bit (t.reg Reg.CLK_EVT) 0 = true ∧
      t = { s with sys := t.sys, regs := t.regs, out := t.out } ∧ RegsBut (fun z => z = clk ∨ z = Reg.CLK_EVT) s t) ∧
    (s.refState = 2 → ∃ t, exec .holdoverLong s = .next t ∧ t.refState = 3 ∧ bit (t.reg Reg.CLK_EVT) 1 = true ∧
      t.sys.clk.told = true ∧ t.mem = s.mem ∧ t.facets = s.facets) ∧
    (s.refState = 3 → ∃ t, exec .schedStop s = .next t ∧ t.refState = 4 ∧ bit (t.reg Reg.CLK_EVT) 2 = true ∧
      ∀ g, t.facet g = if g ∈ s.multiFacets then { s.facet g with stopAt := some (s.groupTime g + 4096) } else s.facet g) ∧
    (s.refState = 2 → ∃ t, exec .refReturn s = .next t ∧ t.refState = 1 ∧
      fld (t.reg clk) 15 8 = min 255 (s.rf clk 15 8 + 1) ∧ OnlyRegs (fun z => z = clk) s t) ∧
    (s.refState = 3 ∨ s.refState = 4 → ∃ t, exec .refReturn s = .next t ∧ t.refState = 5 ∧
      t.reg Reg.HOLD_US = BitVec.ofNat 32 s.holdUs ∧ OnlyRegs (fun z => z = clk ∨ z = Reg.HOLD_US) s t) ∧
    (s.refState = 5 → (s.role ≠ 2 ∨ bit (s.reg clk) 28 = true) → ∃ t, exec .refBack s = .next t ∧ t.refState = 1 ∧
      bit (t.reg Reg.CLK_EVT) 3 = true ∧ t.reg Reg.HOLD_US = 0 ∧ t.mem = s.mem ∧ t.facets = s.facets) ∧
    ∃ t, exec (.dtLo who) s = .next t ∧ t.reg Reg.DT_HI = BitVec.ofNat 32 (s.dt / 2 ^ 32) ∧
      Output.read (BitVec.ofNat 32 s.dt) ∈ t.out ∧ OnlyRegs (fun z => z = Reg.DT_HI) s t

/-- R377, R387 to R396, R401, R404, R449, R450: a power-on leaves no cell contents, no memory and device time 0, and
reads the strap; a pin reset unbinds everything to the reach of its fuses; the root's lock starts device time, and 10 ms
without a reference is an event; firmware that verifies runs, else the ROM waits for an image, which UPDATE then gives it; an
update of running firmware begins with its shadow. -/
def Obligations.ResetsStartAndStopTheModule : Prop :=
  ∀ (e : StartEnv) (b : Bytes) (sig : SigCheck) (target : BitVec 16) (words : List Word) (s : State),
    let r := s.sys.rst
    let code := median e.strap
    let strap := BitVec.ofNat 32 (code * 2 ^ 8 + 16 * b2n (marginal code) + code / 16)
    let old := tget TrimRec.empty r.records target.toNat
    (s.pwrState ≠ 5 → s.pwrState ≠ 6 → s.sys.pwr.opened = false → s.sys.pwr.inhibit = false →
      ∃ t, exec (.powerOn e) s = .next t ∧ t.cells = [] ∧ t.mem = [] ∧ t.facets = [] ∧ t.qps = [] ∧ t.dt = 0 ∧
        (r.rstLow = true → t.sys.rst.held = true) ∧
        (r.rstLow = false → t.reg Reg.STRAP = strap ∧ t.sys.rst.load = some (e.trimOne, e.trimNone) ∧
          fld (t.reg Reg.TRIM_STAT) 31 29 = 1)) ∧
    (r.rstLow = false → s.reachChip = false → ∃ t, exec .pinReset s = .next t ∧ t.sys.rst.rstLow = true ∧
      t.sys.rst.held = r.held ∧ t.facets = [] ∧ t.blocks = [] ∧ t.regions = [] ∧ t.dt = s.dt ∧
      fld (t.reg Reg.RST_CAUSE) 31 28 = 6 ∧ bit (t.reg Reg.RST_EVT) 0 = true) ∧
    (r.rstLow = false → s.reachChip = true → ∃ t, exec .pinReset s = .next t ∧ t.sys.rst.rstLow = true ∧
      t.sys.rst.held = true ∧ t.facets = [] ∧ t.mem = [] ∧ t.dt = (if s.keepDtc then s.dt else 0) ∧
      t.nv = s.nv ∧ fld (t.reg Reg.RST_CAUSE) 31 28 = 7 ∧ bit (t.reg Reg.RST_EVT) 0 = true) ∧
    (r.rstLow = true → s.isOff = false → ∃ t, exec (.resetRelease e) s = .next t ∧ t.sys.rst.rstLow = false ∧
      t.sys.rst.held = false ∧ t.sys.host.extest = false ∧ (r.held = true → t.reg Reg.STRAP = strap) ∧
      (r.held = false → OnlyRegs (fun _ => False) { s with sys := t.sys } t)) ∧
    (s.sys.clk.locked = false → r.held = false →
      (∃ t, exec .rootLock s = .next t ∧ t.dt = 0 ∧ t.sys.clk.locked = true ∧ t.sys.clk.absent = false ∧ t.refState = 1 ∧
        t.sys.rst.load = none ∧ t.mem = s.mem ∧ t.cells = s.cells ∧
        (r.load = none → t = { s with sys := t.sys, regs := t.regs, out := t.out } ∧
          RegsBut (fun z => z = Reg.CLK_STAT) s t)) ∧
      ∃ t, exec .refAbsent s = .next t ∧ t.sys.clk = { s.sys.clk with absent := true } ∧
        bit (t.reg Reg.CLK_EVT) 7 = true ∧ t.sys.rst.load = none ∧ t.mem = s.mem ∧ t.cells = s.cells ∧
        (r.load = none → t = { s with sys := t.sys, regs := t.regs, out := t.out } ∧
          RegsBut (fun z => z = Reg.CLK_EVT) s t)) ∧
    (s.inhibited = false → ∃ t, exec (.trimWrite target words) s = .next t ∧
      tget TrimRec.empty t.sys.rst.records target.toNat =
        (if old.seqB < old.seqA then { old with seqB := old.seqA + 1, dataB := words }
         else { old with seqA := old.seqB + 1, dataA := words }) ∧ t.mem = s.mem) ∧
    (s.inhibited = true → ∃ t, exec (.trimWrite target words) s = .next t ∧
      t.sys = { s.sys with rst := { r with due := r.due ++ [(target.toNat, words)] } } ∧
      OnlyRegs (fun _ => False) { s with sys := t.sys } t) ∧
    (s.mayBoot = true → r.load = none → strapFlash (s.rf Reg.STRAP 3 0) = false → ∃ t,
      exec (.firmwareBoot b true sig) s = .next t ∧ t.sys.cnd = { s.sys.cnd with romBoot := true } ∧
      bit (t.reg Reg.CND_EVT) 7 = true ∧ t.fwReady = false ∧
      OnlyRegs (fun z => z = Reg.CND_EVT) { s with sys := t.sys } t) ∧
    (s.mayBoot = true → r.load = none → strapFlash (s.rf Reg.STRAP 3 0) = true →
      (s.imageBad b true sig = none → s.sys.host.goHeld = [] → ∃ t, exec (.firmwareBoot b true sig) s = .next t ∧
        t.fwReady = true ∧ t.sys.cnd.flash = imageOf b ∧ t.sys.cnd.romBoot = false ∧
        (s.claimLevel 0 ≠ 0 → t.imageIn 0 = imageOf b) ∧ t.mem = s.mem) ∧
      (∀ c, s.imageBad b true sig = some c → ∃ t, exec (.firmwareBoot b true sig) s = .next t ∧
        t.sys.cnd = { s.sys.cnd with romBoot := true } ∧ bit (t.reg Reg.CND_EVT) 7 = true ∧ t.fwReady = false ∧
        OnlyRegs (fun z => z = Reg.CND_EVT ∨ z = Reg.SEC_EVT) { s with sys := t.sys } t)) ∧
    (s.sys.cnd.romBoot = true → s.imageBad b true sig = none → s.sys.host.goHeld = [] →
      ∃ t, exec (.update b true sig) s = .next t ∧ t.fwReady = true ∧ t.updStep = 6 ∧ t.sys.cnd.romBoot = false ∧
        t.sys.cnd.new = some (imageOf b) ∧ (s.claimLevel 0 ≠ 0 → t.imageIn 0 = imageOf b) ∧ t.mem = s.mem) ∧
    (s.sys.cnd.romBoot = false → s.fwReady = true → s.loader.busy = none → s.standby = 3 →
      s.imageBad b true sig = none → leAt b 20 2 ≤ (s.imageIn s.activeUnit).format →
      (s.imageIn s.activeUnit).format ≤ leAt b 22 2 →
      ∃ t, exec (.update b true sig) s = .next t ∧ t.updStep = 3 ∧ t.standby = 4 ∧
        t.sys.cnd = { s.sys.cnd with new := some (imageOf b), copies := 0 } ∧ fld (t.reg Reg.CND_CMD) 31 31 = 0 ∧
        fld (t.reg Reg.CND_CMD) 21 20 = 0 ∧
        OnlyRegs (fun z => z = Reg.CND_CMD ∨ z = Reg.UPD_STAT ∨ z = Reg.CND_STAT) { s with sys := t.sys } t)

/-- R405, R407 to R414, R416, R417: what a supply, a cap, a domain and a shut-down do. A shut-down of any cause leaves
every switched domain off; the inhibit holds writes back, and its end makes them; a commanded one waits for the facets that run
frames; a domain command ends with a result. -/
def Obligations.SupplyAndDomainsFollowTheirRules : Prop :=
  ∀ (phase : Fin 8) (d : Fin 48) (mean amps volts : Nat) (s : State),
    let w := s.sys.pwr
    let stat := Reg.PWR_STAT
    let off (t : State) : Prop := ∀ k, k < 48 → t.domOn k = false
    let onlyPwr (p : Nat → Prop) (t : State) : Prop :=
      t = { s with sys := { s.sys with pwr := t.sys.pwr }, regs := t.regs, out := t.out } ∧ RegsBut p s t
    let refused (n : Nat) (t : State) : Prop := fld (t.reg Reg.DOM_CMD) 29 28 = n ∧ bit (t.reg Reg.PWR_EVT) 10 = true ∧
      bit (t.reg Reg.DOM_CMD) 31 = false ∧ OnlyRegs (fun z => z = Reg.DOM_CMD ∨ z = Reg.PWR_EVT ∨ z = Reg.PWR_FIRST) s t
    (w.service = false → ∃ t, exec .serviceStart s = .next t ∧ t.pwrState = 0 ∧
      t.sys.pwr = { w with service := true, opened := false, tries := 0 } ∧ onlyPwr (fun z => z = stat) t) ∧
    (∃ t, exec .serviceStop s = .next t ∧ t.sys.pwr.service = false ∧ t.cells = [] ∧ t.mem = [] ∧ t.facets = [] ∧
      t.nv = s.nv ∧ t.sys.pwr.record = 0) ∧
    (w.inhibit = false → ∃ t, exec .nvInhibit s = .next t ∧ t.sys.pwr = { w with inhibit := true } ∧
      bit (t.reg Reg.PWR_EVT) 5 = true ∧ t.pwrState = (if s.pwrState = 1 then 2 else s.pwrState) ∧
      onlyPwr (fun z => z = stat ∨ z = Reg.PWR_EVT ∨ z = Reg.PWR_FIRST) t) ∧
    (w.inhibit = true → ∃ t, exec .inhibitClear s = .next t ∧ t.sys.pwr = { w with inhibit := false } ∧ t.nvDue = [] ∧
      t.sys.rst.due = [] ∧ t.sys.cnd.flashDue = false ∧ (∀ m, m < 20 → (t.stack m).commitDue = false) ∧
      (∀ b, b < 32 → (t.bank b).storeDue = false) ∧ t.pwrState = (if s.pwrState = 2 then 1 else s.pwrState)) ∧
    (w.inhibit = true → s.sys.rst.due = [] → (∀ m, m < 20 → (s.stack m).commitDue = false) →
      s.sys.cnd.flashDue = false →
      ∃ t, exec .inhibitClear s = .next t ∧
        (∀ a ∈ s.nvDue, a ≠ stat → tget (resetValue a &&& nvMask a) t.nv a = s.reg a &&& nvMask a) ∧
        RegsBut (fun z => z = stat) s t) ∧
    (s.isOff = false →
      (∃ t, exec .sagShutdown s = .next t ∧ t.pwrState = 4 ∧ t.sys.pwr.record = w.record ||| bitW 0 ∧ off t) ∧
      (∃ t, exec .ov s = .next t ∧ t.pwrState = 4 ∧ t.sys.pwr.opened = true ∧
        t.sys.pwr.record = w.record ||| bitW 2 ||| bitW 0 ∧ off t) ∧
      (∃ t, exec .busFault s = .next t ∧ bit (t.reg Reg.PWR_EVT) 7 = true ∧ off t ∧ t.pwrState = s.pwrState) ∧
      (s.anyFrames = false → ∃ t, exec .commandedShutdown s = .next t ∧ t.pwrState = 6 ∧
        bit (t.reg Reg.PWR_CMD) 31 = false ∧ off t) ∧
      (s.anyFrames = true → ∃ t, exec .commandedShutdown s = .next t ∧ t.sys.pwr = { w with ordered := true } ∧
        bit (t.reg Reg.PWR_CMD) 31 = true ∧ onlyPwr (fun z => z = Reg.PWR_CMD) t) ∧
      (w.badPhases.contains phase.val = false → 3 ≤ w.badPhases.length → w.badPhases.length < 8 →
        ∃ t, exec (.phaseFault phase) s = .next t ∧ t.pwrState = 4 ∧ bit (t.reg Reg.PWR_EVT) 6 = true ∧ off t) ∧
      (w.badPhases.contains phase.val = false → w.badPhases.length ≤ 2 →
        ∃ t, exec (.phaseFault phase) s = .next t ∧ t.sys.pwr = { w with badPhases := insertNat phase.val w.badPhases } ∧
          fld (t.reg stat) 27 24 = 7 - w.badPhases.length ∧ fld (t.reg stat) 12 0 = t.capForce ∧
          bit (t.reg Reg.PWR_EVT) 6 = true ∧
          onlyPwr (fun z => z = stat ∨ z = Reg.PWR_EVT ∨ z = Reg.PWR_FIRST) t)) ∧
    (bit w.record 2 = true → ∃ t, exec .inputStageClose s = .next t ∧ t.sys.pwr = { w with opened := false } ∧
      onlyPwr (fun _ => False) t) ∧
    (∃ t, exec .inrush s = .next t ∧
      t.sys.pwr = { w with opened := true, tries := w.tries + 1, record := w.record ||| bitW 4 } ∧
      bit (t.reg Reg.PWR_EVT) 4 = true ∧ onlyPwr (fun z => z = Reg.PWR_EVT ∨ z = Reg.PWR_FIRST) t) ∧
    (∃ t, exec .inrushRetry s = .next t ∧
      t.sys.pwr = { w with opened := if w.tries < 3 then false else w.opened } ∧ onlyPwr (fun _ => False) t) ∧
    (∀ above : Bool, ∃ t, exec (.cap mean above) s = .next t ∧ fld (t.reg Reg.PWR_IN) 15 0 = min 65535 mean ∧
      t.capStage = (if above = true ∧ s.capForce < mean then min 8 (s.capStage + 1)
        else if above = false ∧ mean * 100 < s.capForce * 95 then s.capStage - 1 else s.capStage) ∧
      t = { s with regs := t.regs, out := t.out }) ∧
    (∃ t, exec (.current ⟨amps, volts⟩) s = .next t ∧ t.capStage = (if 1900 < amps then 8 else s.capStage) ∧
      (1900 < amps → bit (t.reg Reg.PWR_EVT) 9 = true) ∧ fld (t.reg Reg.PWR_MEAS) 31 16 = min 65535 amps ∧
      fld (t.reg Reg.PWR_MEAS) 15 0 = min 65535 volts ∧
      t = { s with regs := t.regs, out := t.out }) ∧
    (s.inhibited = false → s.domSoon d.val = true → s.domHeld d.val = false → s.isOff = false →
      ∃ t, exec (.domOn d) s = .next t ∧ t.sys.pwr = (if s.domOn d.val = true ∨ w.coming.contains d.val = true then w
          else { w with coming := w.coming ++ [d.val] }) ∧
        fld (t.reg Reg.DOM_CMD) 31 28 = (s.rf Reg.DOM_CMD 30 30) * 4 ∧ onlyPwr (fun z => z = Reg.DOM_CMD) t) ∧
    (s.inhibited = true ∨ s.domSoon d.val = false ∨ s.domHeld d.val = true ∨ s.isOff = true →
      ∃ t, exec (.domOn d) s = .next t ∧ refused (if s.inhibited then 3 else 2) t) ∧
    (s.domBound d.val = true ∨ s.domNeeded d.val = true →
      ∃ t, exec (.domOff d) s = .next t ∧ refused (if s.domBound d.val then 1 else 2) t) ∧
    (s.domBound d.val = false → s.domNeeded d.val = false →
      ∃ t, exec (.domOff d) s = .next t ∧ t.domOn d.val = false ∧ fld (t.reg Reg.DOM_CMD) 29 28 = 0 ∧
        bit (t.reg Reg.DOM_CMD) 31 = false) ∧
    (w.coming.contains d.val = true → s.domReady d.val = true → s.domHeld d.val = false →
      ∀ bad, ∃ t, exec (.domainUp ⟨d, bad⟩) s = .next t ∧ t.domOn d.val = true ∧
        t.sys.pwr = { w with coming := w.coming.filter (· != d.val) } ∧
        fld (t.reg (Reg.DOM_STAT d.val)) 15 0 = min 65535 (s.rf (Reg.DOM_STAT d.val) 15 0 + 1)) ∧
    (s.pwrState = 6 → ∃ t, exec .restart s = .next t ∧ t.pwrState = 0 ∧ bit (t.reg Reg.PWR_CMD) 31 = false ∧
      OnlyRegs (fun z => z = stat ∨ z = Reg.PWR_CMD) s t)

/-- R418, R419, R423, R424, R426, R427, R431: one sample of a quadrant's sensor sets its reading, its stage by the stage
rule, and the temperature shown, while no part is at its shut-down temperature; the second sample in a row at 118 °C
shuts the module down. One sample of a region shows its estimate and the reading of the base beneath it (R420).
R435, R437 to R441, R450 to R452: the standby takes over when the active unit's heartbeat stops, and on order at the
next device frame boundary; without a standby the module asks for a reset; a standby that is reset reloads and, if
it runs the active unit's image (R436), is READY, with the levels back at a boundary; copies make it READY, or send
it back when they differ; an update goes from its shadow through the switch to the flash, or fails with its cause. -/
def Obligations.ConductorsAndQuadrantsFollowTheirRules : Prop :=
  (
    (∀ (n : Nat) (r : RegionTemps) (s : State),
      let u := forEach (r.logic.zipIdx.take 4) s (fun v e => v.read n (logicSensor n e.2) e.1)
      let u := forEach (r.mid.zipIdx.take 2) u (fun v e => v.read n (midSensor n e.2) e.1)
      let u := u.read n (baseSensor n) r.base
      n < 64 → (∀ p, (s.part p).hot = 0) →
      ∃ t, exec (.tempSample ⟨[(n, r)], [], [], []⟩) s = .next t ∧ (∀ k, t.sensor k = u.sensor k) ∧
        fld (t.reg (Reg.THM_RT n)) 15 8 = shown (u.tEst n r.power) ∧
        fld (t.reg (Reg.THM_RT n)) 7 0 = shown (fine (u.tBase n)) ∧ t.pwrState = s.pwrState ∧ t.mem = s.mem ∧
        t.facets = s.facets) ∧
    ∀ (k : Nat) (v : Int) (s : State),
      let x := s.part (0x40 + k)
      let q := fine v
      k < 4 → (s.sensor (quadSensor k)).failed = false → -40000 ≤ v → v ≤ 150000 →
      (v < 118000 → (∀ p, p ≠ 0x40 + k → (s.part p).hot < 2) →
        ∃ t, exec (.tempSample ⟨[], [(k, some v)], [], []⟩) s = .next t ∧
          t.sensor (quadSensor k) = ⟨v, 0, false⟩ ∧
          (t.part (0x40 + k)).stage = (stageAfter x.stage x.quiet 0 q (slopeTrigger (slopeOf x.hist q) q)).1 ∧
          (t.part (0x40 + k)).hist = (q :: x.hist).take 10 ∧ fld (t.reg (Reg.THM_Q k)) 7 0 = shown q ∧
          t.pwrState = s.pwrState ∧ t.mem = s.mem ∧ t.facets = s.facets) ∧
      (118000 ≤ v → 1 ≤ x.hot →
        ∃ t, exec (.tempSample ⟨[], [(k, some v)], [], []⟩) s = .next t ∧ t.pwrState = 5)) ∧
  (∀ (cause : Byte) (s : State),
      let c := s.sys.cnd
      let u := s.activeUnit
      let onlyCnd (p : Nat → Prop) (t : State) : Prop := OnlyRegs p { s with sys := { s.sys with cnd := t.sys.cnd } } t
      let begun (t : State) : Prop := t.mem = s.mem ∧ ∀ g, t.facet g = if g < 64 then
        { s.facet g with load := (s.facet g).load.map (fun w => { w with start := s.dt }) } else s.facet g
      (s.standby = 3 ∨ s.standby = 4 → ∃ t, exec .switchover s = .next t ∧ t.activeUnit = 1 - u ∧ t.standby = 1 ∧
        fld (t.reg Reg.SWITCHES) 31 0 = min (2 ^ 32 - 1) (s.rf Reg.SWITCHES 31 0 + 1) ∧
        bit (t.reg Reg.CND_EVT) 0 = true ∧ bit (t.reg Reg.CND_EVT) 1 = true ∧ begun t) ∧
      (s.standby ≠ 3 → s.standby ≠ 4 → ∃ t, exec .switchover s = .next t ∧ bit (t.reg Reg.CND_STAT) 27 = true ∧
        bit (t.reg Reg.CND_EVT) 1 = true ∧ bit (t.reg Reg.CND_EVT) 3 = true ∧
        t = { s with regs := t.regs, out := t.out }) ∧
      (c.romBoot = false → s.standby = 3 → ∃ t, exec .switch s = .next t ∧ bit (t.reg Reg.CND_CMD) 31 = true ∧
        t.sys.cnd = { c with switchDue := true } ∧ onlyCnd (fun z => z = Reg.CND_CMD) t) ∧
      (c.romBoot = true ∨ s.standby ≠ 3 → ∃ t, exec .switch s = .next t ∧ bit (t.reg Reg.CND_CMD) 31 = false ∧
        fld (t.reg Reg.CND_CMD) 21 20 = (if c.romBoot then 3 else 1) ∧
        OnlyRegs (fun z => z = Reg.CND_CMD ∨ z = Reg.CND_EVT) s t) ∧
      (c.switchDue = true → s.standby = 3 → s.unitsBoundary.activeUnit = 1 - u ∧ s.unitsBoundary.standby = 1 ∧
        bit (s.unitsBoundary.reg Reg.CND_EVT) 0 = true ∧ fld (s.unitsBoundary.reg Reg.CND_CMD) 21 20 = 0 ∧
        bit (s.unitsBoundary.reg Reg.CND_CMD) 31 = false ∧ begun s.unitsBoundary) ∧
      (c.switchDue = false → c.levelsDue = true →
        s.unitsBoundary.claimLevel (1 - u) = 1 ∧ s.unitsBoundary.claimLevel u = 2 ∧
        s.unitsBoundary.sys.cnd = { c with levelsDue := false } ∧ onlyCnd (fun z => z = Reg.CND_CLAIM) s.unitsBoundary) ∧
      (c.romBoot = false → ∃ t, exec .standbyRestart s = .next t ∧ t.standby = 1 ∧ t.activeUnit = u ∧
        fld (t.reg Reg.CND_CMD) 21 20 = 0 ∧ bit (t.reg Reg.CND_CMD) 31 = false ∧
        onlyCnd (fun z => z = Reg.CND_CMD ∨ z = Reg.CND_STAT ∨ z = Reg.UPD_STAT ∨ z = Reg.CND_EVT ∨ z = Reg.SEC_EVT) t) ∧
      (s.standby = 2 → c.replay = false → c.imageA = c.imageB → ∀ m, ∃ t, exec (.frameCopy m) s = .next t ∧ t.standby = 3 ∧
        OnlyRegs (fun z => z = Reg.CND_STAT) s t) ∧
      (s.standby = 3 → (∃ t, exec (.frameCopy true) s = .next t ∧ OnlyRegs (fun _ => False) s t) ∧
        ∃ t, exec (.frameCopy false) s = .next t ∧ t.standby = 2 ∧ t.sys.cnd = { c with replay := true } ∧
          bit (t.reg Reg.CND_EVT) 2 = true ∧ onlyCnd (fun z => z = Reg.CND_STAT ∨ z = Reg.CND_EVT) t) ∧
      (s.standby = 4 → s.updStep = 3 →
        (∃ t, exec (.frameCopy true) s = .next t ∧ t.sys.cnd = { c with copies := c.copies + 1 } ∧
          onlyCnd (fun _ => False) t) ∧
        ∃ t, exec (.frameCopy false) s = .next t ∧ t.updStep = 0 ∧ fld (t.reg Reg.UPD_STAT) 23 16 = 6 ∧ t.standby = 1 ∧
          bit (t.reg Reg.CND_EVT) 2 = true ∧ bit (t.reg Reg.CND_EVT) 5 = true ∧
          onlyCnd (fun z => z = Reg.UPD_STAT ∨ z = Reg.CND_EVT ∨ z = Reg.CND_STAT) t) ∧
      (s.standby = 1 →
        let image := if s.updStep = 5 then c.new.getD c.flash else c.flash
        (∃ t, exec (.standbyReady true) s = .next t ∧ t.standby = (if image = s.imageIn u then 3 else 2) ∧
          t.sys.cnd.levelsDue = (c.levelsDue || image == s.imageIn u) ∧ t.imageIn (1 - u) = image ∧
          t.updStep = (if s.updStep = 5 then 6 else s.updStep) ∧
          onlyCnd (fun z => z = Reg.CND_STAT ∨ z = Reg.FW_VER (1 - u) ∨ (s.updStep = 5 ∧ z = Reg.UPD_STAT)) t) ∧
        ∃ t, exec (.standbyReady false) s = .next t ∧ t.standby = 5 ∧ t.claimLevel (1 - u) = 0 ∧
          bit (t.reg Reg.CND_EVT) 1 = true ∧
          OnlyRegs (fun z => z = Reg.CND_STAT ∨ z = Reg.CND_CLAIM ∨ z = Reg.CND_EVT) s t) ∧
      (s.updStep = 3 → 16 ≤ c.copies → ∃ t, exec .updateSwitch s = .next t ∧ t.updStep = 5 ∧ t.activeUnit = 1 - u ∧
        t.imageIn (1 - u) = c.new.getD FwImage.none ∧ t.standby = 1 ∧ begun t) ∧
      (s.updStep = 2 ∨ s.updStep = 3 → ∃ t, exec (.updFail cause) s = .next t ∧ t.updStep = 0 ∧
        fld (t.reg Reg.UPD_STAT) 23 16 = cause.toNat ∧ bit (t.reg Reg.CND_EVT) 5 = true ∧
        t.sys.cnd = { c with new := none, copies := 0, flashDue := false } ∧
        t.standby = (if s.standby = 4 then 1 else s.standby) ∧
        onlyCnd (fun z => z = Reg.UPD_STAT ∨ z = Reg.CND_EVT ∨ z = Reg.SEC_EVT ∨ z = Reg.CND_STAT) t) ∧
      (s.updStep = 6 → s.inhibited = false → ∃ t, exec .updDone s = .next t ∧ t.updStep = 7 ∧
        t.sys.cnd = { c with flash := c.new.getD c.flash, new := none, copies := 0, flashDue := false } ∧
        bit (t.reg Reg.CND_EVT) 4 = true ∧ onlyCnd (fun z => z = Reg.UPD_STAT ∨ z = Reg.CND_EVT) t) ∧
      (s.updStep = 6 → s.inhibited = true → ∃ t, exec .updDone s = .next t ∧ t.sys.cnd = { c with flashDue := true } ∧
        bit (t.reg Reg.CND_EVT) 6 = true ∧ onlyCnd (fun z => z = Reg.CND_EVT) t) ∧
      (c.replay = true → ∃ t, exec .standbyReplayEnd s = .next t ∧ t.standby = 3 ∧ t.sys.cnd = { c with replay := false } ∧
        onlyCnd (fun z => z = Reg.CND_STAT) t))

/-- R459, R460, R461, R465: a security command that passes every check consumes the nonce, shows RESULT 0 and has its
effect; one that fails a check shows its code and changes nothing but events and its result. -/
def Obligations.SecurityCommandsActOrShowTheirCode : Prop :=
  ∀ (b : Bytes) (sig : SigCheck) (x : Blob) (s : State),
    let stat := Reg.SEC_STAT
    let cmd := Reg.SEC_CMD
    let done (op : Nat) (t : State) : Prop := t.sys.sec.nonce = none ∧ fld (t.reg cmd) 7 4 = 0 ∧ fld (t.reg cmd) 3 0 = op ∧
      bit (t.reg cmd) 31 = false ∧ bit (t.reg Reg.SEC_EVT) 0 = true ∧ (s.policy = 0 → bit (t.reg stat) 28 = false) ∧
      ∀ a, t.memByte a = s.memByte a
    let may (op : Nat) : Prop := parseBlob op b = some x ∧ s.secBad op b sig = none
    (may 1 → ∃ t, exec (.takeOwnership b sig) s = .next t ∧ done 1 t ∧ t.lifecycle = 1 ∧ t.slotValid 2 = true ∧
      t.keysIn 2 x.rsaKey x.slhKey = true) ∧
    (may 2 → ∃ t, exec (.addKey b sig) s = .next t ∧ done 2 t ∧ t.slotValid x.slot = true ∧
      t.keysIn x.slot x.rsaKey x.slhKey = true ∧ t.lifecycle = 1) ∧
    (may 3 → ∃ t, exec (.revokeKey b sig) s = .next t ∧ done 3 t ∧ t.slotValid x.slot = false ∧
      t.keysIn x.slot 0 0 = true ∧ t.lifecycle = 1) ∧
    (may 4 → ∃ t, exec (.raiseSvn b sig) s = .next t ∧ done 4 t ∧
      fld (t.reg Reg.SVN_MIN) 7 0 = max (s.rf Reg.SVN_MIN 7 0) (nbits x.value 7 0) ∧
      fld (t.reg Reg.SVN_MIN) 23 16 = max (s.rf Reg.SVN_MIN 23 16) (nbits x.value 23 16)) ∧
    (may 5 → ∃ t, exec (.release b sig) s = .next t ∧ done 5 t ∧ t.lifecycle = 0 ∧
      ∀ n, 2 ≤ n → n ≤ 5 → t.slotValid n = false ∧ t.keysIn n 0 0 = true) ∧
    (may 6 → ∃ t, exec (.debugUnlock b sig) s = .next t ∧ done 6 t ∧ t.lifecycle = 2 ∧ t.zeroised = true ∧
      bit (t.reg stat) 22 = true ∧ t.sys.sec.unlocks = s.sys.sec.unlocks + 1) ∧
    (may 7 → ∃ t, exec (.decommission b sig) s = .next t ∧ done 7 t ∧ t.lifecycle = 3 ∧ t.zeroised = true) ∧
    ∀ c ∈ [(1, Instr.takeOwnership b sig), (2, .addKey b sig), (3, .revokeKey b sig), (4, .raiseSvn b sig),
        (5, .release b sig), (6, .debugUnlock b sig), (7, .decommission b sig)],
      ∀ code, s.secBad c.1 b sig = some code →
        ∃ t, exec c.2 s = .next t ∧ fld (t.reg cmd) 7 4 = code ∧ fld (t.reg cmd) 3 0 = c.1 ∧
          bit (t.reg Reg.SEC_EVT) 1 = true ∧ OnlyRegs (fun z => z = cmd ∨ z = Reg.SEC_EVT) s t

/-- R455 to R457, R459, R461, R462: each nonce read is the one expected next; presence follows its pin by its policy; a
seal that opens zeroises the keys and unbinds every facet; attestation answers each request, and signs unless the key
store is gone: the signature is a free value, kept for DUAL_SIG. -/
def Obligations.PresenceSealAndAttestationAnswer : Prop :=
  ∀ (who : Requester) (fault : Bool) (b n : Bytes) (i : Byte) (s : State),
    let stat := Reg.SEC_STAT
    let y := s.sys.sec
    let onlySec (p : Nat → Prop) (t : State) : Prop := OnlyRegs p { s with sys := { s.sys with sec := t.sys.sec } } t
    let block (i : Byte) : Option Bytes :=
      if i = 0 then some [70#8]
      else if i = 255 then some ((List.range 80).filterMap s.measurement).flatten else s.measurement i.toNat
    let answers (d : Bytes) (t : State) : Prop := t = { s with out := s.out ++ [.spdm d] }
    let failed (t : State) : Prop := t = { s with out := s.out ++ [.spdmError] }
    let signedBy (d : Bytes) (t : State) : Prop :=
      t = { s with out := s.out ++ [.spdm (d ++ Config.freeSignature 0 s.free)], free := s.free + 1,
                   sys := { s.sys with sec := { y with signed := some d } } }
    (∃ t, exec (.secNonce who) s = .next t ∧ t.sys.sec = { y with nonce := some (t.reg Reg.SEC_NONCE) } ∧
      Output.read (t.reg Reg.SEC_NONCE) ∈ t.out ∧ t.free = s.free + 1 ∧
      t = { s with sys := { s.sys with sec := t.sys.sec }, free := t.free, regs := t.regs, out := t.out } ∧
      RegsBut (fun z => z = Reg.SEC_NONCE) s t) ∧
    (∃ t, exec .presence s = .next t ∧ t.sys.sec = { y with low := true } ∧
      (s.policy < 2 → bit (t.reg stat) 28 = true) ∧ onlySec (fun z => s.policy < 2 ∧ z = stat) t) ∧
    (∃ t, exec .presenceRelease s = .next t ∧ t.sys.sec = { y with low := false } ∧
      (s.policy = 1 → bit (t.reg stat) 28 = false) ∧ onlySec (fun z => s.policy = 1 ∧ z = stat) t) ∧
    (s.policy = 0 → ∃ t, exec .presenceWindowClose s = .next t ∧ bit (t.reg stat) 28 = false ∧
      OnlyRegs (fun z => z = stat) s t) ∧
    (s.policy ≠ 0 → exec .presenceWindowClose s = .next s) ∧
    (s.rf stat 25 24 ≠ 0 → exec (.sealOpen fault) s = .next s) ∧
    (s.rf stat 25 24 = 0 → ∃ t, exec (.sealOpen fault) s = .next t ∧ fld (t.reg stat) 25 24 = (if fault then 2 else 1) ∧
      t.zeroised = true ∧ bit (t.reg Reg.SEC_EVT) 2 = true ∧ bit (t.reg Reg.SEC_EVT) 3 = true ∧
      fld (t.reg Reg.TAMPER) 31 0 = min (2 ^ 32 - 1) (s.rf Reg.TAMPER 31 0 + 1) ∧
      ∀ f, f < 64 → t.facetState f = 0) ∧
    (∃ t, exec .sealClose s = .next t ∧ fld (t.reg stat) 25 24 = 0 ∧ OnlyRegs (fun z => z = stat) s t) ∧
    (∃ t, exec (.spdmRequest (.plain b)) s = .next t ∧ answers (Config.spdmAnswer b) t) ∧
    (∀ signed, block i = none → ∃ t, exec (.spdmRequest (.measurements i signed n)) s = .next t ∧ failed t) ∧
    (∀ d, block i = some d → (∃ t, exec (.spdmRequest (.measurements i false n)) s = .next t ∧ answers d t) ∧
      ∃ t, exec (.spdmRequest (.measurements i true n)) s = .next t ∧
        if s.zeroised then failed t else signedBy d t) ∧
    (∃ t, exec (.spdmRequest (.challenge b)) s = .next t ∧
      if s.zeroised then failed t else signedBy (Config.spdmAnswer b) t) ∧
    (s.zeroised = true ∨ y.signed = none → ∃ t, exec .dualSig s = .next t ∧ failed t) ∧
    (s.zeroised = false → y.signed.isSome = true → ∃ t, exec .dualSig s = .next t ∧
      t = { s with out := s.out ++ [.spdm (Config.freeSignature 1 s.free)], free := s.free + 1 }) ∧
    ∃ t, exec .dualCert s = .next t ∧ t = { s with out := s.out ++ [.spdm Config.freeChain] }

/-- R467 to R469, R475, R500: a training that links shows its rate and width, and one without flit mode leaves no link;
D3hot and the return from it, on which every vector with its summary at 1 sends its message; a host
reset clears host interface state alone; an access that is no aligned word is counted, and a 64-bit access of the MSI-X
table is served, with vector control's reserved bits at 0; EXTEST holds only in reset. -/
def Obligations.HostLinkAndTestPortFollowTheirRules : Prop :=
  ∀ (who : Requester) (kind : HostReset) (rate width : BitVec 4) (flit : Bool) (a : BitVec 26) (n : Nat)
      (data : List Word) (s : State),
    let h := s.sys.host
    let link := Reg.GLB_LINK
    let top := State.rateCode (strapRate (s.rf Reg.STRAP 3 0))
    let lanes := width = 1#4 ∨ width = 2#4 ∨ width = 4#4
    let wide := 0x80000 ≤ a.toNat ∧ a.toNat + 8 ≤ 0x80808 ∧ a.toNat % 8 = 0 ∧ n = 2
    let onlyHost (p : Nat → Prop) (t : State) : Prop := OnlyRegs p { s with sys := { s.sys with host := t.sys.host } } t
    (s.sys.rst.held = true → exec (.linkTraining rate width flit) s = .next s) ∧
    (s.sys.rst.held = false → rate ≠ 0#4 → lanes →
      ∃ t, exec (.linkTraining rate width true) s = .next t ∧ t.sys.host = { h with link := true } ∧
        fld (t.reg link) 31 28 = min rate.toNat top ∧ fld (t.reg link) 27 24 = width.toNat ∧ bit (t.reg link) 23 = true ∧
        fld (t.reg link) 15 0 = (if h.link then min 65535 (s.rf link 15 0 + 1) else s.rf link 15 0) ∧
        (rate.toNat < top ∨ width.toNat < 4 → bit (t.reg Reg.GLB_EVT) 7 = true) ∧
        onlyHost (fun z => z = link ∨ z = Reg.GLB_EVT ∨ z = Reg.GLB_FIRST) t) ∧
    (s.sys.rst.held = false → flit = false ∨ rate = 0#4 ∨ ¬lanes →
      ∃ t, exec (.linkTraining rate width flit) s = .next t ∧ t.sys.host = { h with link := false } ∧
        fld (t.reg link) 31 23 = 0 ∧ onlyHost (fun z => z = link) t) ∧
    (∃ t, exec .d3hot s = .next t ∧ t.sys.host = { h with d3 := true } ∧ fld (t.reg link) 22 20 = 3 ∧
      onlyHost (fun z => z = link) t) ∧
    (h.d3 = false → exec .d0Return s = .next s) ∧
    (h.d3 = true → ∃ t, exec .d0Return s = .next t ∧ t.sys.host = { h with d3 := false } ∧ fld (t.reg link) 22 20 = 0 ∧
      (∀ g, g < 64 → s.summary g = true → h.msixEnable = true → s.maskedVector g = false → Output.msix g ∈ t.out) ∧
      onlyHost (fun z => z = link) t) ∧
    (∃ t, exec (.hotReset kind) s = .next t ∧ t.sys.host.msixEnable = false ∧ t.sys.host.funcMask = false ∧
      t.sys.host.d3 = false ∧ t.guardOf .host = none ∧ t.reg Reg.APT_CTL = 0 ∧
      (∀ i, i < 32 → t.reg (Reg.HEN i) = resetValue (Reg.HEN i)) ∧
      (kind ≠ .flr → t.sys.host.link = false ∧ bit (t.reg Reg.GLB_EVT) 6 = true) ∧
      (kind = .flr → t.sys.host.link = h.link) ∧
      t = { s with sys := { s.sys with host := t.sys.host }, regs := t.regs, out := t.out }) ∧
    (s.open_ who = false → ∀ w, exec (.size who w a ⟨n, data⟩) s = .next s) ∧
    (s.open_ who = true → ¬wide → ∀ w : Bool, ∃ t, exec (.size who w a ⟨n, data⟩) s = .next t ∧
      fld (t.reg Reg.ACC_ERR) 7 0 = min 255 (s.rf Reg.ACC_ERR 7 0 + 1) ∧ bit (t.reg Reg.GLB_EVT) 0 = true ∧
      (w = false → 0 < n → Output.read 0 ∈ t.out) ∧
      OnlyRegs (fun z => z = Reg.ACC_ERR ∨ z = Reg.GLB_EVT ∨ z = Reg.GLB_FIRST) s t) ∧
    (s.open_ who = true → wide →
      (∃ t, exec (.size who false a ⟨n, data⟩) s = .next t ∧
        t = { s with out := s.out ++ [.read (s.readReg a.toNat), .read (s.readReg (a.toNat + 4))] }) ∧
      ∀ u v, data = [u, v] → a.toNat < 0x80400 →
        ∃ t, exec (.size who true a ⟨n, data⟩) s = .next t ∧ t.reg a.toNat = u ∧
          t.reg (a.toNat + 4) = (if a.toNat % 16 = 8 then v &&& 1 else v) ∧
          onlyHost (fun z => z = a.toNat ∨ z = a.toNat + 4) t) ∧
    (∃ t, exec .extest s = .next t ∧ t.sys.host = { h with extest := s.sys.rst.rstLow } ∧
      onlyHost (fun _ => False) t) ∧
    ∃ t, exec .trstN s = .next t ∧ t.sys.host = { h with extest := false } ∧ onlyHost (fun _ => False) t

/-- R470 to R473: an aperture read of its facet's slices comes behind the requests that its lines' agents hold, meets
what the stack finds (R99), and gives the bytes, or a poisoned completion and its event; a write puts its bytes there
and clears the poison of the lines that it covers; a refused access reads ones or writes nothing, and is counted; the
control register takes effect at once. R495, R496: the I3C target reads a register, reads zero outside its reach,
writes the few it may and refuses the rest. -/
def Obligations.ApertureAndI3cReachMemoryAndRegisters : Prop :=
  ∀ (x : BitVec 36) (n : Nat) (found : List ScrubFound) (b : Bytes) (addr v : Word) (k : RegKind) (s : State),
    let dpa := s.aptDpa x.toNat
    let lines := State.linesOf dpa n
    let u := (forEach lines s (fun t l => t.homeFlush l)).readFinds dpa (found.take ((dpa + n - 1) / 64 + 1 - dpa / 64))
    let bad := u.aptBad dpa n
    let ctl := Reg.APT_CTL
    let a := addr.toNat
    let alone := ∀ h, s.home h = HomeState.empty
    let turnedAway (t : State) : Prop := fld (t.reg Reg.APT_CNT) 31 0 = min (2 ^ 32 - 1) (s.rf Reg.APT_CNT 31 0 + 1) ∧
      bit (t.reg Reg.GLB_EVT) 4 = true ∧
      OnlyRegs (fun z => z = Reg.APT_CNT ∨ z = Reg.GLB_EVT ∨ z = Reg.GLB_FIRST) s t
    (s.open_ .host = false → exec (.apertureRead x ⟨n, found⟩) s = .next s ∧ exec (.apertureWrite x b) s = .next s ∧
      exec (.aptCtl v) s = .next s) ∧
    (s.open_ .host = true → 0 < n → s.aptOk x.toNat n false = true →
      ∃ t, exec (.apertureRead x ⟨n, found⟩) s = .next t ∧ Output.aperture (u.aptBytes dpa n) bad ∈ t.out ∧
        (bad = true → bit (t.reg Reg.GLB_EVT) 5 = true) ∧
        OnlyRegs (fun z => bad = true ∧ (z = Reg.GLB_EVT ∨ z = Reg.GLB_FIRST)) u t) ∧
    (s.open_ .host = true → 0 < n → s.aptOk x.toNat n false = true → s.poisoned dpa n = false → alone →
      (∀ f, f < 64 → s.session f = none) → (∀ e ∈ found, e = .clean) →
      ∃ t, exec (.apertureRead x ⟨n, found⟩) s = .next t ∧ Output.aperture (s.readMem dpa n) false ∈ t.out ∧ t.mem = s.mem ∧
        t.facets = s.facets) ∧
    (s.open_ .host = true → 0 < n → s.aptOk x.toNat n false = false →
      ∃ t, exec (.apertureRead x ⟨n, found⟩) s = .next t ∧ Output.aperture (List.replicate n 0xFF) false ∈ t.out ∧
        turnedAway t) ∧
    (s.open_ .host = true → b ≠ [] → s.aptOk x.toNat b.length true = true → alone →
      ∃ t, exec (.apertureWrite x b) s = .next t ∧ (∀ a, t.memByte a = (s.writeMem dpa b).memByte a) ∧
        (∀ l, dpa ≤ l * 128 → l * 128 + 128 ≤ dpa + b.length → t.poisoned (l * 128) 128 = false) ∧
        t.facets = s.facets ∧ t.cells = s.cells ∧ ∀ z, ¬isPba z → t.reg z = s.reg z) ∧
    (s.open_ .host = true → b ≠ [] → s.aptOk x.toNat b.length true = false →
      ∃ t, exec (.apertureWrite x b) s = .next t ∧ turnedAway t) ∧
    (s.open_ .host = true → ∃ t, exec (.aptCtl v) s = .next t ∧ fld (t.reg ctl) 31 30 = fld v 31 30 ∧
      fld (t.reg ctl) 29 24 = fld v 29 24 ∧ fld (t.reg ctl) 8 0 = fld v 8 0 ∧
      t = { s with sys := { s.sys with host := t.sys.host }, regs := t.regs, out := t.out } ∧
      RegsBut (fun z => z = ctl) s t) ∧
    (s.open_ .i3c = false → exec (.i3cRead addr) s = .next s ∧ exec (.i3cWrite addr v) s = .next s) ∧
    (s.open_ .i3c = true →
      (a < 0x1000000 → State.i3cHidden a = false → a % 4 = 0 → ∃ t, exec (.i3cRead addr) s = .next t ∧
        t = { s with out := s.out ++ [.read (s.readReg a)],
                     free := s.free + (if s.measuredMask a = 0 then 0 else 1) }) ∧
      (0x1000000 ≤ a ∨ State.i3cHidden a = true → ∃ t, exec (.i3cRead addr) s = .next t ∧
        t = { s with out := s.out ++ [.read 0] }) ∧
      (a < 0x1000000 → a % 4 ≠ 0 → ∃ t, exec (.i3cRead addr) s = .next t ∧ Output.read 0 ∈ t.out ∧
        fld (t.reg Reg.ACC_ERR) 7 0 = min 255 (s.rf Reg.ACC_ERR 7 0 + 1) ∧ bit (t.reg Reg.GLB_EVT) 0 = true ∧
        OnlyRegs (fun z => z = Reg.ACC_ERR ∨ z = Reg.GLB_EVT ∨ z = Reg.GLB_FIRST) s t) ∧
      (State.i3cWrites a = false → ∃ t, exec (.i3cWrite addr v) s = .next t ∧
        t = { s with out := s.out ++ [.i3c false] }) ∧
      (a = Reg.PWR_CAP → ∃ t, exec (.i3cWrite addr v) s = .next t ∧ Output.i3c true ∈ t.out ∧
        fld (t.reg Reg.PWR_CAP) 12 0 = fld v 12 0 ∧ fld (t.reg Reg.PWR_STAT) 12 0 = t.capForce ∧
        RegsBut (fun z => z = Reg.PWR_CAP ∨ z = Reg.PWR_STAT) s t) ∧
      (a = Reg.PWR_EVT ∨ a = Reg.THM_EVT → kindAt a = some k → ∃ t, exec (.i3cWrite addr v) s = .next t ∧
        Output.i3c true ∈ t.out ∧ t.reg a = s.reg a &&& ~~~(v &&& BitVec.ofNat 32 k.wmask) ∧
        OnlyRegs (fun z => z = a) s t) ∧
      (a = Reg.PWR_CMD → s.guardOf .i3c = none → ∃ t, exec (.i3cWrite addr v) s = .next t ∧ Output.i3c true ∈ t.out ∧
        t.guardOf .i3c = some ⟨Reg.PWR_CMD, v, s.dt⟩ ∧
        OnlyRegs (fun _ => False) { s with sys := { s.sys with host := t.sys.host } } t) ∧
      (∀ g, a = Reg.PWR_CMD + 0x4000 → s.guardOf .i3c = some g → g.addr = Reg.PWR_CMD → v ≠ ~~~g.value →
        ∃ t, exec (.i3cWrite addr v) s = .next t ∧ t.guardOf .i3c = none ∧ bit (t.reg Reg.GLB_EVT) 2 = true ∧
          OnlyRegs (fun z => z = Reg.GLB_EVT ∨ z = Reg.GLB_FIRST)
            { s with sys := { s.sys with host := t.sys.host } } t))

/-- R13, R15, R74, R76, R475 to R480, R503: a write acts by its register's access code and leaves reserved bits; one that
is no aligned word, or whose register firmware alone writes or an OFF window holds, is counted; a guarded write waits
for its complement, which applies it (a GO before the firmware runs is held), and is dropped without it or with a wrong
one; a parity mismatch freezes its block at reset values, and an unfreeze takes it back once every register is clean. -/
def Obligations.RegistersAreWrittenByTheirAccessCode : Prop :=
  ∀ (who : Requester) (addr : BitVec 26) (v : Word) (k : RegKind) (target : BitVec 7) (s : State),
    let a := addr.toNat
    let m := BitVec.ofNat 32 k.wmask
    let h := s.sys.host
    let onlyHost (p : Nat → Prop) (t : State) : Prop := OnlyRegs p { s with sys := { s.sys with host := t.sys.host } } t
    let sent := s.open_ who = true ∧ (who = .i3c → State.i3cWrites a = true) ∧ a % 4 = 0
    let inWindow := ∀ r, windowRegion a = some r → s.regionPoint r ≠ 2
    let reach := sent ∧ inWindow ∧ (firmwareOnly a = true → who = .firmware)
    let glb := fun z => z = Reg.GLB_EVT ∨ z = Reg.GLB_FIRST
    (s.open_ who = false → exec (.registerWrite who addr v) s = .next s ∧ exec (.guardedWrite who addr v) s = .next s ∧
      exec (.guardComplement who addr v) s = .next s) ∧
    (s.open_ who = true → who ≠ .i3c → a % 4 ≠ 0 → ∃ t, exec (.registerWrite who addr v) s = .next t ∧
      fld (t.reg Reg.ACC_ERR) 7 0 = min 255 (s.rf Reg.ACC_ERR 7 0 + 1) ∧ bit (t.reg Reg.GLB_EVT) 0 = true ∧
      OnlyRegs (fun z => z = Reg.ACC_ERR ∨ glb z) s t) ∧
    (∀ r, sent → windowRegion a = some r → s.regionPoint r = 2 → ∃ t, exec (.registerWrite who addr v) s = .next t ∧
      fld (t.reg Reg.ACC_ERR) 23 16 = min 255 (s.rf Reg.ACC_ERR 23 16 + 1) ∧ OnlyRegs (fun z => z = Reg.ACC_ERR) s t) ∧
    (sent → inWindow → firmwareOnly a = true → who = .host → ∃ t, exec (.registerWrite who addr v) s = .next t ∧
      fld (t.reg Reg.ACC_ERR) 15 8 = min 255 (s.rf Reg.ACC_ERR 15 8 + 1) ∧ bit (t.reg Reg.GLB_EVT) 1 = true ∧
      OnlyRegs (fun z => z = Reg.ACC_ERR ∨ glb z) s t) ∧
    (reach → kindAt a = none → (a < 0x4000 ∨ isRWG (a - 0x4000) = false) →
      ∃ t, exec (.registerWrite who addr v) s = .next t ∧ OnlyRegs (fun _ => False) s t) ∧
    (reach → kindAt a = some k →
      (k.access = .ro → ∃ t, exec (.registerWrite who addr v) s = .next t ∧ OnlyRegs (fun _ => False) s t) ∧
      (k.access = .w1c → ∃ t, exec (.registerWrite who addr v) s = .next t ∧
        t.reg a = s.reg a &&& ~~~(v &&& m &&& ~~~(s.freshFlags a)) ∧
        ((∀ r b p, r < 64 → b < 8 → p < 17 → a ≠ Reg.CELL_STAT r b p) → s.freshFlags a = 0) ∧
        OnlyRegs (fun z => z = a) s t) ∧
      (k.access = .rw → ¬(0x80000 ≤ a ∧ a < 0x80400) → ¬(0xA00100 ≤ a ∧ a < 0xA00500 ∧ a % 16 = 8) →
        ¬(0x500280 ≤ a ∧ a < 0x500300) →
        ∃ t, exec (.registerWrite who addr v) s = .next t ∧ t.reg a = (s.reg a &&& ~~~m) ||| (v &&& m) ∧
          t.sys.host = { h with dirty := h.dirty.filter (· != a) } ∧
          onlyHost (fun z => z = a ∨ (a = Reg.PWR_CAP ∧ z = Reg.PWR_STAT)) t)) ∧
    (reach → isRWG a = true → s.guardOf who = none →
      ∃ t, exec (.guardedWrite who addr v) s = .next t ∧ t.guardOf who = some ⟨a, v, s.dt⟩ ∧
        onlyHost (fun _ => False) t) ∧
    (∀ g : GuardPend, reach → isRWG a = true → s.guardOf who = some g →
      ∃ t, exec (.guardedWrite who addr v) s = .next t ∧ t.guardOf who = some ⟨a, v, s.dt⟩ ∧
        bit (t.reg Reg.GLB_EVT) 2 = true ∧ onlyHost (fun z => z = Reg.GUARD_CNT ∨ glb z) t) ∧
    (∀ g : GuardPend, reach → s.guardOf who = some g → g.addr + 0x4000 = a → kindAt a = none →
      isRWG g.addr = true → kindAt g.addr = some k →
      (s.dt ≤ g.at_ + State.guardTicks → v = ~~~g.value →
        (goRegs.contains g.addr = false → g.addr ≠ Reg.GST_CTL 0 → g.addr ≠ Reg.GST_CTL 1 →
          ∃ t, exec (.guardComplement who addr v) s = .next t ∧ t.guardOf who = none ∧
            t.reg g.addr = (s.reg g.addr &&& ~~~m) ||| (g.value &&& m) ∧ onlyHost (fun z => z = g.addr) t) ∧
        (goRegs.contains g.addr = true → bit g.value 31 = true → s.frozen (blockOf g.addr) = true →
          g.addr ≠ Reg.PAR_CMD → ∃ t, exec (.guardComplement who addr v) s = .next t ∧ t.guardOf who = none ∧
            bit (t.reg g.addr) 31 = false ∧ fld (t.reg Reg.ACC_ERR) 31 24 = min 255 (s.rf Reg.ACC_ERR 31 24 + 1) ∧
            onlyHost (fun z => z = g.addr ∨ z = Reg.ACC_ERR) t) ∧
        (goRegs.contains g.addr = true → bit g.value 31 = true → s.frozen (blockOf g.addr) = false →
          s.fwReady = false → g.addr ≠ Reg.CND_CMD → ∃ t, exec (.guardComplement who addr v) s = .next t ∧
            t.guardOf who = none ∧ (requesterCode who, g.addr, g.value) ∈ t.sys.host.goHeld ∧
            onlyHost (fun z => z = g.addr) t)) ∧
      (g.at_ + State.guardTicks < s.dt ∨ v ≠ ~~~g.value →
        ∃ t, exec (.guardComplement who addr v) s = .next t ∧ t.guardOf who = none ∧ bit (t.reg Reg.GLB_EVT) 2 = true ∧
          onlyHost (fun z => z = Reg.GUARD_CNT ∨ glb z) t)) ∧
    (∀ g : GuardPend, s.guardOf who = some g → ∃ t, exec (.guardDrop who) s = .next t ∧ t.guardOf who = none ∧
      bit (t.reg Reg.GLB_EVT) 2 = true ∧
      (who = .host → fld (t.reg Reg.GUARD_CNT) 15 0 = min 65535 (s.rf Reg.GUARD_CNT 15 0 + 1)) ∧
      onlyHost (fun z => z = Reg.GUARD_CNT ∨ glb z) t) ∧
    (s.guardOf who = none → exec (.guardDrop who) s = .next s) ∧
    (kindAt a = some k → k.access = .rw ∨ k.access = .rwg → a < 0x2000000 → h.dirty.contains a = false →
      ∃ t, exec (.parity addr) s = .next t ∧ t.frozen (blockOf a) = true ∧ t.hw a = resetValue a ∧
        t.reg Reg.PAR_FIRST = BitVec.ofNat 32 (a / 4) ∧
        (s.frozen (blockOf a) = false → bit (t.reg Reg.GLB_EVT) 3 = true) ∧
        t.sys.host = { h with dirty := insertNat a h.dirty, failed := insertNat a h.failed }) ∧
    (kindAt a = some k → k.access ≠ .rw ∧ k.access ≠ .rwg ∨ h.dirty.contains a = true →
      exec (.parity addr) s = .next s) ∧
    (target.toNat < 80 → s.frozen target.toNat = true → (∀ z ∈ h.dirty, blockOf z ≠ target.toNat) →
      ∃ t, exec (.unfreeze target) s = .next t ∧ t.frozen target.toNat = false ∧ fld (t.reg Reg.PAR_CMD) 8 7 = 0 ∧
        t.sys.host = { h with failed := h.failed.filter (fun z => blockOf z != target.toNat) }) ∧
    (∀ z ∈ h.dirty, target.toNat < 80 → blockOf z = target.toNat → s.frozen target.toNat = true →
      ∃ t, exec (.unfreeze target) s = .next t ∧ fld (t.reg Reg.PAR_CMD) 8 7 = 1 ∧
        OnlyRegs (fun z => z = Reg.PAR_CMD) s t) ∧
    (80 ≤ target.toNat ∨ s.frozen target.toNat = false → ∃ t, exec (.unfreeze target) s = .next t ∧
      fld (t.reg Reg.PAR_CMD) 8 7 = 2 ∧ OnlyRegs (fun z => z = Reg.PAR_CMD) s t)

/-- R482, R483, R486, R488: a claim puts a pending source in service and a done takes one out whose level is gone, in both
banks; a claim or a done out of order is an event; an end of interrupt sends its vectors again while their summaries are
1; an unmasked vector, or all with Function Mask, sends the message that waited, and MSI-X Enable lets every unmasked
vector with its summary at 1 send. -/
def Obligations.InterruptsAreClaimedAndDone : Prop :=
  ∀ (n : BitVec 10) (vectors : BitVec 64) (g : Fin 64) (s : State),
    let a := Reg.INSVC (n.toNat / 32)
    let h := s.sys.host
    let tbl := Reg.MSIX_TABLE g.val 3
    let pba := Reg.MSIX_PBA (g.val / 32)
    let onlyHost (p : Nat → Prop) (t : State) : Prop := OnlyRegs p { s with sys := { s.sys with host := t.sys.host } } t
    let refused (i : Nat) (t : State) : Prop := bit (t.reg Reg.IRQ_EVT) i = true ∧
      OnlyRegs (fun z => z = Reg.IRQ_EVT ∨ z = Reg.IRQ_FIRST) s t
    let sends := s.summary g.val = true ∧ h.msixEnable = true ∧ h.d3 = false
    (s.pendingIn n.toNat false = true → ∃ t, exec (.nclaim n) s = .next t ∧ t.inService n.toNat = true ∧
      OnlyRegs (fun z => z = a) s t) ∧
    (s.pendingIn n.toNat false = false → ∃ t, exec (.nclaim n) s = .next t ∧ refused 2 t) ∧
    (s.pendingIn n.toNat true = true → ∃ t, exec (.fclaim n) s = .next t ∧ t.inService n.toNat = true ∧
      t.sys.host = { h with fast := insertNat n.toNat h.fast } ∧ onlyHost (fun z => z = a) t) ∧
    (s.pendingIn n.toNat true = false → ∃ t, exec (.fclaim n) s = .next t ∧ refused 2 t) ∧
    (s.servedIn n.toNat false = true →
      (s.level n.toNat = false → ∃ t, exec (.ndone n) s = .next t ∧ t.inService n.toNat = false ∧
        onlyHost (fun z => z = a) t) ∧
      (s.level n.toNat = true → ∃ t, exec (.ndone n) s = .next t ∧ refused 0 t)) ∧
    (s.servedIn n.toNat false = false → ∃ t, exec (.ndone n) s = .next t ∧ refused 1 t) ∧
    (s.servedIn n.toNat true = true →
      (s.level n.toNat = false → ∃ t, exec (.fdone n) s = .next t ∧ t.inService n.toNat = false ∧
        t.sys.host = { h with fast := h.fast.filter (· != n.toNat) } ∧ onlyHost (fun z => z = a) t) ∧
      (s.level n.toNat = true → ∃ t, exec (.fdone n) s = .next t ∧ refused 0 t)) ∧
    (s.servedIn n.toNat true = false → ∃ t, exec (.fdone n) s = .next t ∧ refused 1 t) ∧
    (∃ t, exec (.heoi vectors) s = .next t ∧ OnlyRegs (fun _ => False) s t ∧
      (vectors.getLsbD g.val = true → sends →
        (s.maskedVector g.val = false → Output.msix g.val ∈ t.out) ∧
        (s.maskedVector g.val = true → bit (t.reg pba) (g.val % 32) = true))) ∧
    (∃ t, exec (.msixUnmask (.vector g)) s = .next t ∧ t.reg tbl = s.reg tbl &&& ~~~1 ∧
      (sends → h.funcMask = false → bit (s.reg pba) (g.val % 32) = true →
        Output.msix g.val ∈ t.out ∧ bit (t.reg pba) (g.val % 32) = false) ∧ OnlyRegs (fun z => z = tbl) s t) ∧
    (∃ t, exec (.msixUnmask .function) s = .next t ∧ t.sys.host = { h with funcMask := false } ∧
      (sends → bit (s.reg tbl) 0 = false → bit (s.reg pba) (g.val % 32) = true →
        Output.msix g.val ∈ t.out ∧ bit (t.reg pba) (g.val % 32) = false) ∧ onlyHost (fun _ => False) t) ∧
    (h.msixEnable = false → ∃ t, exec (.msixUnmask .enable) s = .next t ∧ t.sys.host = { h with msixEnable := true } ∧
      (s.summary g.val = true → h.d3 = false → s.maskedVector g.val = false → Output.msix g.val ∈ t.out) ∧
      onlyHost (fun _ => False) t) ∧
    (h.msixEnable = true → exec (.msixUnmask .enable) s = .next s)
end

