-- ==== Sys2Proof/Laws/Bits.lean ====
section
/-! SUPPORT. The laws of bit fields and of little-endian bytes. -/
namespace Sys2Proof.Machine

theorem testBit_fld (w : Word) (hi lo i : Nat) :
    (fld w hi lo).testBit i = (decide (i < hi + 1 - lo) && w.getLsbD (lo + i)) := by
  simp [fld, Nat.testBit_mod_two_pow, Nat.testBit_shiftRight, BitVec.testBit_toNat]

theorem getLsbD_setFld (w : Word) (hi lo v i : Nat) (h : i < 32) :
    (setFld w hi lo v).getLsbD i = if lo ≤ i ∧ i ≤ hi then v.testBit (i - lo) else w.getLsbD i := by
  have hm : ((2 ^ (hi + 1 - lo) - 1) <<< lo).testBit i = (decide (lo ≤ i) && decide (i - lo < hi + 1 - lo)) := by
    simp [Nat.testBit_shiftLeft, Nat.testBit_two_pow_sub_one]
  have hv : ((v % 2 ^ (hi + 1 - lo)) <<< lo).testBit i =
      (decide (lo ≤ i) && (decide (i - lo < hi + 1 - lo) && v.testBit (i - lo))) := by
    simp [Nat.testBit_shiftLeft, Nat.testBit_mod_two_pow]
  simp only [setFld, BitVec.getLsbD_or, BitVec.getLsbD_and, BitVec.getLsbD_not, BitVec.getLsbD_ofNat, hm, hv, h,
    decide_true, Bool.true_and]
  by_cases h1 : lo ≤ i
  · by_cases h2 : i ≤ hi
    · have h3 : i - lo < hi + 1 - lo := by omega
      simp [h1, h2, h3]
    · have h3 : ¬ i - lo < hi + 1 - lo := by omega
      simp [h1, h2, h3]
  · simp [h1]

/-- The field written reads as what was written. -/
theorem fld_setFld (w : Word) (hi lo v : Nat) (h : hi < 32) : fld (setFld w hi lo v) hi lo = v % 2 ^ (hi + 1 - lo) := by
  apply Nat.eq_of_testBit_eq
  intro i
  rw [testBit_fld, Nat.testBit_mod_two_pow]
  by_cases hi' : i < hi + 1 - lo
  · have h1 : lo + i < 32 := by omega
    have h2 : lo ≤ lo + i ∧ lo + i ≤ hi := by omega
    rw [getLsbD_setFld _ _ _ _ _ h1, if_pos h2]
    simp [hi']
  · simp [hi']

theorem fld_setFld_lt (w : Word) (hi lo v : Nat) (h : hi < 32) (hv : v < 2 ^ (hi + 1 - lo)) :
    fld (setFld w hi lo v) hi lo = v := by rw [fld_setFld _ _ _ _ h, Nat.mod_eq_of_lt hv]

/-- Every other field reads as before. -/
theorem fld_setFld_ne (w : Word) (hi lo v a b : Nat) (ha : a < 32) (h : a < lo ∨ hi < b) :
    fld (setFld w hi lo v) a b = fld w a b := by
  apply Nat.eq_of_testBit_eq
  intro i
  rw [testBit_fld, testBit_fld]
  by_cases hi' : i < a + 1 - b
  · have h1 : b + i < 32 := by omega
    have h2 : ¬(lo ≤ b + i ∧ b + i ≤ hi) := by omega
    rw [getLsbD_setFld _ _ _ _ _ h1, if_neg h2]
  · simp [hi']

theorem bit_setFld (w : Word) (hi lo v i : Nat) (h : i < 32) :
    bit (setFld w hi lo v) i = if lo ≤ i ∧ i ≤ hi then v.testBit (i - lo) else bit w i := getLsbD_setFld w hi lo v i h

theorem bit_bitW (i j : Nat) (h : j < 32) : bit (bitW i) j = decide (i = j) := by
  simp only [bit, bitW, BitVec.getLsbD_ofNat, h, decide_true, Bool.true_and, Nat.shiftLeft_eq, Nat.one_mul,
    Nat.testBit_two_pow]

/-- A bit of an event register after an event is raised in it. -/
theorem bit_or_bitW (w : Word) (i j : Nat) (h : j < 32) : bit (w ||| bitW i) j = (bit w j || decide (i = j)) := by
  have := bit_bitW i j h
  simp only [bit] at this ⊢
  rw [BitVec.getLsbD_or, this]

theorem fld_lt (w : Word) (hi lo : Nat) : fld w hi lo < 2 ^ (hi + 1 - lo) := Nat.mod_lt _ (Nat.two_pow_pos _)

theorem length_leBytes (n v : Nat) : (leBytes n v).length = n := by
  induction n generalizing v with
  | zero => rfl
  | succ n ih => simp [leBytes, ih]

/-- Bytes spell the number they were made from (R8). -/
theorem leNat_leBytes (n v : Nat) : leNat (leBytes n v) = v % 256 ^ n := by
  induction n generalizing v with
  | zero => simp [leBytes, leNat, Nat.mod_one]
  | succ n ih =>
    simp only [leBytes, leNat, ih, BitVec.toNat_ofNat]
    have h : 256 ^ (n + 1) = 256 * 256 ^ n := Nat.pow_succ' ..
    rw [h, Nat.mod_mul]

end Sys2Proof.Machine
end

