-- ==== Sys2Proof/Laws/Table.lean ====
section
/-! SUPPORT. The laws of sparse tables: reading back what was written, every other entry unchanged, and the
canonical form kept by every operation. -/
namespace Sys2Proof.Machine

variable {α : Type}

theorem tget_tput (d : α) (t : Tbl α) (k j : Nat) (v : α) :
    tget d (tput k v t) j = if k = j then v else tget d t j := by
  induction t with
  | nil => simp [tput, tget]
  | cons e t ih =>
    obtain ⟨i, u⟩ := e
    simp only [tput]
    by_cases hik : i = k
    · subst hik; by_cases hj : i = j <;> simp [tget, hj]
    · simp only [hik, if_false]
      by_cases hlt : k < i
      · simp [hlt, tget]
      · simp only [hlt, if_false, tget, ih]
        by_cases hj : k = j
        · subst hj; simp [hik]
        · simp [hj]

theorem tget_filter_ne (d : α) (t : Tbl α) (k j : Nat) :
    tget d (t.filter (fun e => e.1 != k)) j = if k = j then d else tget d t j := by
  induction t with
  | nil => simp [tget]
  | cons e t ih =>
    obtain ⟨i, u⟩ := e
    by_cases hik : i = k
    · subst hik
      simp only [List.filter_cons, bne_self_eq_false, Bool.false_eq_true, if_false, ih]
      by_cases hj : i = j <;> simp [tget, hj]
    · have h : (i != k) = true := by simp [hik]
      simp only [List.filter_cons, h, if_true, tget, ih]
      by_cases hj : k = j
      · subst hj; simp [hik]
      · simp [hj]

/-- Reading after a write: the value written at its key, every other key as before. -/
theorem tget_tset [DecidableEq α] (d : α) (t : Tbl α) (k j : Nat) (v : α) :
    tget d (tset d t k v) j = if k = j then v else tget d t j := by
  unfold tset
  split
  · next h => rw [tget_filter_ne]; subst h; rfl
  · exact tget_tput d t k j v

@[simp] theorem tget_tset_self [DecidableEq α] (d : α) (t : Tbl α) (k : Nat) (v : α) :
    tget d (tset d t k v) k = v := by simp [tget_tset]

theorem tget_tset_ne [DecidableEq α] (d : α) (t : Tbl α) (k j : Nat) (v : α) (h : k ≠ j) :
    tget d (tset d t k v) j = tget d t j := by simp [tget_tset, h]

/-- The same where the reader's default is that of its own key. -/
theorem tget_tset_other [DecidableEq α] (d e : α) (t : Tbl α) (k j : Nat) (v : α) (h : k ≠ j) :
    tget e (tset d t k v) j = tget e t j := by
  unfold tset
  split
  · rw [tget_filter_ne]; simp [h]
  · rw [tget_tput]; simp [h]

/-- The entries outside a cleared range read as before; those inside read as the default. -/
theorem tget_tclear (d : α) (lo hi : Nat) (t : Tbl α) (j : Nat) :
    tget d (tclear lo hi t) j = if lo ≤ j ∧ j < hi then d else tget d t j := by
  induction t with
  | nil => simp [tclear, tget]
  | cons e t ih =>
    obtain ⟨i, u⟩ := e
    simp only [tclear] at ih
    simp only [tclear, List.filter_cons]
    by_cases hi' : i < lo ∨ hi ≤ i
    · have h : (decide (i < lo) || decide (hi ≤ i)) = true := by simpa using hi'
      simp only [h, if_true, tget, ih]
      by_cases hij : i = j
      · subst hij
        have : ¬(lo ≤ i ∧ i < hi) := by omega
        simp [this]
      · simp [hij]
    · have h : (decide (i < lo) || decide (hi ≤ i)) = false := by simpa using hi'
      simp only [h, Bool.false_eq_true, if_false, tget, ih]
      by_cases hij : i = j
      · subst hij
        have : lo ≤ i ∧ i < hi := by omega
        simp [this]
      · simp [hij]

/-! The canonical form. -/

/-- Keys rise along a canonical table: each lies below all that follow it. -/
theorem tsorted_iff (t : Tbl α) : tsorted t = true ↔ t.Pairwise (fun a b => a.1 < b.1) := by
  induction t with
  | nil => simp [tsorted]
  | cons a t ih =>
    cases t with
    | nil => simp [tsorted]
    | cons b t =>
      rw [tsorted, Bool.and_eq_true, decide_eq_true_eq, ih]
      simp only [List.pairwise_cons, List.mem_cons, forall_eq_or_imp]
      exact ⟨fun h => ⟨⟨h.1, fun c hc => Nat.lt_trans h.1 (h.2.1 c hc)⟩, h.2⟩, fun h => ⟨h.1.1, h.2⟩⟩

theorem twf_iff [DecidableEq α] (d : Nat → α) (t : Tbl α) :
    twf d t = true ↔ t.Pairwise (fun a b => a.1 < b.1) ∧ ∀ e ∈ t, e.2 ≠ d e.1 := by
  simp [twf, tsorted_iff]

/-- An entry of a table after a store is the one stored, or stood there before. -/
theorem mem_tput {k : Nat} {v : α} {t : Tbl α} {e : Nat × α} : e ∈ tput k v t → e = (k, v) ∨ e ∈ t := by
  induction t with
  | nil => simp [tput]
  | cons a t ih => rw [tput.eq_def]; grind

theorem pairwise_tput (k : Nat) (v : α) (t : Tbl α) (h : t.Pairwise (fun a b => a.1 < b.1)) :
    (tput k v t).Pairwise (fun a b => a.1 < b.1) := by
  induction t with
  | nil => simp [tput]
  | cons a t ih =>
    obtain ⟨low, up⟩ := List.pairwise_cons.mp h
    have below : ∀ e ∈ tput k v t, e.1 = k ∨ a.1 < e.1 := fun e he => (mem_tput he).imp (fun x => by rw [x]) (low e)
    have := ih up
    simp only [tput]
    repeat' split
    all_goals simp only [List.pairwise_cons]
    all_goals grind

/-- Storing keeps the canonical form; the default stored removes the entry. -/
theorem twf_tset [DecidableEq α] (d : Nat → α) (t : Tbl α) (k : Nat) (v : α) (h : twf d t = true) :
    twf d (tset (d k) t k v) = true := by
  rw [twf_iff] at h ⊢
  unfold tset
  split
  · exact ⟨h.1.filter _, fun e he => h.2 e ((List.mem_filter.mp he).1)⟩
  · next hv => exact ⟨pairwise_tput k v t h.1, fun e he => (mem_tput he).elim (fun x => by rw [x]; exact hv) (h.2 e)⟩

/-- Dropping entries keeps the canonical form. -/
theorem twf_filter [DecidableEq α] (d : Nat → α) (p : Nat × α → Bool) (t : Tbl α) (h : twf d t = true) :
    twf d (t.filter p) = true := by
  rw [twf_iff] at h ⊢
  exact ⟨h.1.filter _, fun e he => h.2 e ((List.mem_filter.mp he).1)⟩

theorem twf_tclear [DecidableEq α] (d : Nat → α) (lo hi : Nat) (t : Tbl α) (h : twf d t = true) :
    twf d (tclear lo hi t) = true := twf_filter d _ t h

/-- A key below all of a table's keys is not in it. -/
theorem tget_low (d : α) (t : Tbl α) (k : Nat) (h : ∀ e ∈ t, k < e.1) : tget d t k = d := by
  induction t with
  | nil => rfl
  | cons a t ih => rw [tget.eq_def]; grind

/-- Two canonical tables with equal readings are equal data. -/
theorem twf_ext [DecidableEq α] (d : Nat → α) (t u : Tbl α) (ht : twf d t = true) (hu : twf d u = true)
    (h : ∀ k, tget (d k) t k = tget (d k) u k) : t = u := by
  rw [twf_iff] at ht hu
  obtain ⟨st, nt⟩ := ht
  obtain ⟨su, nu⟩ := hu
  induction t generalizing u with
  | nil =>
    cases u with
    | nil => rfl
    | cons b u => have := h b.1; simp only [tget] at this; grind
  | cons a t ih =>
    cases u with
    | nil => have := h a.1; simp only [tget] at this; grind
    | cons b u =>
      obtain ⟨sa, st⟩ := List.pairwise_cons.mp st
      obtain ⟨sb, su⟩ := List.pairwise_cons.mp su
      have key : a.1 = b.1 := by
        have ha := h a.1
        have hb := h b.1
        have la := tget_low (d a.1) u a.1
        have lb := tget_low (d b.1) t b.1
        simp only [tget] at ha hb
        grind
      have val : a.2 = b.2 := by have := h a.1; simp only [tget] at this; grind
      have rest : t = u := ih u (fun k => by
        have hk := h k
        have la := tget_low (d k) t k
        have lb := tget_low (d k) u k
        simp only [tget] at hk
        grind) st (fun e he => nt e (List.mem_cons_of_mem _ he)) su (fun e he => nu e (List.mem_cons_of_mem _ he))
      rw [rest, Prod.ext key val]

end Sys2Proof.Machine
end

