-- ==== Sys2Proof/Laws/State.lean ====
section
/-! SUPPORT. The laws of the state's updates: what each update leaves as it was, field by field, and what it reads
back. Every part is true by rfl or by the laws of tables. -/
namespace Sys2Proof.Machine

namespace State

variable (s : State)

@[simp] theorem setReg_fields (k : Nat) (v : Word) :
    (s.setReg k v).nv = s.nv ∧ (s.setReg k v).nvDue = s.nvDue ∧ (s.setReg k v).cells = s.cells ∧
    (s.setReg k v).blocks = s.blocks ∧ (s.setReg k v).regions = s.regions ∧ (s.setReg k v).engines = s.engines ∧
    (s.setReg k v).staging = s.staging ∧ (s.setReg k v).mem = s.mem ∧ (s.setReg k v).poison = s.poison ∧
    (s.setReg k v).memStacks = s.memStacks ∧ (s.setReg k v).facets = s.facets ∧ (s.setReg k v).loader = s.loader ∧
    (s.setReg k v).banks = s.banks ∧ (s.setReg k v).qps = s.qps ∧ (s.setReg k v).slots = s.slots ∧
    (s.setReg k v).ses = s.ses ∧ (s.setReg k v).prism = s.prism ∧ (s.setReg k v).groups = s.groups ∧
    (s.setReg k v).guests = s.guests ∧ (s.setReg k v).lines = s.lines ∧ (s.setReg k v).rings = s.rings ∧
    (s.setReg k v).opt = s.opt ∧ (s.setReg k v).ports = s.ports ∧ (s.setReg k v).fab = s.fab ∧
    (s.setReg k v).msf = s.msf ∧ (s.setReg k v).sys = s.sys ∧ (s.setReg k v).out = s.out ∧
    (s.setReg k v).free = s.free ∧ (s.setReg k v).pending = s.pending := by
  and_intros <;> rfl

@[simp] theorem setReg_units (k : Nat) (v : Word) :
    (s.setReg k v).dt = s.dt ∧ (s.setReg k v).beat = s.beat ∧ (s.setReg k v).devFrame = s.devFrame := by
  and_intros <;> rfl

@[simp] theorem setReg_reads (k : Nat) (v : Word) (x : Nat) :
    (s.setReg k v).cell x = s.cell x ∧ (s.setReg k v).block x = s.block x ∧ (s.setReg k v).region x = s.region x ∧
    (s.setReg k v).engine x = s.engine x ∧ (s.setReg k v).stack x = s.stack x ∧ (s.setReg k v).facet x = s.facet x ∧
    (s.setReg k v).bank x = s.bank x ∧ (s.setReg k v).qp x = s.qp x ∧ (s.setReg k v).slot x = s.slot x ∧
    (s.setReg k v).group x = s.group x ∧ (s.setReg k v).guest x = s.guest x ∧ (s.setReg k v).line x = s.line x ∧
    (s.setReg k v).ring x = s.ring x ∧ (s.setReg k v).port x = s.port x ∧ (s.setReg k v).memByte x = s.memByte x := by
  and_intros <;> rfl

@[simp] theorem setReg_reads2 (k : Nat) (v : Word) (x y : Nat) :
    (s.setReg k v).readMem x y = s.readMem x y ∧ (s.setReg k v).readLe x y = s.readLe x y := by
  and_intros <;> rfl

@[simp] theorem setCell_fields (k : Nat) (v : CellState) :
    (s.setCell k v).regs = s.regs ∧ (s.setCell k v).nv = s.nv ∧ (s.setCell k v).nvDue = s.nvDue ∧
    (s.setCell k v).blocks = s.blocks ∧ (s.setCell k v).regions = s.regions ∧ (s.setCell k v).engines = s.engines ∧
    (s.setCell k v).staging = s.staging ∧ (s.setCell k v).mem = s.mem ∧ (s.setCell k v).poison = s.poison ∧
    (s.setCell k v).memStacks = s.memStacks ∧ (s.setCell k v).facets = s.facets ∧ (s.setCell k v).loader = s.loader ∧
    (s.setCell k v).banks = s.banks ∧ (s.setCell k v).qps = s.qps ∧ (s.setCell k v).slots = s.slots ∧
    (s.setCell k v).ses = s.ses ∧ (s.setCell k v).prism = s.prism ∧ (s.setCell k v).groups = s.groups ∧
    (s.setCell k v).guests = s.guests ∧ (s.setCell k v).lines = s.lines ∧ (s.setCell k v).rings = s.rings ∧
    (s.setCell k v).opt = s.opt ∧ (s.setCell k v).ports = s.ports ∧ (s.setCell k v).fab = s.fab ∧
    (s.setCell k v).msf = s.msf ∧ (s.setCell k v).sys = s.sys ∧ (s.setCell k v).out = s.out ∧
    (s.setCell k v).free = s.free ∧ (s.setCell k v).pending = s.pending := by
  and_intros <;> rfl

@[simp] theorem setCell_units (k : Nat) (v : CellState) :
    (s.setCell k v).dt = s.dt ∧ (s.setCell k v).beat = s.beat ∧ (s.setCell k v).devFrame = s.devFrame := by
  and_intros <;> rfl

@[simp] theorem setCell_reads (k : Nat) (v : CellState) (x : Nat) :
    (s.setCell k v).reg x = s.reg x ∧ (s.setCell k v).block x = s.block x ∧ (s.setCell k v).region x = s.region x ∧
    (s.setCell k v).engine x = s.engine x ∧ (s.setCell k v).stack x = s.stack x ∧ (s.setCell k v).facet x = s.facet x ∧
    (s.setCell k v).bank x = s.bank x ∧ (s.setCell k v).qp x = s.qp x ∧ (s.setCell k v).slot x = s.slot x ∧
    (s.setCell k v).group x = s.group x ∧ (s.setCell k v).guest x = s.guest x ∧ (s.setCell k v).line x = s.line x ∧
    (s.setCell k v).ring x = s.ring x ∧ (s.setCell k v).port x = s.port x ∧ (s.setCell k v).memByte x = s.memByte x := by
  and_intros <;> rfl

@[simp] theorem setCell_reads2 (k : Nat) (v : CellState) (x y : Nat) :
    (s.setCell k v).readMem x y = s.readMem x y ∧ (s.setCell k v).readLe x y = s.readLe x y := by
  and_intros <;> rfl

@[simp] theorem setBlock_fields (k : Nat) (v : BlockState) :
    (s.setBlock k v).regs = s.regs ∧ (s.setBlock k v).nv = s.nv ∧ (s.setBlock k v).nvDue = s.nvDue ∧
    (s.setBlock k v).cells = s.cells ∧ (s.setBlock k v).regions = s.regions ∧ (s.setBlock k v).engines = s.engines ∧
    (s.setBlock k v).staging = s.staging ∧ (s.setBlock k v).mem = s.mem ∧ (s.setBlock k v).poison = s.poison ∧
    (s.setBlock k v).memStacks = s.memStacks ∧ (s.setBlock k v).facets = s.facets ∧ (s.setBlock k v).loader = s.loader ∧
    (s.setBlock k v).banks = s.banks ∧ (s.setBlock k v).qps = s.qps ∧ (s.setBlock k v).slots = s.slots ∧
    (s.setBlock k v).ses = s.ses ∧ (s.setBlock k v).prism = s.prism ∧ (s.setBlock k v).groups = s.groups ∧
    (s.setBlock k v).guests = s.guests ∧ (s.setBlock k v).lines = s.lines ∧ (s.setBlock k v).rings = s.rings ∧
    (s.setBlock k v).opt = s.opt ∧ (s.setBlock k v).ports = s.ports ∧ (s.setBlock k v).fab = s.fab ∧
    (s.setBlock k v).msf = s.msf ∧ (s.setBlock k v).sys = s.sys ∧ (s.setBlock k v).out = s.out ∧
    (s.setBlock k v).free = s.free ∧ (s.setBlock k v).pending = s.pending := by
  and_intros <;> rfl

@[simp] theorem setBlock_units (k : Nat) (v : BlockState) :
    (s.setBlock k v).dt = s.dt ∧ (s.setBlock k v).beat = s.beat ∧ (s.setBlock k v).devFrame = s.devFrame := by
  and_intros <;> rfl

@[simp] theorem setBlock_reads (k : Nat) (v : BlockState) (x : Nat) :
    (s.setBlock k v).reg x = s.reg x ∧ (s.setBlock k v).cell x = s.cell x ∧ (s.setBlock k v).region x = s.region x ∧
    (s.setBlock k v).engine x = s.engine x ∧ (s.setBlock k v).stack x = s.stack x ∧ (s.setBlock k v).facet x = s.facet x ∧
    (s.setBlock k v).bank x = s.bank x ∧ (s.setBlock k v).qp x = s.qp x ∧ (s.setBlock k v).slot x = s.slot x ∧
    (s.setBlock k v).group x = s.group x ∧ (s.setBlock k v).guest x = s.guest x ∧ (s.setBlock k v).line x = s.line x ∧
    (s.setBlock k v).ring x = s.ring x ∧ (s.setBlock k v).port x = s.port x ∧ (s.setBlock k v).memByte x = s.memByte x := by
  and_intros <;> rfl

@[simp] theorem setBlock_reads2 (k : Nat) (v : BlockState) (x y : Nat) :
    (s.setBlock k v).readMem x y = s.readMem x y ∧ (s.setBlock k v).readLe x y = s.readLe x y := by
  and_intros <;> rfl

@[simp] theorem setRegion_fields (k : Nat) (v : RegionState) :
    (s.setRegion k v).regs = s.regs ∧ (s.setRegion k v).nv = s.nv ∧ (s.setRegion k v).nvDue = s.nvDue ∧
    (s.setRegion k v).cells = s.cells ∧ (s.setRegion k v).blocks = s.blocks ∧ (s.setRegion k v).engines = s.engines ∧
    (s.setRegion k v).staging = s.staging ∧ (s.setRegion k v).mem = s.mem ∧ (s.setRegion k v).poison = s.poison ∧
    (s.setRegion k v).memStacks = s.memStacks ∧ (s.setRegion k v).facets = s.facets ∧ (s.setRegion k v).loader = s.loader ∧
    (s.setRegion k v).banks = s.banks ∧ (s.setRegion k v).qps = s.qps ∧ (s.setRegion k v).slots = s.slots ∧
    (s.setRegion k v).ses = s.ses ∧ (s.setRegion k v).prism = s.prism ∧ (s.setRegion k v).groups = s.groups ∧
    (s.setRegion k v).guests = s.guests ∧ (s.setRegion k v).lines = s.lines ∧ (s.setRegion k v).rings = s.rings ∧
    (s.setRegion k v).opt = s.opt ∧ (s.setRegion k v).ports = s.ports ∧ (s.setRegion k v).fab = s.fab ∧
    (s.setRegion k v).msf = s.msf ∧ (s.setRegion k v).sys = s.sys ∧ (s.setRegion k v).out = s.out ∧
    (s.setRegion k v).free = s.free ∧ (s.setRegion k v).pending = s.pending := by
  and_intros <;> rfl

@[simp] theorem setRegion_units (k : Nat) (v : RegionState) :
    (s.setRegion k v).dt = s.dt ∧ (s.setRegion k v).beat = s.beat ∧ (s.setRegion k v).devFrame = s.devFrame := by
  and_intros <;> rfl

@[simp] theorem setRegion_reads (k : Nat) (v : RegionState) (x : Nat) :
    (s.setRegion k v).reg x = s.reg x ∧ (s.setRegion k v).cell x = s.cell x ∧ (s.setRegion k v).block x = s.block x ∧
    (s.setRegion k v).engine x = s.engine x ∧ (s.setRegion k v).stack x = s.stack x ∧ (s.setRegion k v).facet x = s.facet x ∧
    (s.setRegion k v).bank x = s.bank x ∧ (s.setRegion k v).qp x = s.qp x ∧ (s.setRegion k v).slot x = s.slot x ∧
    (s.setRegion k v).group x = s.group x ∧ (s.setRegion k v).guest x = s.guest x ∧ (s.setRegion k v).line x = s.line x ∧
    (s.setRegion k v).ring x = s.ring x ∧ (s.setRegion k v).port x = s.port x ∧ (s.setRegion k v).memByte x = s.memByte x := by
  and_intros <;> rfl

@[simp] theorem setRegion_reads2 (k : Nat) (v : RegionState) (x y : Nat) :
    (s.setRegion k v).readMem x y = s.readMem x y ∧ (s.setRegion k v).readLe x y = s.readLe x y := by
  and_intros <;> rfl

@[simp] theorem setEngine_fields (k : Nat) (v : EngineState) :
    (s.setEngine k v).regs = s.regs ∧ (s.setEngine k v).nv = s.nv ∧ (s.setEngine k v).nvDue = s.nvDue ∧
    (s.setEngine k v).cells = s.cells ∧ (s.setEngine k v).blocks = s.blocks ∧ (s.setEngine k v).regions = s.regions ∧
    (s.setEngine k v).staging = s.staging ∧ (s.setEngine k v).mem = s.mem ∧ (s.setEngine k v).poison = s.poison ∧
    (s.setEngine k v).memStacks = s.memStacks ∧ (s.setEngine k v).facets = s.facets ∧ (s.setEngine k v).loader = s.loader ∧
    (s.setEngine k v).banks = s.banks ∧ (s.setEngine k v).qps = s.qps ∧ (s.setEngine k v).slots = s.slots ∧
    (s.setEngine k v).ses = s.ses ∧ (s.setEngine k v).prism = s.prism ∧ (s.setEngine k v).groups = s.groups ∧
    (s.setEngine k v).guests = s.guests ∧ (s.setEngine k v).lines = s.lines ∧ (s.setEngine k v).rings = s.rings ∧
    (s.setEngine k v).opt = s.opt ∧ (s.setEngine k v).ports = s.ports ∧ (s.setEngine k v).fab = s.fab ∧
    (s.setEngine k v).msf = s.msf ∧ (s.setEngine k v).sys = s.sys ∧ (s.setEngine k v).out = s.out ∧
    (s.setEngine k v).free = s.free ∧ (s.setEngine k v).pending = s.pending := by
  and_intros <;> rfl

@[simp] theorem setEngine_units (k : Nat) (v : EngineState) :
    (s.setEngine k v).dt = s.dt ∧ (s.setEngine k v).beat = s.beat ∧ (s.setEngine k v).devFrame = s.devFrame := by
  and_intros <;> rfl

@[simp] theorem setEngine_reads (k : Nat) (v : EngineState) (x : Nat) :
    (s.setEngine k v).reg x = s.reg x ∧ (s.setEngine k v).cell x = s.cell x ∧ (s.setEngine k v).block x = s.block x ∧
    (s.setEngine k v).region x = s.region x ∧ (s.setEngine k v).stack x = s.stack x ∧ (s.setEngine k v).facet x = s.facet x ∧
    (s.setEngine k v).bank x = s.bank x ∧ (s.setEngine k v).qp x = s.qp x ∧ (s.setEngine k v).slot x = s.slot x ∧
    (s.setEngine k v).group x = s.group x ∧ (s.setEngine k v).guest x = s.guest x ∧ (s.setEngine k v).line x = s.line x ∧
    (s.setEngine k v).ring x = s.ring x ∧ (s.setEngine k v).port x = s.port x ∧ (s.setEngine k v).memByte x = s.memByte x := by
  and_intros <;> rfl

@[simp] theorem setEngine_reads2 (k : Nat) (v : EngineState) (x y : Nat) :
    (s.setEngine k v).readMem x y = s.readMem x y ∧ (s.setEngine k v).readLe x y = s.readLe x y := by
  and_intros <;> rfl

@[simp] theorem setStack_fields (k : Nat) (v : StackState) :
    (s.setStack k v).regs = s.regs ∧ (s.setStack k v).nv = s.nv ∧ (s.setStack k v).nvDue = s.nvDue ∧
    (s.setStack k v).cells = s.cells ∧ (s.setStack k v).blocks = s.blocks ∧ (s.setStack k v).regions = s.regions ∧
    (s.setStack k v).engines = s.engines ∧ (s.setStack k v).staging = s.staging ∧ (s.setStack k v).mem = s.mem ∧
    (s.setStack k v).poison = s.poison ∧ (s.setStack k v).facets = s.facets ∧ (s.setStack k v).loader = s.loader ∧
    (s.setStack k v).banks = s.banks ∧ (s.setStack k v).qps = s.qps ∧ (s.setStack k v).slots = s.slots ∧
    (s.setStack k v).ses = s.ses ∧ (s.setStack k v).prism = s.prism ∧ (s.setStack k v).groups = s.groups ∧
    (s.setStack k v).guests = s.guests ∧ (s.setStack k v).lines = s.lines ∧ (s.setStack k v).rings = s.rings ∧
    (s.setStack k v).opt = s.opt ∧ (s.setStack k v).ports = s.ports ∧ (s.setStack k v).fab = s.fab ∧
    (s.setStack k v).msf = s.msf ∧ (s.setStack k v).sys = s.sys ∧ (s.setStack k v).out = s.out ∧
    (s.setStack k v).free = s.free ∧ (s.setStack k v).pending = s.pending := by
  and_intros <;> rfl

@[simp] theorem setStack_units (k : Nat) (v : StackState) :
    (s.setStack k v).dt = s.dt ∧ (s.setStack k v).beat = s.beat ∧ (s.setStack k v).devFrame = s.devFrame := by
  and_intros <;> rfl

@[simp] theorem setStack_reads (k : Nat) (v : StackState) (x : Nat) :
    (s.setStack k v).reg x = s.reg x ∧ (s.setStack k v).cell x = s.cell x ∧ (s.setStack k v).block x = s.block x ∧
    (s.setStack k v).region x = s.region x ∧ (s.setStack k v).engine x = s.engine x ∧ (s.setStack k v).facet x = s.facet x ∧
    (s.setStack k v).bank x = s.bank x ∧ (s.setStack k v).qp x = s.qp x ∧ (s.setStack k v).slot x = s.slot x ∧
    (s.setStack k v).group x = s.group x ∧ (s.setStack k v).guest x = s.guest x ∧ (s.setStack k v).line x = s.line x ∧
    (s.setStack k v).ring x = s.ring x ∧ (s.setStack k v).port x = s.port x ∧ (s.setStack k v).memByte x = s.memByte x := by
  and_intros <;> rfl

@[simp] theorem setStack_reads2 (k : Nat) (v : StackState) (x y : Nat) :
    (s.setStack k v).readMem x y = s.readMem x y ∧ (s.setStack k v).readLe x y = s.readLe x y := by
  and_intros <;> rfl

@[simp] theorem setFacet_fields (k : Nat) (v : FacetState) :
    (s.setFacet k v).regs = s.regs ∧ (s.setFacet k v).nv = s.nv ∧ (s.setFacet k v).nvDue = s.nvDue ∧
    (s.setFacet k v).cells = s.cells ∧ (s.setFacet k v).blocks = s.blocks ∧ (s.setFacet k v).regions = s.regions ∧
    (s.setFacet k v).engines = s.engines ∧ (s.setFacet k v).staging = s.staging ∧ (s.setFacet k v).mem = s.mem ∧
    (s.setFacet k v).poison = s.poison ∧ (s.setFacet k v).memStacks = s.memStacks ∧ (s.setFacet k v).loader = s.loader ∧
    (s.setFacet k v).banks = s.banks ∧ (s.setFacet k v).qps = s.qps ∧ (s.setFacet k v).slots = s.slots ∧
    (s.setFacet k v).ses = s.ses ∧ (s.setFacet k v).prism = s.prism ∧ (s.setFacet k v).groups = s.groups ∧
    (s.setFacet k v).guests = s.guests ∧ (s.setFacet k v).lines = s.lines ∧ (s.setFacet k v).rings = s.rings ∧
    (s.setFacet k v).opt = s.opt ∧ (s.setFacet k v).ports = s.ports ∧ (s.setFacet k v).fab = s.fab ∧
    (s.setFacet k v).msf = s.msf ∧ (s.setFacet k v).sys = s.sys ∧ (s.setFacet k v).out = s.out ∧
    (s.setFacet k v).free = s.free ∧ (s.setFacet k v).pending = s.pending := by
  and_intros <;> rfl

@[simp] theorem setFacet_units (k : Nat) (v : FacetState) :
    (s.setFacet k v).dt = s.dt ∧ (s.setFacet k v).beat = s.beat ∧ (s.setFacet k v).devFrame = s.devFrame := by
  and_intros <;> rfl

@[simp] theorem setFacet_reads (k : Nat) (v : FacetState) (x : Nat) :
    (s.setFacet k v).reg x = s.reg x ∧ (s.setFacet k v).cell x = s.cell x ∧ (s.setFacet k v).block x = s.block x ∧
    (s.setFacet k v).region x = s.region x ∧ (s.setFacet k v).engine x = s.engine x ∧ (s.setFacet k v).stack x = s.stack x ∧
    (s.setFacet k v).bank x = s.bank x ∧ (s.setFacet k v).qp x = s.qp x ∧ (s.setFacet k v).slot x = s.slot x ∧
    (s.setFacet k v).group x = s.group x ∧ (s.setFacet k v).guest x = s.guest x ∧ (s.setFacet k v).line x = s.line x ∧
    (s.setFacet k v).ring x = s.ring x ∧ (s.setFacet k v).port x = s.port x ∧ (s.setFacet k v).memByte x = s.memByte x := by
  and_intros <;> rfl

@[simp] theorem setFacet_reads2 (k : Nat) (v : FacetState) (x y : Nat) :
    (s.setFacet k v).readMem x y = s.readMem x y ∧ (s.setFacet k v).readLe x y = s.readLe x y := by
  and_intros <;> rfl

@[simp] theorem setBank_fields (k : Nat) (v : BankState) :
    (s.setBank k v).regs = s.regs ∧ (s.setBank k v).nv = s.nv ∧ (s.setBank k v).nvDue = s.nvDue ∧
    (s.setBank k v).cells = s.cells ∧ (s.setBank k v).blocks = s.blocks ∧ (s.setBank k v).regions = s.regions ∧
    (s.setBank k v).engines = s.engines ∧ (s.setBank k v).staging = s.staging ∧ (s.setBank k v).mem = s.mem ∧
    (s.setBank k v).poison = s.poison ∧ (s.setBank k v).memStacks = s.memStacks ∧ (s.setBank k v).facets = s.facets ∧
    (s.setBank k v).loader = s.loader ∧ (s.setBank k v).qps = s.qps ∧ (s.setBank k v).slots = s.slots ∧
    (s.setBank k v).ses = s.ses ∧ (s.setBank k v).prism = s.prism ∧ (s.setBank k v).groups = s.groups ∧
    (s.setBank k v).guests = s.guests ∧ (s.setBank k v).lines = s.lines ∧ (s.setBank k v).rings = s.rings ∧
    (s.setBank k v).opt = s.opt ∧ (s.setBank k v).ports = s.ports ∧ (s.setBank k v).fab = s.fab ∧
    (s.setBank k v).msf = s.msf ∧ (s.setBank k v).sys = s.sys ∧ (s.setBank k v).out = s.out ∧
    (s.setBank k v).free = s.free ∧ (s.setBank k v).pending = s.pending := by
  and_intros <;> rfl

@[simp] theorem setBank_units (k : Nat) (v : BankState) :
    (s.setBank k v).dt = s.dt ∧ (s.setBank k v).beat = s.beat ∧ (s.setBank k v).devFrame = s.devFrame := by
  and_intros <;> rfl

@[simp] theorem setBank_reads (k : Nat) (v : BankState) (x : Nat) :
    (s.setBank k v).reg x = s.reg x ∧ (s.setBank k v).cell x = s.cell x ∧ (s.setBank k v).block x = s.block x ∧
    (s.setBank k v).region x = s.region x ∧ (s.setBank k v).engine x = s.engine x ∧ (s.setBank k v).stack x = s.stack x ∧
    (s.setBank k v).facet x = s.facet x ∧ (s.setBank k v).qp x = s.qp x ∧ (s.setBank k v).slot x = s.slot x ∧
    (s.setBank k v).group x = s.group x ∧ (s.setBank k v).guest x = s.guest x ∧ (s.setBank k v).line x = s.line x ∧
    (s.setBank k v).ring x = s.ring x ∧ (s.setBank k v).port x = s.port x ∧ (s.setBank k v).memByte x = s.memByte x := by
  and_intros <;> rfl

@[simp] theorem setBank_reads2 (k : Nat) (v : BankState) (x y : Nat) :
    (s.setBank k v).readMem x y = s.readMem x y ∧ (s.setBank k v).readLe x y = s.readLe x y := by
  and_intros <;> rfl

@[simp] theorem setQp_fields (k : Nat) (v : QpState) :
    (s.setQp k v).regs = s.regs ∧ (s.setQp k v).nv = s.nv ∧ (s.setQp k v).nvDue = s.nvDue ∧
    (s.setQp k v).cells = s.cells ∧ (s.setQp k v).blocks = s.blocks ∧ (s.setQp k v).regions = s.regions ∧
    (s.setQp k v).engines = s.engines ∧ (s.setQp k v).staging = s.staging ∧ (s.setQp k v).mem = s.mem ∧
    (s.setQp k v).poison = s.poison ∧ (s.setQp k v).memStacks = s.memStacks ∧ (s.setQp k v).facets = s.facets ∧
    (s.setQp k v).loader = s.loader ∧ (s.setQp k v).banks = s.banks ∧ (s.setQp k v).slots = s.slots ∧
    (s.setQp k v).ses = s.ses ∧ (s.setQp k v).prism = s.prism ∧ (s.setQp k v).groups = s.groups ∧
    (s.setQp k v).guests = s.guests ∧ (s.setQp k v).lines = s.lines ∧ (s.setQp k v).rings = s.rings ∧
    (s.setQp k v).opt = s.opt ∧ (s.setQp k v).ports = s.ports ∧ (s.setQp k v).fab = s.fab ∧
    (s.setQp k v).msf = s.msf ∧ (s.setQp k v).sys = s.sys ∧ (s.setQp k v).out = s.out ∧
    (s.setQp k v).free = s.free ∧ (s.setQp k v).pending = s.pending := by
  and_intros <;> rfl

@[simp] theorem setQp_units (k : Nat) (v : QpState) :
    (s.setQp k v).dt = s.dt ∧ (s.setQp k v).beat = s.beat ∧ (s.setQp k v).devFrame = s.devFrame := by
  and_intros <;> rfl

@[simp] theorem setQp_reads (k : Nat) (v : QpState) (x : Nat) :
    (s.setQp k v).reg x = s.reg x ∧ (s.setQp k v).cell x = s.cell x ∧ (s.setQp k v).block x = s.block x ∧
    (s.setQp k v).region x = s.region x ∧ (s.setQp k v).engine x = s.engine x ∧ (s.setQp k v).stack x = s.stack x ∧
    (s.setQp k v).facet x = s.facet x ∧ (s.setQp k v).bank x = s.bank x ∧ (s.setQp k v).slot x = s.slot x ∧
    (s.setQp k v).group x = s.group x ∧ (s.setQp k v).guest x = s.guest x ∧ (s.setQp k v).line x = s.line x ∧
    (s.setQp k v).ring x = s.ring x ∧ (s.setQp k v).port x = s.port x ∧ (s.setQp k v).memByte x = s.memByte x := by
  and_intros <;> rfl

@[simp] theorem setQp_reads2 (k : Nat) (v : QpState) (x y : Nat) :
    (s.setQp k v).readMem x y = s.readMem x y ∧ (s.setQp k v).readLe x y = s.readLe x y := by
  and_intros <;> rfl

@[simp] theorem setSlot_fields (k : Nat) (v : SlotState) :
    (s.setSlot k v).regs = s.regs ∧ (s.setSlot k v).nv = s.nv ∧ (s.setSlot k v).nvDue = s.nvDue ∧
    (s.setSlot k v).cells = s.cells ∧ (s.setSlot k v).blocks = s.blocks ∧ (s.setSlot k v).regions = s.regions ∧
    (s.setSlot k v).engines = s.engines ∧ (s.setSlot k v).staging = s.staging ∧ (s.setSlot k v).mem = s.mem ∧
    (s.setSlot k v).poison = s.poison ∧ (s.setSlot k v).memStacks = s.memStacks ∧ (s.setSlot k v).facets = s.facets ∧
    (s.setSlot k v).loader = s.loader ∧ (s.setSlot k v).banks = s.banks ∧ (s.setSlot k v).qps = s.qps ∧
    (s.setSlot k v).ses = s.ses ∧ (s.setSlot k v).prism = s.prism ∧ (s.setSlot k v).groups = s.groups ∧
    (s.setSlot k v).guests = s.guests ∧ (s.setSlot k v).lines = s.lines ∧ (s.setSlot k v).rings = s.rings ∧
    (s.setSlot k v).opt = s.opt ∧ (s.setSlot k v).ports = s.ports ∧ (s.setSlot k v).fab = s.fab ∧
    (s.setSlot k v).msf = s.msf ∧ (s.setSlot k v).sys = s.sys ∧ (s.setSlot k v).out = s.out ∧
    (s.setSlot k v).free = s.free ∧ (s.setSlot k v).pending = s.pending := by
  and_intros <;> rfl

@[simp] theorem setSlot_units (k : Nat) (v : SlotState) :
    (s.setSlot k v).dt = s.dt ∧ (s.setSlot k v).beat = s.beat ∧ (s.setSlot k v).devFrame = s.devFrame := by
  and_intros <;> rfl

@[simp] theorem setSlot_reads (k : Nat) (v : SlotState) (x : Nat) :
    (s.setSlot k v).reg x = s.reg x ∧ (s.setSlot k v).cell x = s.cell x ∧ (s.setSlot k v).block x = s.block x ∧
    (s.setSlot k v).region x = s.region x ∧ (s.setSlot k v).engine x = s.engine x ∧ (s.setSlot k v).stack x = s.stack x ∧
    (s.setSlot k v).facet x = s.facet x ∧ (s.setSlot k v).bank x = s.bank x ∧ (s.setSlot k v).qp x = s.qp x ∧
    (s.setSlot k v).group x = s.group x ∧ (s.setSlot k v).guest x = s.guest x ∧ (s.setSlot k v).line x = s.line x ∧
    (s.setSlot k v).ring x = s.ring x ∧ (s.setSlot k v).port x = s.port x ∧ (s.setSlot k v).memByte x = s.memByte x := by
  and_intros <;> rfl

@[simp] theorem setSlot_reads2 (k : Nat) (v : SlotState) (x y : Nat) :
    (s.setSlot k v).readMem x y = s.readMem x y ∧ (s.setSlot k v).readLe x y = s.readLe x y := by
  and_intros <;> rfl

@[simp] theorem setGroup_fields (k : Nat) (v : GroupDir) :
    (s.setGroup k v).regs = s.regs ∧ (s.setGroup k v).nv = s.nv ∧ (s.setGroup k v).nvDue = s.nvDue ∧
    (s.setGroup k v).cells = s.cells ∧ (s.setGroup k v).blocks = s.blocks ∧ (s.setGroup k v).regions = s.regions ∧
    (s.setGroup k v).engines = s.engines ∧ (s.setGroup k v).staging = s.staging ∧ (s.setGroup k v).mem = s.mem ∧
    (s.setGroup k v).poison = s.poison ∧ (s.setGroup k v).memStacks = s.memStacks ∧ (s.setGroup k v).facets = s.facets ∧
    (s.setGroup k v).loader = s.loader ∧ (s.setGroup k v).banks = s.banks ∧ (s.setGroup k v).qps = s.qps ∧
    (s.setGroup k v).slots = s.slots ∧ (s.setGroup k v).ses = s.ses ∧ (s.setGroup k v).prism = s.prism ∧
    (s.setGroup k v).guests = s.guests ∧ (s.setGroup k v).lines = s.lines ∧ (s.setGroup k v).rings = s.rings ∧
    (s.setGroup k v).opt = s.opt ∧ (s.setGroup k v).ports = s.ports ∧ (s.setGroup k v).fab = s.fab ∧
    (s.setGroup k v).msf = s.msf ∧ (s.setGroup k v).sys = s.sys ∧ (s.setGroup k v).out = s.out ∧
    (s.setGroup k v).free = s.free ∧ (s.setGroup k v).pending = s.pending := by
  and_intros <;> rfl

@[simp] theorem setGroup_units (k : Nat) (v : GroupDir) :
    (s.setGroup k v).dt = s.dt ∧ (s.setGroup k v).beat = s.beat ∧ (s.setGroup k v).devFrame = s.devFrame := by
  and_intros <;> rfl

@[simp] theorem setGroup_reads (k : Nat) (v : GroupDir) (x : Nat) :
    (s.setGroup k v).reg x = s.reg x ∧ (s.setGroup k v).cell x = s.cell x ∧ (s.setGroup k v).block x = s.block x ∧
    (s.setGroup k v).region x = s.region x ∧ (s.setGroup k v).engine x = s.engine x ∧ (s.setGroup k v).stack x = s.stack x ∧
    (s.setGroup k v).facet x = s.facet x ∧ (s.setGroup k v).bank x = s.bank x ∧ (s.setGroup k v).qp x = s.qp x ∧
    (s.setGroup k v).slot x = s.slot x ∧ (s.setGroup k v).guest x = s.guest x ∧ (s.setGroup k v).line x = s.line x ∧
    (s.setGroup k v).ring x = s.ring x ∧ (s.setGroup k v).port x = s.port x ∧ (s.setGroup k v).memByte x = s.memByte x := by
  and_intros <;> rfl

@[simp] theorem setGroup_reads2 (k : Nat) (v : GroupDir) (x y : Nat) :
    (s.setGroup k v).readMem x y = s.readMem x y ∧ (s.setGroup k v).readLe x y = s.readLe x y := by
  and_intros <;> rfl

@[simp] theorem setGuest_fields (k : Nat) (v : GuestState) :
    (s.setGuest k v).regs = s.regs ∧ (s.setGuest k v).nv = s.nv ∧ (s.setGuest k v).nvDue = s.nvDue ∧
    (s.setGuest k v).cells = s.cells ∧ (s.setGuest k v).blocks = s.blocks ∧ (s.setGuest k v).regions = s.regions ∧
    (s.setGuest k v).engines = s.engines ∧ (s.setGuest k v).staging = s.staging ∧ (s.setGuest k v).mem = s.mem ∧
    (s.setGuest k v).poison = s.poison ∧ (s.setGuest k v).memStacks = s.memStacks ∧ (s.setGuest k v).facets = s.facets ∧
    (s.setGuest k v).loader = s.loader ∧ (s.setGuest k v).banks = s.banks ∧ (s.setGuest k v).qps = s.qps ∧
    (s.setGuest k v).slots = s.slots ∧ (s.setGuest k v).ses = s.ses ∧ (s.setGuest k v).prism = s.prism ∧
    (s.setGuest k v).groups = s.groups ∧ (s.setGuest k v).lines = s.lines ∧ (s.setGuest k v).rings = s.rings ∧
    (s.setGuest k v).opt = s.opt ∧ (s.setGuest k v).ports = s.ports ∧ (s.setGuest k v).fab = s.fab ∧
    (s.setGuest k v).msf = s.msf ∧ (s.setGuest k v).sys = s.sys ∧ (s.setGuest k v).out = s.out ∧
    (s.setGuest k v).free = s.free ∧ (s.setGuest k v).pending = s.pending := by
  and_intros <;> rfl

@[simp] theorem setGuest_units (k : Nat) (v : GuestState) :
    (s.setGuest k v).dt = s.dt ∧ (s.setGuest k v).beat = s.beat ∧ (s.setGuest k v).devFrame = s.devFrame := by
  and_intros <;> rfl

@[simp] theorem setGuest_reads (k : Nat) (v : GuestState) (x : Nat) :
    (s.setGuest k v).reg x = s.reg x ∧ (s.setGuest k v).cell x = s.cell x ∧ (s.setGuest k v).block x = s.block x ∧
    (s.setGuest k v).region x = s.region x ∧ (s.setGuest k v).engine x = s.engine x ∧ (s.setGuest k v).stack x = s.stack x ∧
    (s.setGuest k v).facet x = s.facet x ∧ (s.setGuest k v).bank x = s.bank x ∧ (s.setGuest k v).qp x = s.qp x ∧
    (s.setGuest k v).slot x = s.slot x ∧ (s.setGuest k v).group x = s.group x ∧ (s.setGuest k v).line x = s.line x ∧
    (s.setGuest k v).ring x = s.ring x ∧ (s.setGuest k v).port x = s.port x ∧ (s.setGuest k v).memByte x = s.memByte x := by
  and_intros <;> rfl

@[simp] theorem setGuest_reads2 (k : Nat) (v : GuestState) (x y : Nat) :
    (s.setGuest k v).readMem x y = s.readMem x y ∧ (s.setGuest k v).readLe x y = s.readLe x y := by
  and_intros <;> rfl

@[simp] theorem setLine_fields (k : Nat) (v : LineState) :
    (s.setLine k v).regs = s.regs ∧ (s.setLine k v).nv = s.nv ∧ (s.setLine k v).nvDue = s.nvDue ∧
    (s.setLine k v).cells = s.cells ∧ (s.setLine k v).blocks = s.blocks ∧ (s.setLine k v).regions = s.regions ∧
    (s.setLine k v).engines = s.engines ∧ (s.setLine k v).staging = s.staging ∧ (s.setLine k v).mem = s.mem ∧
    (s.setLine k v).poison = s.poison ∧ (s.setLine k v).memStacks = s.memStacks ∧ (s.setLine k v).facets = s.facets ∧
    (s.setLine k v).loader = s.loader ∧ (s.setLine k v).banks = s.banks ∧ (s.setLine k v).qps = s.qps ∧
    (s.setLine k v).slots = s.slots ∧ (s.setLine k v).ses = s.ses ∧ (s.setLine k v).prism = s.prism ∧
    (s.setLine k v).groups = s.groups ∧ (s.setLine k v).guests = s.guests ∧ (s.setLine k v).rings = s.rings ∧
    (s.setLine k v).opt = s.opt ∧ (s.setLine k v).ports = s.ports ∧ (s.setLine k v).fab = s.fab ∧
    (s.setLine k v).msf = s.msf ∧ (s.setLine k v).sys = s.sys ∧ (s.setLine k v).out = s.out ∧
    (s.setLine k v).free = s.free ∧ (s.setLine k v).pending = s.pending := by
  and_intros <;> rfl

@[simp] theorem setLine_units (k : Nat) (v : LineState) :
    (s.setLine k v).dt = s.dt ∧ (s.setLine k v).beat = s.beat ∧ (s.setLine k v).devFrame = s.devFrame := by
  and_intros <;> rfl

@[simp] theorem setLine_reads (k : Nat) (v : LineState) (x : Nat) :
    (s.setLine k v).reg x = s.reg x ∧ (s.setLine k v).cell x = s.cell x ∧ (s.setLine k v).block x = s.block x ∧
    (s.setLine k v).region x = s.region x ∧ (s.setLine k v).engine x = s.engine x ∧ (s.setLine k v).stack x = s.stack x ∧
    (s.setLine k v).facet x = s.facet x ∧ (s.setLine k v).bank x = s.bank x ∧ (s.setLine k v).qp x = s.qp x ∧
    (s.setLine k v).slot x = s.slot x ∧ (s.setLine k v).group x = s.group x ∧ (s.setLine k v).guest x = s.guest x ∧
    (s.setLine k v).ring x = s.ring x ∧ (s.setLine k v).port x = s.port x ∧ (s.setLine k v).memByte x = s.memByte x := by
  and_intros <;> rfl

@[simp] theorem setLine_reads2 (k : Nat) (v : LineState) (x y : Nat) :
    (s.setLine k v).readMem x y = s.readMem x y ∧ (s.setLine k v).readLe x y = s.readLe x y := by
  and_intros <;> rfl

@[simp] theorem setRing_fields (k : Nat) (v : RingState) :
    (s.setRing k v).regs = s.regs ∧ (s.setRing k v).nv = s.nv ∧ (s.setRing k v).nvDue = s.nvDue ∧
    (s.setRing k v).cells = s.cells ∧ (s.setRing k v).blocks = s.blocks ∧ (s.setRing k v).regions = s.regions ∧
    (s.setRing k v).engines = s.engines ∧ (s.setRing k v).staging = s.staging ∧ (s.setRing k v).mem = s.mem ∧
    (s.setRing k v).poison = s.poison ∧ (s.setRing k v).memStacks = s.memStacks ∧ (s.setRing k v).facets = s.facets ∧
    (s.setRing k v).loader = s.loader ∧ (s.setRing k v).banks = s.banks ∧ (s.setRing k v).qps = s.qps ∧
    (s.setRing k v).slots = s.slots ∧ (s.setRing k v).ses = s.ses ∧ (s.setRing k v).prism = s.prism ∧
    (s.setRing k v).groups = s.groups ∧ (s.setRing k v).guests = s.guests ∧ (s.setRing k v).lines = s.lines ∧
    (s.setRing k v).opt = s.opt ∧ (s.setRing k v).ports = s.ports ∧ (s.setRing k v).fab = s.fab ∧
    (s.setRing k v).msf = s.msf ∧ (s.setRing k v).sys = s.sys ∧ (s.setRing k v).out = s.out ∧
    (s.setRing k v).free = s.free ∧ (s.setRing k v).pending = s.pending := by
  and_intros <;> rfl

@[simp] theorem setRing_units (k : Nat) (v : RingState) :
    (s.setRing k v).dt = s.dt ∧ (s.setRing k v).beat = s.beat ∧ (s.setRing k v).devFrame = s.devFrame := by
  and_intros <;> rfl

@[simp] theorem setRing_reads (k : Nat) (v : RingState) (x : Nat) :
    (s.setRing k v).reg x = s.reg x ∧ (s.setRing k v).cell x = s.cell x ∧ (s.setRing k v).block x = s.block x ∧
    (s.setRing k v).region x = s.region x ∧ (s.setRing k v).engine x = s.engine x ∧ (s.setRing k v).stack x = s.stack x ∧
    (s.setRing k v).facet x = s.facet x ∧ (s.setRing k v).bank x = s.bank x ∧ (s.setRing k v).qp x = s.qp x ∧
    (s.setRing k v).slot x = s.slot x ∧ (s.setRing k v).group x = s.group x ∧ (s.setRing k v).guest x = s.guest x ∧
    (s.setRing k v).line x = s.line x ∧ (s.setRing k v).port x = s.port x ∧ (s.setRing k v).memByte x = s.memByte x := by
  and_intros <;> rfl

@[simp] theorem setRing_reads2 (k : Nat) (v : RingState) (x y : Nat) :
    (s.setRing k v).readMem x y = s.readMem x y ∧ (s.setRing k v).readLe x y = s.readLe x y := by
  and_intros <;> rfl

@[simp] theorem setPort_fields (k : Nat) (v : PortState) :
    (s.setPort k v).regs = s.regs ∧ (s.setPort k v).nv = s.nv ∧ (s.setPort k v).nvDue = s.nvDue ∧
    (s.setPort k v).cells = s.cells ∧ (s.setPort k v).blocks = s.blocks ∧ (s.setPort k v).regions = s.regions ∧
    (s.setPort k v).engines = s.engines ∧ (s.setPort k v).staging = s.staging ∧ (s.setPort k v).mem = s.mem ∧
    (s.setPort k v).poison = s.poison ∧ (s.setPort k v).memStacks = s.memStacks ∧ (s.setPort k v).facets = s.facets ∧
    (s.setPort k v).loader = s.loader ∧ (s.setPort k v).banks = s.banks ∧ (s.setPort k v).qps = s.qps ∧
    (s.setPort k v).slots = s.slots ∧ (s.setPort k v).ses = s.ses ∧ (s.setPort k v).prism = s.prism ∧
    (s.setPort k v).groups = s.groups ∧ (s.setPort k v).guests = s.guests ∧ (s.setPort k v).lines = s.lines ∧
    (s.setPort k v).rings = s.rings ∧ (s.setPort k v).opt = s.opt ∧ (s.setPort k v).fab = s.fab ∧
    (s.setPort k v).msf = s.msf ∧ (s.setPort k v).sys = s.sys ∧ (s.setPort k v).out = s.out ∧
    (s.setPort k v).free = s.free ∧ (s.setPort k v).pending = s.pending := by
  and_intros <;> rfl

@[simp] theorem setPort_units (k : Nat) (v : PortState) :
    (s.setPort k v).dt = s.dt ∧ (s.setPort k v).beat = s.beat ∧ (s.setPort k v).devFrame = s.devFrame := by
  and_intros <;> rfl

@[simp] theorem setPort_reads (k : Nat) (v : PortState) (x : Nat) :
    (s.setPort k v).reg x = s.reg x ∧ (s.setPort k v).cell x = s.cell x ∧ (s.setPort k v).block x = s.block x ∧
    (s.setPort k v).region x = s.region x ∧ (s.setPort k v).engine x = s.engine x ∧ (s.setPort k v).stack x = s.stack x ∧
    (s.setPort k v).facet x = s.facet x ∧ (s.setPort k v).bank x = s.bank x ∧ (s.setPort k v).qp x = s.qp x ∧
    (s.setPort k v).slot x = s.slot x ∧ (s.setPort k v).group x = s.group x ∧ (s.setPort k v).guest x = s.guest x ∧
    (s.setPort k v).line x = s.line x ∧ (s.setPort k v).ring x = s.ring x ∧ (s.setPort k v).memByte x = s.memByte x := by
  and_intros <;> rfl

@[simp] theorem setPort_reads2 (k : Nat) (v : PortState) (x y : Nat) :
    (s.setPort k v).readMem x y = s.readMem x y ∧ (s.setPort k v).readLe x y = s.readLe x y := by
  and_intros <;> rfl

@[simp] theorem emit_fields (o : Output) :
    (s.emit o).regs = s.regs ∧ (s.emit o).nv = s.nv ∧ (s.emit o).nvDue = s.nvDue ∧
    (s.emit o).cells = s.cells ∧ (s.emit o).blocks = s.blocks ∧ (s.emit o).regions = s.regions ∧
    (s.emit o).engines = s.engines ∧ (s.emit o).staging = s.staging ∧ (s.emit o).mem = s.mem ∧
    (s.emit o).poison = s.poison ∧ (s.emit o).memStacks = s.memStacks ∧ (s.emit o).facets = s.facets ∧
    (s.emit o).loader = s.loader ∧ (s.emit o).banks = s.banks ∧ (s.emit o).qps = s.qps ∧
    (s.emit o).slots = s.slots ∧ (s.emit o).ses = s.ses ∧ (s.emit o).prism = s.prism ∧
    (s.emit o).groups = s.groups ∧ (s.emit o).guests = s.guests ∧ (s.emit o).lines = s.lines ∧
    (s.emit o).rings = s.rings ∧ (s.emit o).opt = s.opt ∧ (s.emit o).ports = s.ports ∧
    (s.emit o).fab = s.fab ∧ (s.emit o).msf = s.msf ∧ (s.emit o).sys = s.sys ∧
    (s.emit o).free = s.free ∧ (s.emit o).pending = s.pending := by
  and_intros <;> rfl

@[simp] theorem emit_units (o : Output) :
    (s.emit o).dt = s.dt ∧ (s.emit o).beat = s.beat ∧ (s.emit o).devFrame = s.devFrame := by
  and_intros <;> rfl

@[simp] theorem emit_reads (o : Output) (x : Nat) :
    (s.emit o).reg x = s.reg x ∧ (s.emit o).cell x = s.cell x ∧ (s.emit o).block x = s.block x ∧
    (s.emit o).region x = s.region x ∧ (s.emit o).engine x = s.engine x ∧ (s.emit o).stack x = s.stack x ∧
    (s.emit o).facet x = s.facet x ∧ (s.emit o).bank x = s.bank x ∧ (s.emit o).qp x = s.qp x ∧
    (s.emit o).slot x = s.slot x ∧ (s.emit o).group x = s.group x ∧ (s.emit o).guest x = s.guest x ∧
    (s.emit o).line x = s.line x ∧ (s.emit o).ring x = s.ring x ∧ (s.emit o).port x = s.port x ∧
    (s.emit o).memByte x = s.memByte x := by
  and_intros <;> rfl

@[simp] theorem emit_reads2 (o : Output) (x y : Nat) :
    (s.emit o).readMem x y = s.readMem x y ∧ (s.emit o).readLe x y = s.readLe x y := by
  and_intros <;> rfl

@[simp] theorem useFree_fields (n : Nat) :
    (s.useFree n).regs = s.regs ∧ (s.useFree n).nv = s.nv ∧ (s.useFree n).nvDue = s.nvDue ∧
    (s.useFree n).cells = s.cells ∧ (s.useFree n).blocks = s.blocks ∧ (s.useFree n).regions = s.regions ∧
    (s.useFree n).engines = s.engines ∧ (s.useFree n).staging = s.staging ∧ (s.useFree n).mem = s.mem ∧
    (s.useFree n).poison = s.poison ∧ (s.useFree n).memStacks = s.memStacks ∧ (s.useFree n).facets = s.facets ∧
    (s.useFree n).loader = s.loader ∧ (s.useFree n).banks = s.banks ∧ (s.useFree n).qps = s.qps ∧
    (s.useFree n).slots = s.slots ∧ (s.useFree n).ses = s.ses ∧ (s.useFree n).prism = s.prism ∧
    (s.useFree n).groups = s.groups ∧ (s.useFree n).guests = s.guests ∧ (s.useFree n).lines = s.lines ∧
    (s.useFree n).rings = s.rings ∧ (s.useFree n).opt = s.opt ∧ (s.useFree n).ports = s.ports ∧
    (s.useFree n).fab = s.fab ∧ (s.useFree n).msf = s.msf ∧ (s.useFree n).sys = s.sys ∧
    (s.useFree n).out = s.out ∧ (s.useFree n).pending = s.pending := by
  and_intros <;> rfl

@[simp] theorem useFree_units (n : Nat) :
    (s.useFree n).dt = s.dt ∧ (s.useFree n).beat = s.beat ∧ (s.useFree n).devFrame = s.devFrame := by
  and_intros <;> rfl

@[simp] theorem useFree_reads (n : Nat) (x : Nat) :
    (s.useFree n).reg x = s.reg x ∧ (s.useFree n).cell x = s.cell x ∧ (s.useFree n).block x = s.block x ∧
    (s.useFree n).region x = s.region x ∧ (s.useFree n).engine x = s.engine x ∧ (s.useFree n).stack x = s.stack x ∧
    (s.useFree n).facet x = s.facet x ∧ (s.useFree n).bank x = s.bank x ∧ (s.useFree n).qp x = s.qp x ∧
    (s.useFree n).slot x = s.slot x ∧ (s.useFree n).group x = s.group x ∧ (s.useFree n).guest x = s.guest x ∧
    (s.useFree n).line x = s.line x ∧ (s.useFree n).ring x = s.ring x ∧ (s.useFree n).port x = s.port x ∧
    (s.useFree n).memByte x = s.memByte x := by
  and_intros <;> rfl

@[simp] theorem useFree_reads2 (n : Nat) (x y : Nat) :
    (s.useFree n).readMem x y = s.readMem x y ∧ (s.useFree n).readLe x y = s.readLe x y := by
  and_intros <;> rfl

@[simp] theorem writeMem_fields (k : Nat) (b : Bytes) :
    (s.writeMem k b).regs = s.regs ∧ (s.writeMem k b).nv = s.nv ∧ (s.writeMem k b).nvDue = s.nvDue ∧
    (s.writeMem k b).cells = s.cells ∧ (s.writeMem k b).blocks = s.blocks ∧ (s.writeMem k b).regions = s.regions ∧
    (s.writeMem k b).engines = s.engines ∧ (s.writeMem k b).staging = s.staging ∧ (s.writeMem k b).poison = s.poison ∧
    (s.writeMem k b).memStacks = s.memStacks ∧ (s.writeMem k b).facets = s.facets ∧ (s.writeMem k b).loader = s.loader ∧
    (s.writeMem k b).banks = s.banks ∧ (s.writeMem k b).qps = s.qps ∧ (s.writeMem k b).slots = s.slots ∧
    (s.writeMem k b).ses = s.ses ∧ (s.writeMem k b).prism = s.prism ∧ (s.writeMem k b).groups = s.groups ∧
    (s.writeMem k b).guests = s.guests ∧ (s.writeMem k b).lines = s.lines ∧ (s.writeMem k b).rings = s.rings ∧
    (s.writeMem k b).opt = s.opt ∧ (s.writeMem k b).ports = s.ports ∧ (s.writeMem k b).fab = s.fab ∧
    (s.writeMem k b).msf = s.msf ∧ (s.writeMem k b).sys = s.sys ∧ (s.writeMem k b).out = s.out ∧
    (s.writeMem k b).free = s.free ∧ (s.writeMem k b).pending = s.pending := by
  and_intros <;> rfl

@[simp] theorem writeMem_units (k : Nat) (b : Bytes) :
    (s.writeMem k b).dt = s.dt ∧ (s.writeMem k b).beat = s.beat ∧ (s.writeMem k b).devFrame = s.devFrame := by
  and_intros <;> rfl

@[simp] theorem writeMem_reads (k : Nat) (b : Bytes) (x : Nat) :
    (s.writeMem k b).reg x = s.reg x ∧ (s.writeMem k b).cell x = s.cell x ∧ (s.writeMem k b).block x = s.block x ∧
    (s.writeMem k b).region x = s.region x ∧ (s.writeMem k b).engine x = s.engine x ∧ (s.writeMem k b).stack x = s.stack x ∧
    (s.writeMem k b).facet x = s.facet x ∧ (s.writeMem k b).bank x = s.bank x ∧ (s.writeMem k b).qp x = s.qp x ∧
    (s.writeMem k b).slot x = s.slot x ∧ (s.writeMem k b).group x = s.group x ∧ (s.writeMem k b).guest x = s.guest x ∧
    (s.writeMem k b).line x = s.line x ∧ (s.writeMem k b).ring x = s.ring x ∧ (s.writeMem k b).port x = s.port x := by
  and_intros <;> rfl

@[simp] theorem writeStaging_fields (k : Nat) (b : Bytes) :
    (s.writeStaging k b).regs = s.regs ∧ (s.writeStaging k b).nv = s.nv ∧ (s.writeStaging k b).nvDue = s.nvDue ∧
    (s.writeStaging k b).cells = s.cells ∧ (s.writeStaging k b).blocks = s.blocks ∧ (s.writeStaging k b).regions = s.regions ∧
    (s.writeStaging k b).engines = s.engines ∧ (s.writeStaging k b).mem = s.mem ∧ (s.writeStaging k b).poison = s.poison ∧
    (s.writeStaging k b).memStacks = s.memStacks ∧ (s.writeStaging k b).facets = s.facets ∧ (s.writeStaging k b).loader = s.loader ∧
    (s.writeStaging k b).banks = s.banks ∧ (s.writeStaging k b).qps = s.qps ∧ (s.writeStaging k b).slots = s.slots ∧
    (s.writeStaging k b).ses = s.ses ∧ (s.writeStaging k b).prism = s.prism ∧ (s.writeStaging k b).groups = s.groups ∧
    (s.writeStaging k b).guests = s.guests ∧ (s.writeStaging k b).lines = s.lines ∧ (s.writeStaging k b).rings = s.rings ∧
    (s.writeStaging k b).opt = s.opt ∧ (s.writeStaging k b).ports = s.ports ∧ (s.writeStaging k b).fab = s.fab ∧
    (s.writeStaging k b).msf = s.msf ∧ (s.writeStaging k b).sys = s.sys ∧ (s.writeStaging k b).out = s.out ∧
    (s.writeStaging k b).free = s.free ∧ (s.writeStaging k b).pending = s.pending := by
  and_intros <;> rfl

@[simp] theorem writeStaging_units (k : Nat) (b : Bytes) :
    (s.writeStaging k b).dt = s.dt ∧ (s.writeStaging k b).beat = s.beat ∧ (s.writeStaging k b).devFrame = s.devFrame := by
  and_intros <;> rfl

@[simp] theorem writeStaging_reads (k : Nat) (b : Bytes) (x : Nat) :
    (s.writeStaging k b).reg x = s.reg x ∧ (s.writeStaging k b).cell x = s.cell x ∧ (s.writeStaging k b).block x = s.block x ∧
    (s.writeStaging k b).region x = s.region x ∧ (s.writeStaging k b).engine x = s.engine x ∧ (s.writeStaging k b).stack x = s.stack x ∧
    (s.writeStaging k b).facet x = s.facet x ∧ (s.writeStaging k b).bank x = s.bank x ∧ (s.writeStaging k b).qp x = s.qp x ∧
    (s.writeStaging k b).slot x = s.slot x ∧ (s.writeStaging k b).group x = s.group x ∧ (s.writeStaging k b).guest x = s.guest x ∧
    (s.writeStaging k b).line x = s.line x ∧ (s.writeStaging k b).ring x = s.ring x ∧ (s.writeStaging k b).port x = s.port x ∧
    (s.writeStaging k b).memByte x = s.memByte x := by
  and_intros <;> rfl

@[simp] theorem writeStaging_reads2 (k : Nat) (b : Bytes) (x y : Nat) :
    (s.writeStaging k b).readMem x y = s.readMem x y ∧ (s.writeStaging k b).readLe x y = s.readLe x y := by
  and_intros <;> rfl

@[simp] theorem addPoison_fields (k : Nat) :
    (s.addPoison k).regs = s.regs ∧ (s.addPoison k).nv = s.nv ∧ (s.addPoison k).nvDue = s.nvDue ∧
    (s.addPoison k).cells = s.cells ∧ (s.addPoison k).blocks = s.blocks ∧ (s.addPoison k).regions = s.regions ∧
    (s.addPoison k).engines = s.engines ∧ (s.addPoison k).staging = s.staging ∧ (s.addPoison k).mem = s.mem ∧
    (s.addPoison k).memStacks = s.memStacks ∧ (s.addPoison k).facets = s.facets ∧ (s.addPoison k).loader = s.loader ∧
    (s.addPoison k).banks = s.banks ∧ (s.addPoison k).qps = s.qps ∧ (s.addPoison k).slots = s.slots ∧
    (s.addPoison k).ses = s.ses ∧ (s.addPoison k).prism = s.prism ∧ (s.addPoison k).groups = s.groups ∧
    (s.addPoison k).guests = s.guests ∧ (s.addPoison k).lines = s.lines ∧ (s.addPoison k).rings = s.rings ∧
    (s.addPoison k).opt = s.opt ∧ (s.addPoison k).ports = s.ports ∧ (s.addPoison k).fab = s.fab ∧
    (s.addPoison k).msf = s.msf ∧ (s.addPoison k).sys = s.sys ∧ (s.addPoison k).out = s.out ∧
    (s.addPoison k).free = s.free ∧ (s.addPoison k).pending = s.pending := by
  and_intros <;> rfl

@[simp] theorem addPoison_units (k : Nat) :
    (s.addPoison k).dt = s.dt ∧ (s.addPoison k).beat = s.beat ∧ (s.addPoison k).devFrame = s.devFrame := by
  and_intros <;> rfl

@[simp] theorem addPoison_reads (k : Nat) (x : Nat) :
    (s.addPoison k).reg x = s.reg x ∧ (s.addPoison k).cell x = s.cell x ∧ (s.addPoison k).block x = s.block x ∧
    (s.addPoison k).region x = s.region x ∧ (s.addPoison k).engine x = s.engine x ∧ (s.addPoison k).stack x = s.stack x ∧
    (s.addPoison k).facet x = s.facet x ∧ (s.addPoison k).bank x = s.bank x ∧ (s.addPoison k).qp x = s.qp x ∧
    (s.addPoison k).slot x = s.slot x ∧ (s.addPoison k).group x = s.group x ∧ (s.addPoison k).guest x = s.guest x ∧
    (s.addPoison k).line x = s.line x ∧ (s.addPoison k).ring x = s.ring x ∧ (s.addPoison k).port x = s.port x ∧
    (s.addPoison k).memByte x = s.memByte x := by
  and_intros <;> rfl

@[simp] theorem addPoison_reads2 (k : Nat) (x y : Nat) :
    (s.addPoison k).readMem x y = s.readMem x y ∧ (s.addPoison k).readLe x y = s.readLe x y := by
  and_intros <;> rfl

@[simp] theorem clearPoison_fields (k l : Nat) :
    (s.clearPoison k l).regs = s.regs ∧ (s.clearPoison k l).nv = s.nv ∧ (s.clearPoison k l).nvDue = s.nvDue ∧
    (s.clearPoison k l).cells = s.cells ∧ (s.clearPoison k l).blocks = s.blocks ∧ (s.clearPoison k l).regions = s.regions ∧
    (s.clearPoison k l).engines = s.engines ∧ (s.clearPoison k l).staging = s.staging ∧ (s.clearPoison k l).mem = s.mem ∧
    (s.clearPoison k l).memStacks = s.memStacks ∧ (s.clearPoison k l).facets = s.facets ∧ (s.clearPoison k l).loader = s.loader ∧
    (s.clearPoison k l).banks = s.banks ∧ (s.clearPoison k l).qps = s.qps ∧ (s.clearPoison k l).slots = s.slots ∧
    (s.clearPoison k l).ses = s.ses ∧ (s.clearPoison k l).prism = s.prism ∧ (s.clearPoison k l).groups = s.groups ∧
    (s.clearPoison k l).guests = s.guests ∧ (s.clearPoison k l).lines = s.lines ∧ (s.clearPoison k l).rings = s.rings ∧
    (s.clearPoison k l).opt = s.opt ∧ (s.clearPoison k l).ports = s.ports ∧ (s.clearPoison k l).fab = s.fab ∧
    (s.clearPoison k l).msf = s.msf ∧ (s.clearPoison k l).sys = s.sys ∧ (s.clearPoison k l).out = s.out ∧
    (s.clearPoison k l).free = s.free ∧ (s.clearPoison k l).pending = s.pending := by
  and_intros <;> rfl

@[simp] theorem clearPoison_units (k l : Nat) :
    (s.clearPoison k l).dt = s.dt ∧ (s.clearPoison k l).beat = s.beat ∧ (s.clearPoison k l).devFrame = s.devFrame := by
  and_intros <;> rfl

@[simp] theorem clearPoison_reads (k l : Nat) (x : Nat) :
    (s.clearPoison k l).reg x = s.reg x ∧ (s.clearPoison k l).cell x = s.cell x ∧ (s.clearPoison k l).block x = s.block x ∧
    (s.clearPoison k l).region x = s.region x ∧ (s.clearPoison k l).engine x = s.engine x ∧ (s.clearPoison k l).stack x = s.stack x ∧
    (s.clearPoison k l).facet x = s.facet x ∧ (s.clearPoison k l).bank x = s.bank x ∧ (s.clearPoison k l).qp x = s.qp x ∧
    (s.clearPoison k l).slot x = s.slot x ∧ (s.clearPoison k l).group x = s.group x ∧ (s.clearPoison k l).guest x = s.guest x ∧
    (s.clearPoison k l).line x = s.line x ∧ (s.clearPoison k l).ring x = s.ring x ∧ (s.clearPoison k l).port x = s.port x ∧
    (s.clearPoison k l).memByte x = s.memByte x := by
  and_intros <;> rfl

@[simp] theorem clearPoison_reads2 (k l : Nat) (x y : Nat) :
    (s.clearPoison k l).readMem x y = s.readMem x y ∧ (s.clearPoison k l).readLe x y = s.readLe x y := by
  and_intros <;> rfl

@[simp] theorem setRst_fields (v : RstState) :
    (s.setRst v).regs = s.regs ∧ (s.setRst v).nv = s.nv ∧ (s.setRst v).nvDue = s.nvDue ∧
    (s.setRst v).cells = s.cells ∧ (s.setRst v).blocks = s.blocks ∧ (s.setRst v).regions = s.regions ∧
    (s.setRst v).engines = s.engines ∧ (s.setRst v).staging = s.staging ∧ (s.setRst v).mem = s.mem ∧
    (s.setRst v).poison = s.poison ∧ (s.setRst v).memStacks = s.memStacks ∧ (s.setRst v).facets = s.facets ∧
    (s.setRst v).loader = s.loader ∧ (s.setRst v).banks = s.banks ∧ (s.setRst v).qps = s.qps ∧
    (s.setRst v).slots = s.slots ∧ (s.setRst v).ses = s.ses ∧ (s.setRst v).prism = s.prism ∧
    (s.setRst v).groups = s.groups ∧ (s.setRst v).guests = s.guests ∧ (s.setRst v).lines = s.lines ∧
    (s.setRst v).rings = s.rings ∧ (s.setRst v).opt = s.opt ∧ (s.setRst v).ports = s.ports ∧
    (s.setRst v).fab = s.fab ∧ (s.setRst v).msf = s.msf ∧ (s.setRst v).out = s.out ∧
    (s.setRst v).free = s.free ∧ (s.setRst v).pending = s.pending := by
  and_intros <;> rfl

@[simp] theorem setRst_units (v : RstState) :
    (s.setRst v).sys.clk = s.sys.clk ∧ (s.setRst v).sys.pwr = s.sys.pwr ∧ (s.setRst v).sys.thm = s.sys.thm ∧
    (s.setRst v).sys.cnd = s.sys.cnd ∧ (s.setRst v).sys.sec = s.sys.sec ∧ (s.setRst v).sys.host = s.sys.host ∧
    (s.setRst v).sys.rst = v ∧ (s.setRst v).dt = s.dt ∧ (s.setRst v).beat = s.beat ∧
    (s.setRst v).devFrame = s.devFrame := by
  and_intros <;> rfl

@[simp] theorem setRst_reads (v : RstState) (x : Nat) :
    (s.setRst v).reg x = s.reg x ∧ (s.setRst v).cell x = s.cell x ∧ (s.setRst v).block x = s.block x ∧
    (s.setRst v).region x = s.region x ∧ (s.setRst v).engine x = s.engine x ∧ (s.setRst v).stack x = s.stack x ∧
    (s.setRst v).facet x = s.facet x ∧ (s.setRst v).bank x = s.bank x ∧ (s.setRst v).qp x = s.qp x ∧
    (s.setRst v).slot x = s.slot x ∧ (s.setRst v).group x = s.group x ∧ (s.setRst v).guest x = s.guest x ∧
    (s.setRst v).line x = s.line x ∧ (s.setRst v).ring x = s.ring x ∧ (s.setRst v).port x = s.port x ∧
    (s.setRst v).memByte x = s.memByte x := by
  and_intros <;> rfl

@[simp] theorem setRst_reads2 (v : RstState) (x y : Nat) :
    (s.setRst v).readMem x y = s.readMem x y ∧ (s.setRst v).readLe x y = s.readLe x y := by
  and_intros <;> rfl

/-! Reading back. -/

theorem reg_setReg (a b : Nat) (v : Word) : (s.setReg a v).reg b = if a = b then v else s.reg b := by
  unfold reg setReg
  by_cases h : a = b
  · subst h; simp
  · simp [h, tget_tset_other]

@[simp] theorem reg_setReg_self (a : Nat) (v : Word) : (s.setReg a v).reg a = v := by simp [reg_setReg]

theorem cell_setCell (a b : Nat) (v : CellState) : (s.setCell a v).cell b = if a = b then v else s.cell b := by
  simp only [cell, setCell, tget_tset]

@[simp] theorem cell_setCell_self (a : Nat) (v : CellState) : (s.setCell a v).cell a = v := by simp [cell_setCell]

theorem block_setBlock (a b : Nat) (v : BlockState) : (s.setBlock a v).block b = if a = b then v else s.block b := by
  simp only [block, setBlock, tget_tset]

@[simp] theorem block_setBlock_self (a : Nat) (v : BlockState) : (s.setBlock a v).block a = v := by simp [block_setBlock]

theorem region_setRegion (a b : Nat) (v : RegionState) : (s.setRegion a v).region b = if a = b then v else s.region b := by
  simp only [region, setRegion, tget_tset]

@[simp] theorem region_setRegion_self (a : Nat) (v : RegionState) : (s.setRegion a v).region a = v := by simp [region_setRegion]

theorem engine_setEngine (a b : Nat) (v : EngineState) : (s.setEngine a v).engine b = if a = b then v else s.engine b := by
  simp only [engine, setEngine, tget_tset]

@[simp] theorem engine_setEngine_self (a : Nat) (v : EngineState) : (s.setEngine a v).engine a = v := by simp [engine_setEngine]

theorem stack_setStack (a b : Nat) (v : StackState) : (s.setStack a v).stack b = if a = b then v else s.stack b := by
  simp only [stack, setStack, tget_tset]

@[simp] theorem stack_setStack_self (a : Nat) (v : StackState) : (s.setStack a v).stack a = v := by simp [stack_setStack]

theorem facet_setFacet (a b : Nat) (v : FacetState) : (s.setFacet a v).facet b = if a = b then v else s.facet b := by
  simp only [facet, setFacet, tget_tset]

@[simp] theorem facet_setFacet_self (a : Nat) (v : FacetState) : (s.setFacet a v).facet a = v := by simp [facet_setFacet]

theorem bank_setBank (a b : Nat) (v : BankState) : (s.setBank a v).bank b = if a = b then v else s.bank b := by
  simp only [bank, setBank, tget_tset]

@[simp] theorem bank_setBank_self (a : Nat) (v : BankState) : (s.setBank a v).bank a = v := by simp [bank_setBank]

theorem qp_setQp (a b : Nat) (v : QpState) : (s.setQp a v).qp b = if a = b then v else s.qp b := by
  simp only [qp, setQp, tget_tset]

@[simp] theorem qp_setQp_self (a : Nat) (v : QpState) : (s.setQp a v).qp a = v := by simp [qp_setQp]

theorem slot_setSlot (a b : Nat) (v : SlotState) : (s.setSlot a v).slot b = if a = b then v else s.slot b := by
  simp only [slot, setSlot, tget_tset]

@[simp] theorem slot_setSlot_self (a : Nat) (v : SlotState) : (s.setSlot a v).slot a = v := by simp [slot_setSlot]

theorem group_setGroup (a b : Nat) (v : GroupDir) : (s.setGroup a v).group b = if a = b then v else s.group b := by
  simp only [group, setGroup, tget_tset]

@[simp] theorem group_setGroup_self (a : Nat) (v : GroupDir) : (s.setGroup a v).group a = v := by simp [group_setGroup]

theorem guest_setGuest (a b : Nat) (v : GuestState) : (s.setGuest a v).guest b = if a = b then v else s.guest b := by
  simp only [guest, setGuest, tget_tset]

@[simp] theorem guest_setGuest_self (a : Nat) (v : GuestState) : (s.setGuest a v).guest a = v := by simp [guest_setGuest]

theorem line_setLine (a b : Nat) (v : LineState) : (s.setLine a v).line b = if a = b then v else s.line b := by
  simp only [line, setLine, tget_tset]

@[simp] theorem line_setLine_self (a : Nat) (v : LineState) : (s.setLine a v).line a = v := by simp [line_setLine]

theorem ring_setRing (a b : Nat) (v : RingState) : (s.setRing a v).ring b = if a = b then v else s.ring b := by
  simp only [ring, setRing, tget_tset]

@[simp] theorem ring_setRing_self (a : Nat) (v : RingState) : (s.setRing a v).ring a = v := by simp [ring_setRing]

theorem port_setPort (a b : Nat) (v : PortState) : (s.setPort a v).port b = if a = b then v else s.port b := by
  simp only [port, setPort, tget_tset]

@[simp] theorem port_setPort_self (a : Nat) (v : PortState) : (s.setPort a v).port a = v := by simp [port_setPort]

/-! The register operations are writes of one register. -/

@[simp] theorem wf_eq (a hi lo v : Nat) : s.wf a hi lo v = s.setReg a (setFld (s.reg a) hi lo v) := rfl
@[simp] theorem raise_eq (a i : Nat) : s.raise a i = s.setReg a (s.reg a ||| bitW i) := rfl
@[simp] theorem addSat_eq (a hi lo n : Nat) :
    s.addSat a hi lo n = s.setReg a (setFld (s.reg a) hi lo (satAdd (2 ^ (hi + 1 - lo) - 1) (s.rf a hi lo) n)) := rfl
@[simp] theorem count_eq (a n : Nat) :
    s.count a n = s.setReg a (setFld (s.reg a) 31 0 (satAdd (2 ^ (31 + 1 - 0) - 1) (s.rf a 31 0) n)) := rfl
@[simp] theorem countWrap_eq (a n : Nat) : s.countWrap a n = s.setReg a (s.reg a + BitVec.ofNat 32 n) := rfl
@[simp] theorem raiseFirst_eq (e f i v : Nat) :
    s.raiseFirst e f i v = (if s.reg e = 0 then s.setReg f (BitVec.ofNat 32 v) else s).raise e i := rfl

end State

end Sys2Proof.Machine
end

