-- ==== Sys2Proof/Laws/Ops.lean ====
section
/-! SUPPORT. The laws of the shared operations: folds, device memory, interrupt messages, and the end of a
command. -/
namespace Sys2Proof.Machine

/-- What every step of a fold keeps, the fold keeps. -/
theorem foldl_keep {α β : Type} (p : β → Prop) (l : List α) (f : β → α → β) (b : β) (h : p b)
    (hf : ∀ t a, p t → p (f t a)) : p (l.foldl f b) := by
  induction l generalizing b with
  | nil => exact h
  | cons a l ih => exact ih (f b a) (hf b a h)

theorem forEach_keep {α : Type} (p : State → Prop) (l : List α) (s : State) (f : State → α → State) (h : p s)
    (hf : ∀ t a, p t → p (f t a)) : p (forEach l s f) := foldl_keep p l f s h hf

/-- A reading that no step of a fold changes is that of the start. -/
theorem foldl_same {α β γ : Type} (g : β → γ) (l : List α) (f : β → α → β) (b : β) (hf : ∀ t a, g (f t a) = g t) :
    g (l.foldl f b) = g b :=
  foldl_keep (fun t => g t = g b) l f b rfl (fun t a h => (hf t a).trans h)

/-! Device memory. -/

theorem tget_putBytes (b : Bytes) (t : Tbl Byte) (a x : Nat) :
    tget 0 (putBytes t a b) x = if a ≤ x ∧ x < a + b.length then b.getD (x - a) 0 else tget 0 t x := by
  induction b generalizing t a with
  | nil =>
    have : ¬(a ≤ x ∧ x < a + 0) := by omega
    simp only [putBytes, List.length_nil, this, if_false]
  | cons c b ih =>
    simp only [putBytes, ih, List.length_cons, tget_tset]
    by_cases h : a = x
    · subst h
      have h1 : ¬(a + 1 ≤ a ∧ a < a + 1 + b.length) := by omega
      have h2 : a ≤ a ∧ a < a + (b.length + 1) := by omega
      rw [if_neg h1, if_pos h2, if_pos rfl]
      simp
    · by_cases h1 : a + 1 ≤ x ∧ x < a + 1 + b.length
      · have h2 : a ≤ x ∧ x < a + (b.length + 1) := by omega
        have h3 : x - a = (x - (a + 1)) + 1 := by omega
        simp only [h1, h2, and_self, if_true, h3, List.getD_cons_succ]
      · have h2 : ¬(a ≤ x ∧ x < a + (b.length + 1)) := by omega
        simp only [h1, h2, h, if_false]

/-- Every byte of device memory after a write: those written, and the others as before. -/
theorem memByte_writeMem (s : State) (a : Nat) (b : Bytes) (x : Nat) :
    (s.writeMem a b).memByte x = if a ≤ x ∧ x < a + b.length then b.getD (x - a) 0 else s.memByte x :=
  tget_putBytes b s.mem a x

theorem twf_putBytes (b : Bytes) (t : Tbl Byte) (a : Nat) (h : twf (fun _ => (0 : Byte)) t = true) :
    twf (fun _ => (0 : Byte)) (putBytes t a b) = true := by
  induction b generalizing t a with
  | nil => exact h
  | cons c b ih => exact ih _ _ (twf_tset (fun _ => 0) t a c h)

/-- A write keeps the canonical form of device memory. -/
theorem twf_writeMem (s : State) (a : Nat) (b : Bytes) (h : Memory.wf s.mem = true) :
    Memory.wf (s.writeMem a b).mem = true := twf_putBytes b s.mem a h

/-- So do a cleared slice and the cleared contexts of queue pairs. -/
theorem wf_wipeSlice (s : State) (n : Nat) (h : Memory.wf s.mem = true) : Memory.wf (s.wipeSlice n).mem = true :=
  twf_filter _ _ s.mem h

theorem wf_zeroContexts (s : State) (f : Nat) (h : Memory.wf s.mem = true) :
    Memory.wf (s.zeroContexts f).mem = true := by
  unfold State.zeroContexts
  split
  · exact twf_tclear _ _ _ s.mem h
  · exact h

theorem wf_reset : Memory.wf State.reset.mem = true := rfl

/-- A write keeps the canonical form of the register window. -/
theorem twf_setReg (s : State) (a : Nat) (v : Word) (h : twf resetValue s.regs = true) :
    twf resetValue (s.setReg a v).regs = true := twf_tset resetValue s.regs a v h

/-! Interrupt messages (R486) and the end of a command. -/

theorem msixDue_out (s : State) (v : Nat) : (s.msixDue v).sys = s.sys ∧ (s.msixDue v).pending = s.pending := by
  unfold State.msixDue
  repeat' split
  all_goals simp

/-- What a message that falls due leaves as it was: everything but the pending-bit array and the outputs. -/
theorem msixDue_fields (s : State) (v : Nat) :
    s.msixDue v = { s with regs := (s.msixDue v).regs, out := (s.msixDue v).out } := by
  unfold State.msixDue
  repeat' split
  all_goals rfl

theorem msixDue_reg (s : State) (v : Nat) (hv : v < 64) (a : Nat) (ha : ¬isPba a) : (s.msixDue v).reg a = s.reg a := by
  have h : Reg.MSIX_PBA (v / 32) ≠ a := by
    intro h
    have : v / 32 = 0 ∨ v / 32 = 1 := by omega
    rcases this with h1 | h1
    · exact ha (.inl (by rw [← h, h1]))
    · exact ha (.inr (by rw [← h, h1]))
  unfold State.msixDue
  repeat' split
  · rfl
  · simp [State.reg_setReg, h]
  · rfl

/-- What the messages of a command leave as it was. -/
theorem messages_fields (s t : State) :
    State.messages s t = { t with regs := (State.messages s t).regs, out := (State.messages s t).out } := by
  unfold State.messages
  split
  · refine foldl_keep (fun u : State => u = { t with regs := u.regs, out := u.out }) _ _ t rfl (fun u g h => ?_)
    split
    · rw [msixDue_fields]
      rw [h]
    · exact h
  · rfl

@[simp] theorem messages_same (s t : State) :
    (State.messages s t).nv = t.nv ∧ (State.messages s t).nvDue = t.nvDue ∧ (State.messages s t).cells = t.cells ∧
    (State.messages s t).blocks = t.blocks ∧ (State.messages s t).regions = t.regions ∧ (State.messages s t).engines = t.engines ∧
    (State.messages s t).staging = t.staging ∧ (State.messages s t).mem = t.mem ∧ (State.messages s t).poison = t.poison ∧
    (State.messages s t).memStacks = t.memStacks ∧ (State.messages s t).facets = t.facets ∧ (State.messages s t).loader = t.loader ∧
    (State.messages s t).banks = t.banks ∧ (State.messages s t).qps = t.qps ∧ (State.messages s t).slots = t.slots ∧
    (State.messages s t).ses = t.ses ∧ (State.messages s t).groups = t.groups ∧ (State.messages s t).guests = t.guests ∧
    (State.messages s t).lines = t.lines ∧ (State.messages s t).rings = t.rings ∧ (State.messages s t).opt = t.opt ∧
    (State.messages s t).ports = t.ports ∧ (State.messages s t).fab = t.fab ∧ (State.messages s t).msf = t.msf ∧
    (State.messages s t).sys = t.sys ∧ (State.messages s t).free = t.free ∧ (State.messages s t).pending = t.pending := by
  rw [messages_fields s t]; and_intros <;> rfl

@[simp] theorem messages_reads (s t : State) (x : Nat) :
    (State.messages s t).cell x = t.cell x ∧ (State.messages s t).block x = t.block x ∧ (State.messages s t).region x = t.region x ∧
    (State.messages s t).engine x = t.engine x ∧ (State.messages s t).stack x = t.stack x ∧ (State.messages s t).facet x = t.facet x ∧
    (State.messages s t).bank x = t.bank x ∧ (State.messages s t).qp x = t.qp x ∧ (State.messages s t).slot x = t.slot x ∧
    (State.messages s t).group x = t.group x ∧ (State.messages s t).guest x = t.guest x ∧ (State.messages s t).line x = t.line x ∧
    (State.messages s t).ring x = t.ring x ∧ (State.messages s t).port x = t.port x ∧ (State.messages s t).memByte x = t.memByte x := by
  rw [messages_fields s t]; and_intros <;> rfl

@[simp] theorem messages_dt (s t : State) : (State.messages s t).dt = t.dt := by
  rw [messages_fields s t]; rfl

theorem messages_reg (s t : State) (a : Nat) (ha : ¬isPba a) : (State.messages s t).reg a = t.reg a := by
  unfold State.messages
  split
  · have : ∀ l : List Nat, (∀ g ∈ l, g < 64) → ∀ u : State, u.reg a = t.reg a →
        (l.foldl (fun u g => if t.summary g && !s.summary g then u.msixDue g else u) u).reg a = t.reg a := by
      intro l
      induction l with
      | nil => intro _ u h; exact h
      | cons g l ih =>
        intro hl u h
        refine ih (fun x hx => hl x (List.mem_cons_of_mem _ hx)) _ ?_
        show (if _ then _ else _ : State).reg a = _
        split
        · rw [msixDue_reg u g (hl g (List.mem_cons_self ..)) a ha]; exact h
        · exact h
    exact this (List.range 64) (fun g hg => List.mem_range.mp hg) t rfl
  · rfl

/-- No message falls due while no host enable is set (R485, R486). -/
theorem messages_quiet (s t : State) (h : t.anyHen = false) : State.messages s t = t := by
  simp [State.messages, h]

theorem messages_mem (s t : State) (a : Nat) : (State.messages s t).memByte a = t.memByte a := by simp

/-- A command that ends in u completes, with whatever holds of u after its messages. -/
theorem finish_does (s u : State) (P : State → Prop) (h : P (State.messages s u)) : ∃ t, finish s u = .next t ∧ P t :=
  ⟨_, rfl, h⟩

@[simp] theorem finish_next (s t u : State) : finish s t = .next u ↔ State.messages s t = u := by simp [finish]

end Sys2Proof.Machine
end

