-- ==== Sys2Proof/Laws/Cell.lean ====
section
/-! SUPPORT. What a cell instruction can do, once: the checks that turn it away, and its effect when they pass. -/
namespace Sys2Proof.Machine

theorem pba_lt {a : Nat} (h : isPba a) : a < 0x100000 := by
  rcases h with rfl | rfl <;> decide

/-- The effect of an instruction that issues. -/
theorem runCell_issues {o : CellOp} {c : CellId} {i : CellIns} {e : CellEnv} {sp : OpSpec} {bank : Option Nat}
    {s : State} (eff : CellEffect) (h : Issues o c i e sp bank s) :
    runCell o c i e sp bank eff s =
      let t := s.issueTime c i (timedOp o)
      let z := eff (s.cell (s.cellKey c)) t s.free
      let u := (s.countCe c e.ce).setCell (s.cellKey c)
        ((z.1.issued (s.cell (s.cellKey c)) sp (timedOp o) bank t).flagged z.2.1.word s.regClock)
      (u.setReg (statOf s c) (u.reg (statOf s c) ||| z.2.1.word)).useFree (z.2.2 - s.free) := by
  obtain ⟨h1, ⟨h2, h3, h4⟩, h5, h6, h7, h8, h9, h10⟩ := h
  have h2' : ¬ (s.cell (s.cellKey c)).progLen ≤ (s.cell (s.cellKey c)).pc := Nat.not_le.mpr h2
  have h10' : (timedOp o && clash (s.cell (s.cellKey c)) sp bank (s.issueTime c i (timedOp o))) = false := by
    cases ho : timedOp o
    · rfl
    · simpa [ho] using h10 ho
  have h0 : (s.countCe c e.ce).free = s.free := rfl
  have h0' : (s.countCe c e.ce).regClock = s.regClock := rfl
  unfold runCell
  simp only [h1, h3, h4, h5, h6, h7, h9, h2', h10', h0, h0', h8, Bool.not_true, Bool.or_self, Bool.false_and,
    Bool.false_eq_true, if_false, bne_self_eq_false]
  rfl

/-- The cell after. -/
theorem runCell_cell {o : CellOp} {c : CellId} {i : CellIns} {e : CellEnv} {sp : OpSpec} {bank : Option Nat}
    {s : State} (eff : CellEffect) (h : Issues o c i e sp bank s) :
    (runCell o c i e sp bank eff s).cell (s.cellKey c) =
      let t := s.issueTime c i (timedOp o)
      let z := eff (s.cell (s.cellKey c)) t s.free
      (z.1.issued (s.cell (s.cellKey c)) sp (timedOp o) bank t).flagged z.2.1.word s.regClock := by
  rw [runCell_issues eff h]
  simp

/-- Nothing but the cell, its status register and the count of free values changes. -/
theorem runCell_frame {o : CellOp} {c : CellId} {i : CellIns} {e : CellEnv} {sp : OpSpec} {bank : Option Nat}
    {s : State} (eff : CellEffect) (h : Issues o c i e sp bank s) :
    OnlyCell c s (State.messages s (runCell o c i e sp bank eff s)) := by
  refine ⟨?_, ?_, ?_⟩
  · rw [messages_fields, runCell_issues eff h]; rfl
  · intro k hk
    rw [runCell_issues eff h]
    have : s.cellKey c ≠ k := fun hh => hk hh.symm
    simp [State.cell_setCell, this, State.countCe]
  · intro a ha hp
    rw [messages_reg _ _ _ hp, runCell_issues eff h]
    have : statOf s c ≠ a := fun hh => ha hh.symm
    have h2 : Reg.CELL_STAT c.region.val c.block.val (s.posOf c) ≠ a := this
    simp [State.reg_setReg, this, h2, State.countCe]

end Sys2Proof.Machine
end

