-- ==== Sys2Proof/Laws/Packets.lean ====
section
/-! SUPPORT. What sending a packet can do: the fabric's flows and queues, the ports' queues, the queue pair that an
undeliverable reply fails (R219), the registers of the fabric and session blocks, and the outputs. -/
namespace Sys2Proof.Machine

/-- The session block's registers. -/
def sesReg (a : Nat) : Bool := a / 0x100000 == 8

/-- Only the fabric, the answers that are out, and a queue pair whose reply failed, changed. -/
def FabOnly (s t : State) : Prop :=
  t = { s with fab := t.fab, ports := t.ports, qps := t.qps, slots := t.slots, ses := t.ses, regs := t.regs,
               out := t.out, msf := { s.msf with rtags := t.msf.rtags } } ∧
  ∀ a, sesReg a = false → a / 0x100000 ≠ 9 → (∀ p, a ≠ Reg.SLOT_STAT p) → t.reg a = s.reg a

theorem FabOnly.refl (s : State) : FabOnly s s := ⟨rfl, fun _ _ _ _ => rfl⟩

theorem FabOnly.trans {s t u : State} (h : FabOnly s t) (k : FabOnly t u) : FabOnly s u := by
  refine ⟨?_, fun a h8 h9 hp => (k.2 a h8 h9 hp).trans (h.2 a h8 h9 hp)⟩
  rw [k.1, h.1]

theorem fabOnly_rtags (s : State) (l : List RTag) : FabOnly s { s with msf := { s.msf with rtags := l } } :=
  ⟨rfl, fun _ _ _ _ => rfl⟩

theorem fabOnly_setReg (s : State) (a : Nat) (v : Word) 
    (h : sesReg a = true ∨ a / 0x100000 = 9 ∨ ∃ p, a = Reg.SLOT_STAT p) : FabOnly s (s.setReg a v) :=
  ⟨rfl, fun b h8 h9 hp => by
    have : a ≠ b := by
      rintro rfl
      rcases h with h | h | ⟨p, h⟩
      · simp [h] at h8
      · exact h9 h
      · exact hp p h
    rw [State.reg_setReg, if_neg this]⟩

theorem fabOnly_fab (s : State) (x : FabState) : FabOnly s { s with fab := x } := ⟨rfl, fun _ _ _ _ => rfl⟩

theorem fabOnly_emit (s : State) (o : Output) : FabOnly s (s.emit o) := ⟨rfl, fun _ _ _ _ => rfl⟩

theorem fabOnly_fabEvent (s : State) (f p i : Nat) : FabOnly s (s.fabEvent f p i) := by
  unfold State.fabEvent State.raiseFirst State.raise
  split
  · exact (fabOnly_setReg s _ _ (.inr (.inl (by decide)))).trans (fabOnly_setReg _ _ _ (.inr (.inl (by decide))))
  · exact fabOnly_setReg s _ _ (.inr (.inl (by decide)))

theorem fabOnly_enqueue (s : State) (p : Nat) (q : Packet) (h : p < 32) : FabOnly s (s.enqueue p q) := by
  have hp : Reg.PFAB_MARK p / 0x100000 = 9 := by unfold Reg.PFAB_MARK; omega
  unfold State.enqueue
  refine FabOnly.trans ?_ (fabOnly_emit _ _)
  refine FabOnly.trans (t := if _ then _ else _) ?_ ⟨rfl, fun _ _ _ _ => rfl⟩
  split
  · exact fabOnly_setReg s _ _ (.inr (.inl hp))
  · exact FabOnly.refl s

theorem choosePort_lt (s : State) (e : Nat) (q : Packet) (p : Nat) (h : s.choosePort e q = some p) : p < 32 := by
  unfold State.choosePort at h
  simp only at h
  split at h
  · revert h
    suffices ∀ (l : List Nat) (b : Option Nat), (∀ x ∈ l, x < 32) → (∀ x, b = some x → x < 32) →
        ∀ f : Option Nat → Nat → Option Nat, (∀ b x y, f b x = some y → y = x ∨ b = some y) →
        l.foldl f b = some p → p < 32 by
      refine this _ none (fun x hx => ?_) (by simp) _ ?_
      · exact List.mem_range.mp (List.mem_filter.mp hx).1
      · intro b x y hy
        cases b with
        | none => simp at hy; exact .inl hy.symm
        | some o => simp only at hy; split at hy <;> simp at hy <;> simp [hy]
    intro l
    induction l with
    | nil => intro b _ hb f _ h; exact hb p h
    | cons x l ih =>
      intro b hl hb f hf h
      refine ih (f b x) (fun y hy => hl y (List.mem_cons_of_mem _ hy)) (fun y hy => ?_) f hf h
      rcases hf b x y hy with rfl | hy
      · exact hl _ (List.mem_cons_self ..)
      · exact hb y hy
  · simp only [Option.some.injEq] at h; omega

theorem fabOnly_leave (s : State) (e : Nat) (q : Packet) : FabOnly s (s.leave e q) := by
  unfold State.leave
  split
  · next p hp => exact fabOnly_enqueue s p q (choosePort_lt s e q p hp)
  · exact fabOnly_fab s _

theorem fabOnly_egress (s : State) (q : Packet) : FabOnly s (s.egress q) := by
  unfold State.egress
  split
  · exact fabOnly_fab s _
  · exact fabOnly_leave s _ _

theorem eidFacet_lt (s : State) (e g : Nat) (h : s.eidFacet e = some g) : g < 64 := by
  unfold State.eidFacet at h
  split at h
  · unfold State.epFacet at h
    have := List.mem_of_find?_eq_some h
    exact List.mem_range.mp this
  · simp at h

theorem fabOnly_sesEvent (s : State) (f n i : Nat) : FabOnly s (s.sesEvent f n i) := by
  unfold State.sesEvent State.raiseFirst State.raise
  split
  · exact (fabOnly_setReg s _ _ (.inl (by decide))).trans (fabOnly_setReg _ _ _ (.inl (by decide)))
  · exact fabOnly_setReg s _ _ (.inl (by decide))

theorem fabOnly_slotState (s : State) (p st : Nat) : FabOnly s (s.setSlotState p st) :=
  fabOnly_setReg s _ _ (.inr (.inr ⟨p, rfl⟩))

/-- A reply that cannot be delivered fails its queue pair, and changes nothing of other units. -/
theorem fabOnly_replyFails (s : State) (p : Packet) : FabOnly s (s.replyFails p) := by
  have fails : ∀ f n, FabOnly s (s.notifyFails f n) := by
    intro f n
    unfold State.notifyFails
    refine FabOnly.trans (t := match (s.qp n).slot with | some p => _ | none => _) ?_ (fabOnly_sesEvent _ _ _ _)
    split
    · exact FabOnly.trans (t := { s with qps := _, ses := _ }) ⟨rfl, fun _ _ _ _ => rfl⟩ (fabOnly_slotState _ _ _)
    · exact ⟨rfl, fun _ _ _ _ => rfl⟩
  unfold State.replyFails
  repeat' split
  all_goals first
    | exact FabOnly.refl s
    | exact fails _ _

theorem fabOnly_bounced (s : State) (q : Packet) (st : Nat) : FabOnly s (s.bounced q st) := by
  unfold State.bounced
  split
  · exact fabOnly_fab s _
  · simp only
    refine FabOnly.trans (t := State.replyFails _ _) ?_ (fabOnly_fab _ _)
    refine FabOnly.trans (t := match s.eidFacet q.src.toNat with | some g => _ | none => _) ?_
      ((fabOnly_fabEvent _ _ _ _).trans (fabOnly_replyFails _ _))
    have h1 : FabOnly s (if st = 3 then s.fabEvent ((s.eidFacet q.src.toNat).getD 0) 0 3 else s) := by
      split
      · exact fabOnly_fabEvent s _ _ _
      · exact FabOnly.refl s
    split
    · next g hg =>
      refine h1.trans (fabOnly_setReg _ _ _ (.inr (.inl ?_)))
      have := eidFacet_lt s _ g hg
      unfold Reg.FCNT_RET; omega
    · exact h1

theorem fabOnly_sendOut (s : State) (q : Packet) : FabOnly s (s.sendOut q) := by
  unfold State.sendOut
  simp only
  split
  · exact (fabOnly_fab s _).trans (fabOnly_emit _ _)
  · split
    · exact fabOnly_bounced s _ _
    · exact (fabOnly_egress s _).trans (fabOnly_emit _ _)

theorem fabOnly_mcNumber (s : State) (k n : Nat) : FabOnly s (s.mcNumber k n) := by
  unfold State.mcNumber
  split
  · exact fabOnly_fab s _
  · exact FabOnly.refl s

theorem fabOnly_flowSend (s : State) (x : SendFlow) (p : Packet) : FabOnly s (s.flowSend x p) := by
  unfold State.flowSend
  simp only
  refine FabOnly.trans (t := if p.mc ∧ p.marked then s.mcNumber (flowKey x.id) x.nextSeq else s) ?_
    ((fabOnly_fab _ _).trans (fabOnly_sendOut _ _))
  split
  · exact fabOnly_mcNumber s _ _
  · exact FabOnly.refl s

theorem fabOnly_flowPut (s : State) (x : SendFlow) (p : Packet) : FabOnly s (s.flowPut x p) := by
  unfold State.flowPut
  split
  · exact fabOnly_fab s _
  · exact fabOnly_flowSend s x p

theorem fabOnly_flowEnter (s : State) (p : Packet) : FabOnly s (s.flowEnter p) := by
  unfold State.flowEnter
  repeat' split
  · exact fabOnly_flowPut s _ _
  · exact fabOnly_fab s _
  · exact fabOnly_flowPut s _ _

theorem fabOnly_expectAnswer (s : State) (p : Packet) : FabOnly s (s.expectAnswer p) := by
  unfold State.expectAnswer
  simp only
  split
  · exact fabOnly_rtags s _
  · exact FabOnly.refl s

/-- Sending a packet changes the fabric, and the answers that are out, only. -/
theorem fabOnly_unitSend (s : State) (p : Packet) : FabOnly s (s.unitSend p) := by
  refine (fabOnly_expectAnswer s p).trans ?_
  unfold State.unitSend State.sendBehind
  split
  · exact fabOnly_fab _ _
  · exact fabOnly_flowEnter _ p

/-- So does refusing one. -/
theorem fabOnly_refusePacket (s : State) (p : Packet) (st : Nat) : FabOnly s (s.refusePacket p st) := by
  unfold State.refusePacket
  repeat' split
  · exact fabOnly_fab s _
  · exact fabOnly_fab s _
  · exact fabOnly_fab s _
  · exact fabOnly_unitSend s _

end Sys2Proof.Machine
end

