-- ==== Sys2Proof/WellFormed.lean ====
section
/-! DEFINITION. Which commands are well formed: what a sender can put on the module's interfaces. A command that is not
well formed still runs; these are the shapes that the rules give the operands. -/
namespace Sys2Proof

/-- A packet's payload has LEN + 1 units of 64 B (R319). -/
def Packet.wellFormed (p : Packet) : Bool := p.payload.length == (p.len.toNat + 1) * 64

/-- Start-up takes five strap samples (R395) and one temperature for each memory stack. -/
def StartEnv.wellFormed (e : StartEnv) : Bool := e.strap.length == 5 && e.temps.length == 20

/-- A link frame carries the margin of each of its lines in a 4-bit field, for at most 36 lines, and its credit fields
(R296). -/
def LinkFrame.wellFormed (fr : LinkFrame) : Bool :=
  fr.margin.length ≤ 36 && fr.credit.length ≤ 10 && fr.packets.all (fun p => p.wellFormed)

/-- A calibration measures the gain of each of a lane's 32 wavelengths (R180). -/
def LaneCal.wellFormed (l : LaneCal) : Bool := l.gain.length == 32

/-- Byte and word operands have the lengths that their rules give: request and job descriptors 128 B (R198, R172),
sixteen capability words (R282), 1 to 4,096 data words of a trim record (R397), the gains of a calibration (R180), a level of each line of a laser module's
16 fibres (R311); an aperture access has at least one byte. -/
def Instr.wellFormed (i : Instr) : Bool :=
  match i with
  | .doorbell p | .ringMsg p | .digest p | .timeRestart p | .holdover p | .refok p | .stop p | .late p
  | .write _ p | .read _ p | .atomic _ p | .send _ p | .relay _ p | .fwdReq _ p | .data _ p | .done _ p
  | .ack _ p | .return_ _ p | .tail _ p | .tailAck _ p | .packetForward _ p | .aged _ p | .multicast _ _ _ p
  | .syncReq _ p _ _ | .syncResp _ p _ => p.wellFormed
  | .openq _ _ d | .append _ _ d | .cancel _ _ d | .close _ _ d | .loupeJob _ d => d.length == 128
  | .guestBringUp _ b => b.words.length == 16
  | .linkFrame _ fr _ => fr.wellFormed
  | .lmCmd _ x => x.primary.length == 576 && x.spare.length == 576
  | .powerOn e | .resetRelease e => e.wellFormed
  | .fullCalibration _ r | .trimUpdate _ r => r.lanes.all (fun x => x.wellFormed)
  | .trimWrite _ w => 0 < w.length && w.length ≤ 4096
  | .apertureWrite _ b => 0 < b.length
  | .apertureRead _ n => 0 < n.len
  | _ => true

/-- A command that its rules let a sender give. -/
abbrev Instr.WellFormed (i : Instr) : Prop := i.wellFormed = true

end Sys2Proof
end

