-- ==== Sys2Proof/Tests/Slice0.lean ====
section
/-! SUPPORT. Tests: ill-formed terms that the checks refuse, words and numbers worked out from the spec's own tables and
examples, and for each statement states and operands that meet the hypotheses of its clauses together. -/
namespace Sys2Proof.Tests
set_option Elab.async false
open Sys2Proof.Machine

/-! Small states. -/

/-- Registers of a state set to values. -/
def withRegs (s : State) (l : List (Nat × Nat)) : State := l.foldl (fun t e => t.setReg e.1 (BitVec.ofNat 32 e.2)) s

def cellIns : CellIns := ⟨0, 0, 0, false, false, false, false, 0, 0, 0, 0, 0, 0, 0, 0, 0⟩
def cellEnv : CellEnv := ⟨false, false, false, 0⟩
def cell0 : CellId := ⟨0, 0, 0⟩
/-- An instruction at work time 200, with operands in the cell store and room for its result. -/
def timed : CellIns := { cellIns with dst := 0x2000, sb := 0x400, cnt := 1, tick := 200 }

/-- Cell 0 of region 0 issues instruction 3 of 9 after work time 100; its port queue 0 holds two flits. -/
def flit (b : Byte) : Flit := ⟨false, List.replicate 64 b, 0, none⟩
def issuingCell : CellState :=
  { CellState.reset with mode := .running, progLen := 9, pc := 3, last := 100, fx := 100,
                         queues := [(0, [flit 7, flit 9])],
                         store := [(0, 1), (1, 2), (2, 0x80), (3, 0x3F), (16384, 7), (16387, 0x40)] }
/-- Every die has every opcode and format. -/
def capRegs : List (Nat × Nat) := (List.range 8).flatMap (fun d => [(Reg.CAPD d 0, 2 ^ 32 - 1), (Reg.CAPD d 1, 2 ^ 32 - 1), (Reg.CAPD d 2, 255)])
def issuing : State := withRegs (State.reset.setCell (State.reset.cellKey cell0) issuingCell) capRegs
/-- Opcode o with the fields i stands in the cell's store as the instruction that it fetches next. -/
def fetching (s : State) (c : CellId) (o : CellOp) (i : CellIns) : State :=
  let x := s.cell (s.cellKey c)
  s.setCell (s.cellKey c) { x with store := putBytes x.store (16 * (10240 - x.progLen + x.pc)) (leBytes 16 (encodeCell o i).toNat) }
/-- Two routes of facet 0: one flit from cell 0's queue 0 to cell 1's queue 1, in slot mode and in bounded mode. -/
def route (n mode : Nat) : RouteRec := ⟨n, mode, 0, 17, 1, 1, [256, 257], [], 4⟩
/-- What facet 0 holds: region 0, slices 0 and 20, slot 0, endpoint 0, bank 0. -/
def table0 : FacetTable := ⟨[0], [0, 20], [0], [0], [0], 7, 8, 16, 0, 0⟩
def kcs0 : Kcs := { Kcs.empty with table := table0, routes := [route 0 0, route 1 1], cells := [⟨0, 0, 0, 0, 0xFFFF⟩, ⟨0, 0, 1, 0, 0xFFFF⟩] }

/-- Facet 0 runs a step with region 0 and slices 0 and 20 of stack 0, whose domain is on. -/
def facet0 : FacetState := { FacetState.reset with kcs := kcs0, step := 5, inStep := true, frame := 2 }
def facetRegs : List (Nat × Nat) :=
  [(Reg.FACET_STAT 0, 0x60000007), (Reg.REG_STAT 0, 0x00800000), (Reg.SLICE_STAT 0, 0x10000000),
   (Reg.SLICE_STAT 20, 0x10000001), (Reg.MST_STAT 0, 8)]
def running : State := withRegs (issuing.setFacet 0 facet0) facetRegs
/-- Facet 0 with a session of the queue pairs 100 to 103, and EID 200 at its endpoint 0. -/
def session0 : SessionRec := ⟨100, 4, 1048576, 4, 0, 9, 8, 7, 2097152, 3145728, 4194304, 0⟩
def facetS : FacetState := { facet0 with kcs := { kcs0 with session := some session0, eids := [200], cells := [⟨0, 0, 0, 0, 0xFFFF⟩] } }
def seated : State := { running.setFacet 0 facetS with fab := { FabState.reset with routes := [(200, 0xC0000000)] } }
/-- A packet for EID 200 with an operation, an address and a payload. -/
def packet (op : BitVec 5) (chan : BitVec 2) (len : BitVec 7) (addr : BitVec 29) (b : Bytes) : Packet :=
  sealHeader ⟨200, 300, true, chan, op, len, 0, false, false, false, false, false, 0, 7, false, addr, 0, b⟩
def bell : Bytes := leBytes 2 1 ++ List.replicate 62 0
/-- A request descriptor with SEQ 0, an opcode and one more field. -/
def desc (opc at_ n v : Nat) : Bytes := sub ((leBytes 4 0 ++ leBytes 1 opc) ++ List.replicate 11 0 ++
  leBytes 4 (if opc = 2 then 0x3F800000 else 0) ++ List.replicate (at_ - 20) 0 ++ leBytes n v ++ List.replicate 128 0) 0 128
/-- Queue pair 101 holds one descriptor. -/
def withDesc (q : QpState) (d : Bytes) : State := (seated.writeMem (1048576 + 2048) d).setQp 101 { q with rqTail := 1 }
/-- A full-context job of layer 3 over two blocks, with one sink block, at position 255. -/
def job : Bytes := List.replicate 60 0 ++ leBytes 4 255 ++ leBytes 2 2 ++ leBytes 2 1 ++ [0, 0, 3, 1, 1, 0, 3, 0] ++ List.replicate 52 0
/-- Facet 0 with that layer and bank 4, READY at 40 °C. -/
def loupe : State :=
  withRegs (running.setFacet 0 { facet0 with kcs := { kcs0 with layers := [⟨3, 1, 3, false, 1⟩] } }) [(Reg.BANK_STAT 4, 0x00A02800)]
/-- An append at position 5, of one 64-byte row each of keys and values. -/
def appended : Bytes := List.replicate 16 0 ++ leBytes 4 5 ++ List.replicate 4 0 ++ [1, 0] ++ List.replicate 38 0 ++ List.replicate 256 9
/-- A time message of a kind for EID 200. -/
def timeMsg (k : Nat) (l : List (Nat × Byte)) : Packet :=
  packet 7 0 0 0 ((List.range 64).map (fun i => if i = 0 then BitVec.ofNat 8 k else ((l.find? (fun e => e.1 == i)).map (·.2)).getD 0))
def group0 : GroupRec := ⟨2, 0, 0, 8, [1, 2, 3, 4, 5, 6, 7, 8], 300, 300, [0]⟩
/-- A stream staged for the unbound facet 1: region 8 at FULL, slice 3, slot 3, endpoint 4, bank 7. -/
def kcs1 : Kcs :=
  { Kcs.empty with facet := 1, table := ⟨[8], [3], [3], [4], [7], 9, 8, 16, 0, 0⟩,
                   points := [255, 255, 0] ++ List.replicate 13 255, capC := List.replicate 16 0, capM := List.replicate 16 0 }
def staged1 : Staged := ⟨kcs1, 1, 64, 0, []⟩
def commit1 (n : Nat) (run : Bool) : CommitWait := ⟨n, none, false, run, false, false, none⟩
def committing : State :=
  withRegs (State.reset.setFacet 1 { FacetState.reset with staged := some staged1, commit := some (commit1 0 false) })
    [(Reg.BANK_STAT 7, 0x00202800), (Reg.SLICE_STAT 3, 0), (Reg.REG_STAT 8, 0)]
/-- Port 0 with both directions ACTIVE and quadrant 0 on; laser module 0 is commissioned. -/
def lit : State :=
  withRegs seated [(Reg.PORT_STAT 0, 0x44000000), (Reg.PORT_STAT 3, 0x44000000), (Reg.DOM_STAT (quadDomain 0), 0x80000000), (Reg.OPT_STAT, 1), (Reg.LM_STAT 0, 0x40000000)]
def frame0 : LinkFrame := ⟨0, false, false, 4095, false, 0x3F, 0, 0, [], [], []⟩
/-- A flow of packets from EID 300 to EID 200, at SEQ 0. -/
def flow (c : BitVec 2) : FlowId := ⟨300, 200, true, c⟩
def recv0 (c : BitVec 2) : RecvFlow := ⟨flow c, 7, 0, 0, [], 0, 0, 0, [], [], false, [], []⟩
/-- Facet 0's endpoint 0 with page 3 at DPA 0, its message queue at 0x2000, receive flows 0 to 2, and a read out. -/
def joined : State :=
  withRegs { seated with
    fab := { seated.fab with recv := [0, 1, 2].map (fun c => (flowKey (flow (BitVec.ofNat 2 c)), recv0 (BitVec.ofNat 2 c))) },
    msf := { seated.msf with windows := [(192, 0xF0000000)], rtags := [⟨0, 9, 7, 786436, false⟩] } }
    [(Reg.POD_CNT 0, 4096), (Reg.MQ_LO 0, 0x2004), (Reg.MQ_CTL 0, 0x80000000)]
def addr0 : BitVec 29 := 786436
def zeros64 : Bytes := List.replicate 64 0
def bytesAt (l : List (Nat × Byte)) : Bytes := (List.range 64).map (fun i => ((l.find? (fun e => e.1 == i)).map (·.2)).getD 0)
def writeP : Packet := packet 1 0 0 addr0 (List.replicate 64 5)
def readP : Packet := packet 2 0 0 addr0 (bytesAt [(8, 3)])
def atomicP : Packet := packet 3 0 0 addr0 (bytesAt [(10, 8), (16, 1)])
def fwdP : Packet := packet 9 1 1 addr0 (headerBytes writeP ++ List.replicate 48 0 ++ List.replicate 64 6)
def dataP : Packet := packet 0x10 2 0 addr0 (List.replicate 64 8)
def sendP : Packet := packet 6 0 0 0 (bytesAt [(8, 200)])
def relayP : Packet := packet 8 1 0 0 (bytesAt [(8, 200)])
def doneP : Packet := packet 0x11 2 0 0 (bytesAt [(0, 9)])
/-- The other direction: packets from EID 200 to EID 300. -/
def back (c : BitVec 2) : FlowId := ⟨200, 300, true, c⟩
def outP : Packet := { writeP with dst := 300, src := 200 }
def send0 : SendFlow := ⟨back 0, 1, [⟨0, outP, 0, 0⟩], 8, 0, 0, 0, 7, 0, 0, [⟨1, 0, 0, 7, 0⟩], []⟩
/-- Port 5 is up, EID 300 leads through it, and a send flow has SEQ 0 out. -/
def sending : State :=
  withRegs { joined with fab := { joined.fab with routes := [(200, 0xC0000000), (300, 0x80000005)], send := [(flowKey (back 0), send0)] } }
    [(Reg.PORT_STAT 5, 0x44000000)]
def ackP : Packet := packet 0x12 2 0 0 (bytesAt [(0, 1), (4, 1)])
def returnP : Packet := packet 0x13 2 0 0 (headerBytes outP ++ List.replicate 48 0)
def tailP : Packet := packet 0x14 0 0 0 (bytesAt [(2, 0xFF), (3, 0xFF), (4, 0xFF), (5, 0xFF)])
def tailAckP : Packet := packet 0x15 2 0 0 (bytesAt [(0, 1)])

/-! Cells (02). -/

/-- The cell fetches opcode o with the fields i and takes it. -/
def takes (o : CellOp) (c : CellId) (i : CellIns) (sp : OpSpec) (bank : Option Nat) (s : State) : Bool :=
  let s := fetching s c o i
  let x := s.cell (s.cellKey c)
  let w := s.issueTime c i (timedOp o)
  s.issuing c && decide (x.pc < x.progLen) && x.fetched == some (o, i) && s.dieHas c.region.val o i && x.owed w == none &&
  !illegal sp (timedOp o) i && (!timedOp o || !clash x sp bank w)

theorem issues_of_takes (o : CellOp) (c : CellId) (i : CellIns) (sp : OpSpec) (bank : Option Nat) (s : State)
    (h : takes o c i sp bank s = true) : Issues o c i cellEnv sp bank (fetching s c o i) := by
  simp only [takes, Bool.and_eq_true, Bool.or_eq_true, Bool.not_eq_true', decide_eq_true_eq, beq_iff_eq] at h
  obtain ⟨⟨⟨⟨⟨⟨h1, h2⟩, h3⟩, h4⟩, h5⟩, h6⟩, h7⟩ := h
  refine ⟨h1, ⟨h2, h3, h4⟩, rfl, rfl, rfl, h5, h6, fun ht => ?_⟩
  rcases h7 with h | h
  · simp [h] at ht
  · exact h

def single : OpSpec := vecSpec timed (4 * timed.n) 20 false (256 * timed.n)
def pairs : OpSpec := vecSpec timed timed.n 6 true (256 * timed.n)

theorem witness_vector_pairs :
    takes .vadd cell0 timed pairs none issuing = true ∧ takes .vsub cell0 timed pairs none issuing = true ∧ takes .vmul cell0 timed pairs none issuing = true ∧
    takes .vfma cell0 timed pairs none issuing = true ∧ takes .vmax cell0 timed pairs none issuing = true ∧ takes .vmin cell0 timed pairs none issuing = true := by
  decide +kernel

theorem witness_vector_functions :
    takes .vexp2 cell0 timed single none issuing = true ∧ takes .vlog2 cell0 timed single none issuing = true ∧
    takes .vrcp cell0 timed single none issuing = true ∧ takes .vrsq cell0 timed single none issuing = true := by
  decide +kernel

theorem witness_conversions :
    takes .vcvt cell0 { timed with sb := 0, fd := 4 } (vcvtSpec { timed with sb := 0, fd := 4 }) none issuing = true ∧
    (let i := { timed with sb := 0, cnt := 2 }
     takes .vrsum cell0 i (vecSpec i 2 14 false (reduceLen 2)) none issuing = true ∧
     takes .vrmax cell0 i (vecSpec i 2 14 false (reduceLen 2)) none issuing = true) := by
  decide +kernel

def mmaI : CellIns := { timed with fa := 2, fb := 3, cnt := 4 }

theorem witness_matrix_products :
    (pairing mmaI.fa.toNat mmaI.fb.toNat).isSome = true ∧
    takes .mma cell0 mmaI (mmaSpec issuingCell mmaI false) (some mmaI.bankN) issuing = true ∧
    takes .mmas cell0 mmaI (mmaSpec issuingCell mmaI true) (some mmaI.bankN) issuing = true := by
  decide +kernel

theorem witness_drains :
    takes .aclr cell0 { timed with fd := 6 } (aclrSpec { timed with fd := 6 }) (some 0) issuing = true ∧
    takes .ald cell0 { timed with fa := 6, bank := true } (aldSpec { timed with fa := 6, bank := true }) (some 1) issuing = true ∧
    takes .ast cell0 { timed with fd := 4 } (astSpec false { timed with fd := 4 }) (some 0) issuing = true := by
  decide +kernel

def loopI : CellIns := { cellIns with cnt := 9, sel := 2, imm := 8 }

theorem witness_moves :
    takes .mov cell0 { timed with cnt := 2 } (movSpec { timed with cnt := 2 }) none issuing = true ∧
    takes .srld cell0 { timed with sel := 3 } (srldSpec { timed with sel := 3 }) none issuing = true ∧
    takes .nop cell0 timed (seqSpec true false timed) none issuing = true := by
  decide +kernel

theorem witness_sequencer :
    takes .loop cell0 loopI (seqSpec (2 < 4 && (!decide (0 < 9) || decide (8 < 9))) true loopI) none issuing = true ∧
    takes .nextf cell0 cellIns (seqSpec true false cellIns) none issuing = true ∧
    takes .endp cell0 cellIns (seqSpec true false cellIns) none issuing = true ∧ issuing.regionBound 0 = false := by
  decide +kernel

def c1 : CellId := ⟨0, 0, 1⟩
/-- Cells 0 and 1 run; cell 1 has a flit on its queue 1. -/
def twoCells : State := running.setCell (running.cellKey c1) { issuingCell with queues := [(1, [flit 7])] }
/-- Cell 1 loads two flits from that queue, and cell 0 stores one and twenty to its queue 0, which has room for 14. -/
def loads : CellIns := { timed with imm := 1, cnt := 2 }
def load1 : CellIns := { timed with imm := 1 }
def stores : CellIns := { timed with cnt := 20 }

theorem witness_loads :
    takes .ld c1 loads (portSpec true loads) none twoCells = true ∧
    takes .ld c1 load1 (portSpec true load1) none twoCells = true ∧
    (twoCells.portRoute c1 1 true).isSome = true ∧ (twoCells.cell (twoCells.cellKey c1)).pend = none ∧
    min 2 [flit 7].length = 1 ∧ ([flit 7].take 1).all (fun z => !z.bad) = true := by
  decide +kernel

theorem witness_stores :
    takes .st cell0 timed (portSpec false timed) none twoCells = true ∧ takes .st cell0 stores (portSpec false stores) none twoCells = true ∧
    (twoCells.portRoute cell0 0 false).isSome = true ∧ (twoCells.cell (twoCells.cellKey cell0)).pend = none ∧
    0 < min 20 (16 - (tget [] (twoCells.cell (twoCells.cellKey cell0)).queues 0).length) := by
  decide +kernel

/-- One bad way at a time: the parity of the word, no word left, an illegal word, a busy time, and the store. -/
theorem witness_failed_checks :
    let s := fetching twoCells cell0 .mov timed
    let x := s.cell (s.cellKey cell0)
    s.issuing cell0 = true ∧ x.fetched = some (.mov, timed) ∧ x.pc < x.progLen ∧ x.owed (s.issueTime cell0 timed true) = none ∧
    illegal (movSpec timed) true timed = false ∧ s.dieHas 0 .mov timed = true ∧
    clash x (movSpec timed) none (s.issueTime cell0 timed true) = false ∧
    (movSpec timed).reads ++ (movSpec timed).writes ≠ [] ∧ (vecSpec timed timed.n 6 true (256 * timed.n)).datapath = true ∧
    illegal (aldSpec { timed with r104 := true }) true { timed with r104 := true } = true ∧
    clash x (movSpec { timed with tick := 90 }) none (s.issueTime cell0 { timed with tick := 90 } true) = true ∧
    (s.setCell (s.cellKey cell0) { x with pc := 9 }).issuing cell0 = true ∧
    (withRegs s [(Reg.CAPD 0 1, 0)]).dieHas 0 .mov timed = false := by decide +kernel

theorem witness_cell_faults :
    (twoCells.cell (twoCells.cellKey cell0)).mode = .running ∧ twoCells.metBefore 0 64 = false ∧
    (let s := twoCells.setFacet 0 { facet0 with endMarked := true }
     s.regionBound 0 = true ∧ (s.facet (s.regionFacet 0)).inStep = true ∧ (s.facet (s.regionFacet 0)).endMarked = true ∧
     (s.cell (s.cellKey cell0)).endSeen = false) ∧
    ((twoCells.setCell (twoCells.cellKey cell0) { issuingCell with mode := .faulted }).cell
      (twoCells.cellKey cell0)).mode = .faulted := by decide +kernel

/-! Blocks, regions, routes and retime windows (05). -/

def faultedBlock : State :=
  (twoCells.setBlock 0 { BlockState.reset with rowLast := 3, needReset := true }).setCell 5
    { issuingCell with mode := .faulted, acc := [(3, 4)] }
/-- The same with failed positions on record, and BLK_MAP. -/
def failedBlock (bad : List Nat) (map : Nat) : State :=
  withRegs (faultedBlock.setBlock 0 { BlockState.reset with needReset := true, bad := bad }) [(Reg.BLK_MAP 0 0, map)]

theorem witness_block_reset :
    (faultedBlock.block 0).needReset = true ∧ (faultedBlock.block 0).bad = [] ∧
    bit (faultedBlock.reg (Reg.BLK_MAP 0 0)) 24 = false ∧
    ((failedBlock [5] 0x1F0000).block 0).bad = [5] ∧ 17 ≤ (failedBlock [5] 0x1F0000).rf (Reg.BLK_MAP 0 0) 20 16 ∧
    bit ((failedBlock [5] 0x1F0000).reg (Reg.BLK_MAP 0 0)) 24 = false ∧
    ((failedBlock [5] 0x030000).block 0).bad = [5] ∧ (failedBlock [5] 0x030000).rf (Reg.BLK_MAP 0 0) 20 16 < 17 ∧
    ((failedBlock [5, 6] 0x1F0000).block 0).bad.length = 2 := by decide +kernel

/-- Region 0 stalls on its empty queue 3 for route 0. -/
def stalled : State :=
  withRegs (twoCells.setRegion 0 { RegionState.reset with stalls := [.inEmpty 3 0] }) [(Reg.REG_STAT 0, 0x00880000)]

theorem witness_resume_and_stall_fault :
    (stalled.region 0).stalls = [.inEmpty 3 0] ∧ stalled.rf (Reg.REG_STAT 0) 19 19 = 1 ∧ stalled.regionBound 0 = true ∧
    (stalled.facet (stalled.regionFacet 0)).inStep = true := by decide +kernel

/-- Region 0 at its local beat 100, at the last beat of its frame, and with a relock that waits for the drain. -/
def atBeat (n : Nat) (due : Bool) : State :=
  withRegs (running.setRegion 0 { RegionState.reset with relockDue := due }) [(Reg.REG_STAT 0, 0x00800000 + n), (Reg.REG_RETIME 0, 8)]

theorem witness_region_beat : ∀ n ∈ [100, 4095],
    let s := atBeat n true
    let x := s.region 0
    s.regionPoint 0 ≠ 2 ∧ s.rf (Reg.REG_STAT 0) 19 19 = 0 ∧ s.rf Reg.CND_STAT 27 27 = 0 ∧ x.holdUntil ≤ s.beat ∧
    x.done = false ∧ x.behind = none ∧ s.cellOwes 0 = none ∧ s.drained 0 = true ∧
    (n = 4095 → s.rf (Reg.REG_STAT 0) 11 0 = s.lastBeat 0) := by decide +kernel

def voided (v : Nat) (repair : Bool) : State :=
  twoCells.setFacet 0 { facet0 with void := true, voids := v, repair := repair, frame := 7 }

theorem witness_step_restart : ∀ v ∈ [1, 2], ∀ repair ∈ [true, false],
    let s := voided v repair
    (s.facet 0).void = true ∧ s.blocksReset 0 = true ∧ (∀ r ∈ (s.kcs 0).table.regions, s.relocking r = false) ∧
    (s.facet 0).repair = repair ∧ (s.facet 0).voids = v ∧ s.facetState 0 = 3 := by decide +kernel

/-- Facet 0 as a single module and as a multi-module facet, running and held with a START. -/
def multiFacet : FacetState :=
  { facet0 with kcs := { kcs0 with schedule := { kcs0.schedule with multi := true }, group := some group0 },
                digestSeen := true, frames := 2 }
def startsFrame (s : State) : Bool :=
  s.framesRun 0 && s.mayStart 0 && !bit (s.reg Reg.CND_STAT) 27 && !s.stopsNow 0 && !(s.facet 0).lost &&
  !s.sys.pwr.ordered && s.memStacks.isEmpty

theorem witness_frame_start :
    startsFrame running = true ∧ (running.kcs 0).schedule.multi = false ∧
    startsFrame (withRegs (running.setFacet 0 { facet0 with startDue := true, inStep := false }) [(Reg.FACET_STAT 0, 0x40000007)])
      = true ∧
    startsFrame (running.setFacet 0 multiFacet) = true ∧ multiFacet.kcs.schedule.multi = true := by decide +kernel

def x0 : RouteRec := route 0 0
def x1 : RouteRec := route 1 1
/-- Route x leads from queue 0 of cell 0 to queue 1 of cell 1, and its flit may cross segment 0. -/
def crosses (x : RouteRec) (s : State) : Bool :=
  let u := s.arrive 0 x 0 []
  s.routeOf 0 x.num == some x && s.facetBound 0 && decide (0 < x.hops) && u.mayMove 0 x 0 &&
  u.segHead (u.kcs 0) x 0 [] == some (flit 7) && u.targetTakes 0 x [] (u.segTo 0 x 0) && decide (u.segFrom x 0 = .cell cell0 0)

theorem witness_flits :
    crosses x0 running = true ∧ x0.mode % 2 = 0 ∧ crosses x1 (running.setFacet 0 { facet0 with kcs := { kcs0 with routes := [x1] } }) = true ∧
    x1.mode % 2 = 1 ∧
    ((running.setFacet 0 { facet0 with kcs := { kcs0 with routes := [x1] } }).winner 0 x1 0 []) = some (x1, 0) := by
  decide +kernel

/-- Neither end faults or transfers, and the segment ends in another queue than it starts from. -/
theorem witness_ends_apart : EndsApart 0 x0 0 running := by
  have hf : running.segFrom x0 0 = .cell cell0 0 := by decide +kernel
  have ht : running.segTo 0 x0 0 = .cell c1 1 := by decide +kernel
  refine ⟨fun c q h => ?_, fun d p h => ?_, fun r q n h => ?_⟩
  · rw [hf] at h; cases h
    refine ⟨by decide +kernel, by decide +kernel, fun d p h => ?_⟩
    rw [ht] at h; cases h; decide +kernel
  · rw [ht] at h; cases h; exact ⟨by decide +kernel, by decide +kernel⟩
  · rw [ht] at h; cases h

/-- A route out of boundary queue 3, which is empty, and one whose boundary queue takes no flit more. -/
def fromQueue : RouteRec := { x0 with src := 3 * 2 ^ 23 + 3 }
def starved : State := running.setFacet 0 { facet0 with kcs := { kcs0 with routes := [fromQueue] } }
def toQueue : RouteRec := { x0 with path := [256, 517, 257] }
def fullQueue : State :=
  (running.setFacet 0 { facet0 with kcs := { kcs0 with routes := [toQueue] } }).setRegion 1
    { RegionState.reset with queues := [(0, [(0, flit 1)])] }

theorem witness_flit_stalls :
    0 < fromQueue.hops ∧ 0 < toQueue.hops ∧ starved.routeOf 0 0 = some fromQueue ∧ starved.mayMove 0 fromQueue 0 = true ∧ starved.startQueue fromQueue 0 = some (0, 3) ∧
    starved.segHead (starved.kcs 0) fromQueue 0 [] = none ∧
    fullQueue.mayMove 0 toQueue 0 = true ∧ fullQueue.segHead (fullQueue.kcs 0) toQueue 0 [] = some (flit 7) ∧ fullQueue.segTo 0 toQueue 0 = .queue 1 0 0 ∧
    fullQueue.queueTakes 0 toQueue 1 0 = false := by decide +kernel

/-- The schedule of facet 0 at local beat 100: a window, a job slot, the end of the step, and a run. -/
def cmd (op : Nat) (args : Bytes) : CmdRec := ⟨op, 2, 100, 10, padTo 24 args⟩
def tensor0 : TensorRec := ⟨0, List.replicate 48 7⟩
def cmdsK : Kcs :=
  { kcs0 with tensors := [tensor0]
              schedule := ⟨3, false, false, [cmd 3 [32, 0], cmd 2 [0, 0, 100, 0], cmd 4 [], cmd 1 [3, 0, 0, 0, 0, 0, 0, 0, 2, 0, 0, 1]]⟩ }
def scheduled (s : State) : State :=
  let t := withRegs (s.setFacet 0 { facet0 with kcs := cmdsK }) [(Reg.REG_STAT 0, 0x00800064)]
  { t with sys := { t.sys with clk := { t.sys.clk with dt := 25600, locked := true } } }
/-- A relock of region 0 that has waited 64 frames, and one that is under way. -/
def overdue : State := withRegs running [(Reg.REG_RETIME 0, 0x00004008)]
def relocking : State := withRegs (running.setRegion 0 { RegionState.reset with newPoint := some 1 }) [(Reg.REG_STAT 0, 0x00940000)]

theorem witness_relocks :
    (scheduled running).scheduled 0 3 (leBytes 2 32) none = true ∧ bit (relocking.reg (Reg.REG_STAT 0)) 20 = true ∧
    (relocking.region 0).newPoint = some 1 ∧ overdue.facetBound 0 = true ∧ 0 ∈ (overdue.kcs 0).table.regions ∧
    bit (overdue.reg (Reg.REG_RETIME 0)) 3 = true ∧ 64 ≤ overdue.rf (Reg.REG_RETIME 0) 15 8 := by decide +kernel

theorem witness_schedule_commands :
    running.regionPoint 0 ≠ 2 ∧
    (scheduled running).scheduled 0 2 (leBytes 1 0 ++ leBytes 1 0 ++ leBytes 2 100) none = true ∧
    (scheduled running).scheduled 0 4 [] none = true := by decide +kernel

/-! Weight decoding and memory stacks (03, 04). -/

/-- A tensor of one block at DPA 0, of a two-symbol code. -/
def decoding : State :=
  { scheduled running with
    mem := (List.range 8).map (fun i => (16 + i, (0x44#8 : Byte))) ++ [(24, 1), (28, 9), (32, 2), (64, 0x38), (65, 9)] }
/-- The same with its run 0 under way on engine 3. -/
def decodingRun : State :=
  match exec (.run 0 3 0 0 0x01000002) decoding with
  | .next t => t
  | _ => decoding

theorem witness_decode :
    (decoding.kcs 0).tensors[0]? = some tensor0 ∧ decoding.regionBound 0 = true ∧ decoding.regionFacet 0 = 0 ∧
    decoding.scheduled 0 1 (leBytes 2 3 ++ leBytes 2 0 ++ leBytes 4 0 ++ leBytes 4 0x01000002) (some 0) = true ∧
    decoding.tensorGood 0 tensor0.dpa (decoding.readMem 0 48) = true ∧ decoding.indexEntry 0 0 = 0 ∧
    (scheduled running).tensorGood 0 tensor0.dpa ((scheduled running).readMem 0 48) = false := by decide +kernel

theorem witness_decode_block :
    let x := decodingRun.engine 3
    let u := decodingRun.readFinds x.addr [.corrected]
    x.active = true ∧ decodingRun.frozenRegion 0 = false ∧ x.zero = false ∧ u.blockBad x.facet x.addr = false ∧
    (decodeBlock x.desc (decodingRun.readMem x.addr 272) x.unitsLeft (x.blocksLeft == 1)).cause = 0 := by decide +kernel

/-- Slice 0 is CLEARING. -/
def clearing : State :=
  withRegs { decoding with poison := [1], mem := decoding.mem ++ [(20 * 2 ^ 34 + 4, 3)] } [(Reg.SLICE_STAT 0, 0x20000000)]
/-- The bank of unit 1 has met 256 errors today. -/
def worn : State := running.setStack 0 { StackState.reset with errors := [(bankKey 64, List.replicate 256 0)] }

theorem witness_scrub_and_clear :
    sliceOf (1 * 64) < 320 ∧ running.stackOn (stackOf 64) = true ∧ 1 ∉ running.poison ∧
    ((tget [] (running.stack 0).errors (bankKey 64)).filter (fun t => running.dt < t + dayTicks)).length + 1 ≤ 256 ∧
    256 < ((tget [] (worn.stack 0).errors (bankKey 64)).filter (fun t => worn.dt < t + dayTicks)).length + 1 ∧
    clearing.sliceState 0 = 2 := by decide +kernel

def copying (c : MapOut) : State := withRegs (running.setStack 0 { StackState.reset with copy := some c }) [(Reg.MST_STAT 0, 0x18)]
/-- Stack 0's domain is on, and none of its slices is BOUND; slice 20 is RETIRED. -/
def freeStack : State :=
  withRegs decoding [(Reg.DOM_STAT (stackDomain 0), 0x80000000), (Reg.SLICE_STAT 0, 0), (Reg.SLICE_STAT 20, 0x40000000)]

theorem witness_layers_and_regulator :
    ((copying ⟨3, none, 32⟩).stack 0).copy = some ⟨3, none, 32⟩ ∧ ((copying ⟨3, none, 32⟩).stack 0).waiting = [] ∧
    (copying ⟨3, none, 32⟩).physicalOf 0 3 = some 3 ∧ ((copying ⟨3, some (2, 1), 33⟩).stack 0).copy = some ⟨3, some (2, 1), 33⟩ ∧
    running.inhibited = false ∧ freeStack.domOn (stackDomain 0) = true ∧
    (∀ j, j < 16 → freeStack.sliceState (j * 20 + 0) ≠ 1) := by decide +kernel

/-- One stack sample of each kind: no change of band, a change at the next frame, B1 at once, and the shut-down. -/
theorem witness_stack_samples :
    let valid := fun (s : State) (v : Int) => [0, 1, 2, 3].filterMap (fun i =>
      ([(0, some v), (1, none), (2, none), (3, none)].foldl (fun u e => u.read 0x50 (stackSensor 0 e.1) e.2) s).valid
        (stackSensor 0 i))
    (∀ v ∈ [(42500 : Int), 86000, 89000, 106000], (valid running v).head? = some v) ∧
    nextBand 0 42500 = 0 ∧ nextBand 0 86000 = 1 ∧ nextBand 0 89000 = 1 ∧ running.rf (Reg.MST_STAT 0) 1 0 = 0 ∧
    (running.stack 0).hist = [] ∧ (running.part 0x50).hot = 0 ∧
    ((running.setPart 0x50 { PartState.reset with hot := 1 }).part 0x50).hot = 1 ∧ running.pwrState ≠ 5 ∧
    ((running.setStack 0 { StackState.reset with bandDue := some 2 }).stack 0).bandDue = some 2 := by decide +kernel

/-! Sessions (07). -/

def bellP : Packet := packet 4 0 0 101 bell
def ringP : Packet := packet 5 0 2 101 (bell ++ desc 1 112 1 4)
/-- A doorbell with a byte that must be zero. -/
def badBell : Bytes := leBytes 2 1 ++ List.replicate 61 0 ++ [1]
def badBellP : Packet := packet 4 0 0 101 badBell
def badRingP : Packet := packet 5 0 2 101 (badBell ++ desc 1 112 1 4)
def tagged (s : State) (p : Packet) : Bool :=
  s.eidFacet p.dst.toNat == some 0 && p.jobTag.toNat == s.jobTag 0 && wellFormedOp p

theorem witness_doorbells :
    tagged seated bellP = true ∧ seated.bellBad 0 101 bellP.payload = false ∧
    tagged seated ringP = true ∧ seated.bellBad 0 101 (sub ringP.payload 0 64) = false ∧
    seated.areaLocked (seated.ringEntry 0 101 0) (sub ringP.payload 64 128).length = false ∧
    tagged seated badBellP = true ∧ seated.bellBad 0 101 badBellP.payload = true ∧
    tagged seated badRingP = true ∧ seated.bellBad 0 101 (sub badRingP.payload 0 64) = true := by decide +kernel

/-- Queue pair 101 holds three doorbells, of which the last is out of range. -/
def bells : List (Nat × Nat) := [(1, 0), (3, 0), (70, 5)]
def belled : State := { seated with qps := [(101, { QpState.reset with bells := bells })], ses := { seated.ses with readFrame := 5 } }

theorem witness_frame_boundary :
    belled.session 0 = some session0 ∧ session0.qbase ≤ 101 ∧ 101 < session0.qbase + session0.qn ∧
    belled.facetState 0 = 3 ∧ (belled.facet 0).lost = false ∧ belled.sys.pwr.ordered = false ∧ belled.ses.opens = [] ∧
    belled.qps = [(101, { QpState.reset with bells := bells })] ∧ belled.ses.readFrame ≠ belled.devFrame ∧
    bells.filter (State.tailValid QpState.reset session0.rqlog2) = [(1, 0), (3, 0)] ∧
    bells.any (fun b => !(State.tailValid QpState.reset session0.rqlog2 b && State.headValid QpState.reset b)) = true := by
  decide +kernel

def openD : Bytes := sub (desc 1 112 1 4) 0 100 ++ leBytes 4 200 ++ (desc 1 112 1 4).drop 104
def appendD : Bytes := desc 2 48 4 2
def cancelD : Bytes := desc 3 20 1 0
def closeD : Bytes := desc 4 20 1 0
def req1 : Request := ⟨appendD, 0, 0, 0, [], 0, false⟩
/-- The boundary at which descriptors may be read is facet 0's. -/
def atBoundary (s : State) : State := { s with ses := { s.ses with boundary := [(0, 1)] } }
/-- Queue pair 101 holds one descriptor; slot 0 is in the state that its register says. -/
def withSlot (q : QpState) (d : Bytes) (stat : Nat) : State := atBoundary (withRegs (withDesc q d) [(Reg.SLOT_STAT 0, stat)])
def opening : State := withSlot QpState.reset openD 0x80000000
def opensLater : State := withSlot QpState.reset openD 0x90000000
def slotted : QpState := { QpState.reset with slot := some 0 }
def appending : State := withSlot slotted appendD 0x90000000
def cancelling : State := withSlot { slotted with req := some req1 } cancelD 0x90000000
def cancelBusy : State := cancelling.setSlot 0 { SlotState.reset with input := some (3, 4, true) }
def closing : State := withSlot slotted closeD 0x90000000

/-- A descriptor that may be read, with its expected SEQ and every check passed. -/
def readable (s : State) (d : Bytes) : Bool :=
  s.mayRead 0 101 d && s.session 0 == some session0 && dSeq d == (s.qp 101).seq && descOk s 0 d && descTokens session0.v d

theorem witness_opens :
    readable opening openD = true ∧ dOpc openD = 1 ∧ (opening.qp 101).slot = none ∧ opening.freeSlotOf 0 = some 0 ∧
    opening.ses.opens = [] ∧ opening.slotOf 0 0 < 64 ∧ opening.routeLocal (leAt openD 100 4 % 2 ^ 18) = true ∧
    readable opensLater openD = true ∧ opensLater.freeSlotOf 0 = none := by decide +kernel

theorem witness_descriptors :
    readable appending appendD = true ∧ dOpc appendD = 2 ∧ (appending.qp 101).slot = some 0 ∧
    appending.slotState 0 = 1 ∧ 0 < dNPrompt appendD ∧
    readable cancelling cancelD = true ∧ dOpc cancelD = 3 ∧ (cancelling.qp 101).slot = some 0 ∧
    (cancelling.qp 101).req = some req1 ∧ (cancelling.slot 0).input = none ∧
    cancelling.owes 0 (cancelling.localSlot (some 0)) = false ∧ readable cancelBusy cancelD = true ∧
    (cancelBusy.slot 0).input.isSome = true ∧
    readable closing closeD = true ∧ dOpc closeD = 4 ∧ (closing.qp 101).slot = some 0 ∧ (closing.qp 101).req = none := by
  decide +kernel

/-- No step runs; slot 0 has a token to feed. -/
def between : State :=
  withRegs (((seated.setFacet 0 { facetS with inStep := false }).setSlot 0 { SlotState.reset with pend := some 3 }).setQp 101
    { slotted with req := some req1 }) [(Reg.SLOT_STAT 0, 0xB0000000), (Reg.SLOT_QP 0, 101)]

theorem witness_step_begin :
    between.facetState 0 = 3 ∧ (between.facet 0).inStep = false ∧ (between.facet 0).gapLeft = 0 ∧
    (between.facet 0).mismatch = false ∧ (between.kcs 0).cells = [⟨0, 0, 0, 0, 0xFFFF⟩] ∧
    (between.cell (between.keyOf 0 0 0)).mode ≠ .faulted := by decide +kernel

/-- A request of at most five tokens. -/
def sampleD : Bytes := (desc 2 20 4 5).set 8 5
/-- Slot 0 waits for its token at position 3; its fourth logit is 2, the others are 0. -/
def sampling (r : Request) : State :=
  let s := withRegs ((((seated.setFacet 0 { facetS with inStep := true }).setSlot 0 { SlotState.reset with pos := 3 }).setQp 101
    { slotted with ring := some ⟨300, 0, 4, 0⟩, req := some r }).writeMem (4194304 + 12) (leBytes 4 0x40000000))
    [(Reg.SLOT_STAT 0, 0xA0000000), (Reg.SLOT_QP 0, 101)]
  { s with ses := { s.ses with sampling := [(0, 0)] } }
def req2 : Request := { req1 with desc := sampleD }
def lastReq : Request := { req2 with made := 4 }

theorem witness_sample : ∀ r ∈ [req2, lastReq],
    let s := sampling r
    let z := (List.range 9).map (fun i => leAt (s.readMem 4194304 36) (4 * i) 4)
    s.session 0 = some session0 ∧ s.slotOf 0 0 = 0 ∧ s.rf (Reg.SLOT_QP 0) 17 0 = 101 ∧ (s.qp 101).req = some r ∧
    (s.ses.sampling.take 4).contains (0, 0) = true ∧
    sampleToken z (leAt sampleD 12 4) (leAt sampleD 20 2) (leAt sampleD 16 4) (leAt sampleD 24 8) 3 s.freeWord.toNat = some (3, false) ∧
    byteAt sampleD 6 = 0 ∧ 3 ≠ session0.eos ∧ s.beyond 0 3 = false ∧ r.cancel = false ∧
    r.tokens.length + 1 < entryCap sampleD ∧ (∀ e ∈ s.qps, e.2.notify = []) ∧ (s.facet 0).frame ≠ 0 := by decide +kernel

theorem witness_last_token : req2.made + 1 ≠ dMaxNew sampleD ∧ lastReq.made + 1 = dMaxNew sampleD := by decide +kernel

def ring0 : ReplyRing := ⟨300, 0, 4, 0⟩
def replying : State :=
  withRegs ((seated.setQp 101 { slotted with req := some req1, ring := some ring0, pqTail := 16 }).setSlot 0
    { SlotState.reset with waited := 65536 }) [(Reg.SLOT_STAT 0, 0xC0000000)]
def wait0 : OpenWait := ⟨0, 101, desc 1 112 1 4, 0, 1⟩
def waitingOpens : State := { replying with ses := { replying.ses with opens := [wait0, { wait0 with qp := 102, left := 3 }] } }
def grouped : State := seated.setFacet 0 { facetS with kcs := { facetS.kcs with group := some group0 } }
def ungrouped : State := grouped.setFacet 0 { grouped.facet 0 with lost := true }
/-- A queue pair of no facet. -/
def stray : State := State.reset.setQp 101 { QpState.reset with slot := some 3, rqHead := 7 }

theorem witness_session_trouble :
    replying.qpFacet 101 = some 0 ∧ (replying.qp 101).slot = some 0 ∧ replying.slotState 0 = 4 ∧
    65536 ≤ (replying.slot 0).waited ∧ (replying.qp 101).req = some req1 ∧ (replying.qp 101).ring = some ring0 ∧
    ringFull (replying.qp 101) ring0 = true ∧ stray.qpFacet 101 = none ∧
    waitingOpens.ses.opens.find? (fun o => o.qp == 101 && o.left == 0) = some wait0 ∧ grouped.facetState 0 ≠ 0 ∧
    (grouped.kcs 0).group.isSome = true ∧ (ungrouped.facet 0).lost = true ∧ 2 ≤ ungrouped.facetState 0 := by decide +kernel

/-! The Loupe and groups (06). -/

def listed (log : Bool) : State := loupe.setBank 4 { BankState.reset with lists := [(0, if log then job.set 67 1 else job)] }

theorem witness_loupe_jobs :
    loupe.facetBound 0 = true ∧ loupe.jobOk 0 job = true ∧ loupe.physicalBank 0 (parseJob job).bank = some 4 ∧
    loupe.bankFree 4 = true ∧ (loupe.bank 4).waiting = [] ∧
    (loupe.setBank 4 { BankState.reset with heldUntil := 1000 }).bankFree 4 = false ∧
    loupe.jobOk 0 (List.replicate 128 0) = false ∧
    ((listed false).bank 4).lists = [(0, job)] ∧ ((listed false).bank 4).waiting = [] ∧ (parseJob job).empty = false ∧
    (parseJob job).mode = 3 ∧ (listed false).bankStateOf 4 ≠ 4 := by decide +kernel

def otherRank : State := seated.setFacet 0 { facetS with kcs := { facetS.kcs with group := some { group0 with rank := 1 } } }
def digestP : Packet := timeMsg 8 [(32, 1), (33, 2)]
def sameDigestP : Packet := timeMsg 8 ((List.range 8).map (fun i => (32 + i, BitVec.ofNat 8 (i + 1))))
def restartP : Packet := timeMsg 7 [(4, 5)]

theorem witness_appends :
    loupe.facetBound 0 = true ∧ appendForm appended = true ∧ loupe.inSlices 0 0 64 = true ∧
    loupe.inSlices 0 (blkBytes 1 0) 64 = true ∧ byteAt appended 26 = 0 ∧
    rankOf (loupe.kcs 0).ring.1 (loupe.kcs 0).ring.2.2 0 = (loupe.kcs 0).ring.2.1 ∧
    rankOf (otherRank.kcs 0).ring.1 (otherRank.kcs 0).ring.2.2 0 ≠ (otherRank.kcs 0).ring.2.1 ∧
    appendForm (List.replicate 320 0) = false := by decide +kernel

theorem no_area_is_locked (s : State) (h : (List.range 64).all (fun f => (s.facet f).staged.isNone) = true)
    (a n : Nat) : s.areaLocked a n = false := by
  rw [List.all_eq_true] at h
  refine List.any_eq_false.mpr (fun f hf => ?_)
  rw [Option.isNone_iff_eq_none.mp (h f hf)]
  exact Bool.false_ne_true

theorem witness_no_area_is_locked (a n : Nat) : loupe.areaLocked a n = false :=
  no_area_is_locked loupe (by decide +kernel) a n

theorem witness_group_messages :
    grouped.facetBound 0 = true ∧ (grouped.kcs 0).group = some group0 ∧ leAt (List.replicate 200 0) 12 2 = group0.rank ∧
    1 < group0.g ∧ leAt (List.replicate 200 0) 14 2 = 0 ∧ leAt (List.replicate 200 1) 14 2 ≠ 0 ∧
    leAt (List.replicate 200 1) 12 2 ≠ group0.rank ∧
    grouped.routeLocal 200 = true ∧ grouped.epFacet (grouped.routeEp 200) = some 0 ∧
    (∀ p ∈ [digestP, sameDigestP, restartP], p.jobTag.toNat = grouped.jobTag 0 ∧ wellFormedOp p = true ∧ p.op = 7 ∧
      timeForm p.payload = true) ∧
    byteAt digestP.payload 0 = 8 ∧ sub digestP.payload 32 8 ≠ group0.digest ∧
    sub sameDigestP.payload 32 8 = group0.digest ∧ byteAt restartP.payload 0 = 7 ∧ (grouped.facet 0).inStep = true ∧
    (grouped.facet 0).void = false ∧ (grouped.facet 0).step = leAt restartP.payload 4 4 := by decide +kernel

/-- Bank 4's new trims of frame 3 wait in frame 5. -/
def trimming : State :=
  let s := loupe.setBank 4 { BankState.reset with trimDue := some ⟨41, 3, [⟨1, [1, 2], [3], [4]⟩]⟩ }
  { s with sys := { s.sys with clk := { s.sys.clk with dt := 5 * 2 ^ 20 } } }
/-- Bank 4 is in FAULT; banks 9 and 10 are READY spares. -/
def spares : State :=
  withRegs loupe [(Reg.BANK_STAT 4, 0x00C02800), (Reg.BANK_STAT 9, 0x00202900), (Reg.BANK_STAT 10, 0x00202900)]

theorem witness_banks :
    loupe.bankStateOf 4 = 2 ∧ (loupe.bank 4).waiting = [] ∧ (loupe.bank 4).heldUntil ≤ loupe.dt ∧
    (trimming.bank 4).trimDue = some ⟨41, 3, [⟨1, [1, 2], [3], [4]⟩]⟩ ∧ (trimming.bank 4).heldUntil ≤ trimming.dt ∧
    3 < trimming.devFrame ∧ spares.bankBound 4 = true ∧ spares.bankStateOf 4 = 4 ∧ spares.bankIdle 4 = true ∧
    spares.spareBanks = [9, 10] := by decide +kernel

/-! The loader (08). -/

def staged0 : Staged := ⟨kcs0, 1, 64, 0, []⟩
def restaged : State := running.setFacet 0 { facet0 with staged := some staged0 }
/-- Facet 0 between steps, in a state of its register. -/
def inState (n : Nat) : State :=
  withRegs (running.setFacet 0 { facet0 with inStep := false, staged := some staged0 }) [(Reg.FACET_STAT 0, n * 2 ^ 28 + 7)]

theorem witness_loader_commands :
    bit (running.reg Reg.CFG_STAT) 31 = false ∧ (running.facet 0).commit = none ∧ (running.facet 0).staged = none ∧
    (restaged.facet 0).staged.isSome = true ∧ restaged.atPast 0 false = false ∧ restaged.atPast 0 true = true ∧
    (withRegs restaged [(Reg.CFG_AT, 7)]).atPast 0 true = false ∧ restaged.facetState 0 = 3 ∧
    (∀ n ∈ [0, 2, 3, 5], (inState (2 * n)).facetState 0 = n) ∧
    bit ((withRegs running [(Reg.CFG_STAT, 0x80000000)]).reg Reg.CFG_STAT) 31 = true ∧
    (committing.facet 1).commit.isSome = true := by decide +kernel

def zs (n : Nat) : Bytes := List.replicate n 0
/-- A directory entry: type, offset, length, CRC-32C. -/
def dirE (t o l c : Nat) : Bytes := leBytes 2 t ++ leBytes 2 0 ++ leBytes 4 o ++ leBytes 4 l ++ leBytes 4 c
/-- FACET: facet 1 with region 8, slice 3, endpoint 4, JOB_TAG 9, MSHARE 8, DRAIN 16. -/
def secFacet : Bytes :=
  [1, 1, 1, 0, 0, 1, 0, 0, 9, 0, 8, 0, 16] ++ zs 51 ++ (8 :: zs 63) ++ (3 :: zs 63) ++ (4 :: zs 63)
def secPoints : Bytes := [255, 255, 0] ++ List.replicate 13 255
/-- SCHEDULE: one frame, no retime window, and a step end at beat 100. -/
def secSchedule : Bytes := leBytes 4 1 ++ [2, 0, 0, 0] ++ leBytes 4 1 ++ zs 52 ++ [4, 0, 0, 0] ++ leBytes 2 100 ++ zs 26
def secFabric : Bytes := leBytes 4 300 ++ zs 60
def streamHead : Bytes :=
  [leBytes 4 0x3153434B, leBytes 2 1, leBytes 2 8, leBytes 4 17600, leBytes 4 960, leBytes 8 77, [1, 1, 0, 0], leBytes 4 5,
   zs 32, dirE 1 192 256 2734257313, dirE 2 448 128 136799451, dirE 3 576 16 3432802545, dirE 4 640 64 63499111,
   dirE 5 704 0 0, dirE 6 704 64 63499111, dirE 7 768 96 2649692585, dirE 12 896 64 1315766582].flatten
/-- A whole stream, signed by the keys 0x11 and 0x22. -/
def stream0 : Bytes :=
  [streamHead, secFacet, zs 128, secPoints, zs 48, zs 64, zs 64, secSchedule, zs 32, secFabric, leBytes 8 0x11, leBytes 8 0x22,
   zs 16624].flatten
/-- The loader reads it for facet 1; owner slot 2 holds the keys. -/
def staging0 : State :=
  { withRegs State.reset [(Reg.SEC_STAT, 0x100), (Reg.KID 2 0, 0x11), (Reg.KID 2 2, 0x22)] with
    loader := ⟨some (1, 1), 0, 0, 17600, []⟩ }

/-- CRC-32C byte by byte from a register value, and the values after each part of a string. -/
def crcFrom (c : Word) (b : Bytes) : Word := b.foldl (fun c x => crc32cStep (c ^^^ x.setWidth 32) 8) c
def crcParts (b : Bytes) : Word → Nat → List Word → Bool
  | _, _, [] => true
  | c, i, m :: t => crcFrom c (sub b (32 * i) 32) == m && crcParts b m (i + 1) t

theorem crcParts_all (b : Bytes) (l : List Word) (c : Word) (i : Nat) (h : crcParts b c i l = true)
    (n : b.length ≤ 32 * (i + l.length)) : crcFrom c (b.drop (32 * i)) = l.getLastD c := by
  induction l generalizing c i with
  | nil => rw [List.drop_eq_nil_of_le (by simpa using n)]; rfl
  | cons m t ih =>
    simp only [crcParts, Bool.and_eq_true, beq_iff_eq] at h
    have := ih m (i + 1) h.2 (by simp only [List.length_cons] at n; omega)
    rw [← List.take_append_drop 32 (b.drop (32 * i)), List.drop_drop]
    unfold crcFrom at *
    rw [List.foldl_append]
    rw [show sub b (32 * i) 32 = (b.drop (32 * i)).take 32 from rfl] at h
    rw [h.1, show 32 * i + 32 = 32 * (i + 1) by omega, this]
    cases t <;> rfl

/-- The CRC of a string from the values after its parts of 32 bytes. -/
theorem crc_of_parts {b : Bytes} (l : List Word) (n : Nat) (h : crcParts b 0xFFFFFFFF 0 l = true)
    (k : b.length ≤ 32 * (0 + l.length)) (e : (~~~(l.getLastD 0xFFFFFFFF)).toNat = n) : (crc32c b).toNat = n := by
  have := crcParts_all b l _ 0 h k
  rw [← e, ← this]; rfl

theorem crc_facet : (crc32c secFacet).toNat = 2734257313 :=
  crc_of_parts [0x90faa9f0, 0x7afa93b3, 0xa21af34c, 0x402c6c73, 0x0337e957, 0xf1af6944, 0x590e6f54, 0x5d068b5e] _
    (by decide +kernel) (by decide +kernel) (by decide +kernel)
theorem crc_cap : (crc32c (zs 128)).toNat = 136799451 :=
  crc_of_parts [0x756ec955, 0xfc371498, 0xae0dfb54, 0xf7d89b24] _ (by decide +kernel) (by decide +kernel) (by decide +kernel)
theorem crc_zeros : (crc32c (zs 64)).toNat = 63499111 :=
  crc_of_parts [0x756ec955, 0xfc371498] _ (by decide +kernel) (by decide +kernel) (by decide +kernel)
theorem crc_schedule : (crc32c secSchedule).toNat = 2649692585 :=
  crc_of_parts [0xb340bb89, 0xfd046ed4, 0x6210e656] _ (by decide +kernel) (by decide +kernel) (by decide +kernel)
theorem crc_rest : (crc32c secPoints).toNat = 3432802545 ∧ (crc32c []).toNat = 0 := by decide +kernel
theorem crc_fabric : (crc32c secFabric).toNat = 1315766582 :=
  crc_of_parts [0xbed743ea, 0xb192fec9] _ (by decide +kernel) (by decide +kernel) (by decide +kernel)

def entries0 : List DirEntry :=
  [⟨1, 0, 192, 256, 2734257313⟩, ⟨2, 0, 448, 128, 136799451⟩, ⟨3, 0, 576, 16, 3432802545⟩, ⟨4, 0, 640, 64, 63499111⟩,
   ⟨5, 0, 704, 0, 0⟩, ⟨6, 0, 704, 64, 63499111⟩, ⟨7, 0, 768, 96, 2649692585⟩, ⟨12, 0, 896, 64, 1315766582⟩]

theorem directory0 : directory stream0 = entries0 := by decide +kernel

theorem sections0 :
    sub stream0 192 256 = secFacet ∧ sub stream0 448 128 = zs 128 ∧ sub stream0 576 16 = secPoints ∧
    sub stream0 640 64 = zs 64 ∧ sub stream0 704 0 = [] ∧ sub stream0 704 64 = zs 64 ∧
    sub stream0 768 96 = secSchedule ∧ sub stream0 896 64 = secFabric := by decide +kernel

theorem crcs0 (e : DirEntry) (h : e ∈ entries0) : (crc32c (sub stream0 e.off e.len)).toNat = e.crc := by
  obtain ⟨h1, h2, h3, h4, h5, h6, h7, h8⟩ := sections0
  simp only [entries0, List.mem_cons, List.not_mem_nil, or_false] at h
  rcases h with rfl | rfl | rfl | rfl | rfl | rfl | rfl | rfl
  · exact h1 ▸ crc_facet
  · exact h2 ▸ crc_cap
  · exact h3 ▸ crc_rest.1
  · exact h4 ▸ crc_zeros
  · exact h5 ▸ crc_rest.2
  · exact h6 ▸ crc_zeros
  · exact h7 ▸ crc_schedule
  · exact h8 ▸ crc_fabric

/-- The checks of a layout but for the sections' CRCs. -/
def plainLayout (b : Bytes) (d : List DirEntry) : List Check :=
  [⟨1, 0xFF, 0, leAt b 0 4 == 0x3153434B⟩, ⟨1, 0xFF, 4, leAt b 4 2 == 1⟩, checkItems 2 0xFF 0 (layoutItems b)] ++
  ((dirItems (hSigned b) 0 (64 + 16 * hNsec b) [] d).zipIdx.map (fun e => (⟨2, e.2, e.1.1, e.1.2⟩ : Check))) ++
  (d.zipIdx.map (fun e => (⟨2, e.2, e.1.off, sectionFits b e.1⟩ : Check)))

theorem layout0 : firstBad (layoutChecks stream0) = none := by
  have h : (plainLayout stream0 entries0).all (·.ok) = true := by decide +kernel
  have e : layoutChecks stream0 = plainLayout stream0 entries0 ++ entries0.zipIdx.map (fun e =>
      (⟨3, e.2, e.1.off, (crc32c (sub stream0 e.1.off e.1.len)).toNat == e.1.crc⟩ : Check)) := by
    unfold layoutChecks plainLayout
    rw [directory0]
  unfold firstBad
  rw [e, List.find?_eq_none]
  intro c hc
  rw [List.mem_append] at hc
  rcases hc with hc | hc
  · have := List.all_eq_true.mp h c hc
    simp [this]
  · obtain ⟨e, he, rfl⟩ := List.mem_map.mp hc
    have := crcs0 e.1 (List.fst_mem_of_mem_zipIdx he)
    simp [this]

theorem firstBad_none (l : List Check) (h : l.all (·.ok) = true) : firstBad l = none := by
  unfold firstBad
  rw [List.find?_eq_none]
  intro c hc
  have := List.all_eq_true.mp h c hc
  simp [this]

/-- The checks between a stream's layout and what it declares. -/
def middleChecks (s : State) (f : Nat) (b : Bytes) (sig : SigCheck) : List Check :=
  [⟨4, 0xFF, hSigned b, sig.rsa && s.ownerRsa (leAt b (hSigned b) 8)⟩,
   ⟨5, 0xFF, hSigned b + 8, sig.slh && s.ownerKeys (leAt b (hSigned b) 8) (leAt b (hSigned b + 8) 8)⟩,
   ⟨6, 0xFF, 28, s.rf Reg.SVN_MIN 7 0 ≤ hSvn b⟩] ++ fieldChecks b (parseKcs b) f

theorem stageBad_none (s : State) (f : Nat) (b : Bytes) (sig : SigCheck) (h1 : firstBad (layoutChecks b) = none)
    (h2 : (middleChecks s f b sig).all (·.ok) = true)
    (h3 : (contentChecks b (parseKcs b) (s.capPublished (parseKcs b)) s.groupWidth).all (·.ok) = true) :
    s.stageBad f b sig = none := by
  unfold State.stageBad
  rw [h1]
  have := firstBad_none _ h2
  unfold middleChecks at this
  simp only [this]
  exact firstBad_none _ h3

theorem middle0 : (middleChecks staging0 1 stream0 ⟨true, true⟩).all (·.ok) = true := by decide +kernel

theorem content0 :
    (contentChecks stream0 (parseKcs stream0) (staging0.capPublished (parseKcs stream0)) staging0.groupWidth).all (·.ok) = true := by
  decide +kernel

theorem witness_staged_stream :
    staging0.loader.busy = some (1, 1) ∧ staging0.loader.source ≠ 2 ∧ staging0.rf Reg.SEC_STAT 31 29 ≠ 3 ∧
    staging0.stageBad 1 (stream0.take staging0.loader.len) ⟨true, true⟩ = none := by
  have h : stream0.take staging0.loader.len = stream0 := List.take_of_length_le (by decide +kernel)
  exact ⟨by decide +kernel, by decide +kernel, by decide +kernel,
    h.symm ▸ stageBad_none staging0 1 stream0 ⟨true, true⟩ layout0 middle0 content0⟩

theorem witness_repair_record :
    State.recordCrc (State.recordBytes (staging0.repairRecord (parseKcs (stream0.take staging0.loader.len)).table.regions)) = true := by
  have h : stream0.take staging0.loader.len = stream0 := List.take_of_length_le (by decide +kernel)
  rw [h]; decide +kernel

/-- The same stage of an empty stream. -/
theorem witness_staged_refusal :
    (let s : State := { staging0 with loader := ⟨some (1, 1), 0, 0, 0, []⟩ }
     s.loader.busy = some (1, 1) ∧ s.loader.source ≠ 2 ∧ (s.stageBad 1 [] ⟨true, true⟩).isSome = true) := by decide +kernel

def source1 : Bytes := [1, 2, 3]
/-- SHA-384 of the empty string, which is what the digest of a stream without signed bytes covers. -/
def kcsD : Kcs := { kcs1 with digest := sha384 [] }
def stagedD : Staged := ⟨kcsD, 1, 64, 0, []⟩
/-- Facet 1's commit waits. -/
def commits (c : CommitWait) (slice : Nat) : State :=
  withRegs (State.reset.setFacet 1 { FacetState.reset with staged := some stagedD, commit := some c })
    [(Reg.BANK_STAT 7, 0x00202800), (Reg.SLICE_STAT 3, slice), (Reg.REG_STAT 8, 0)]
def commitA : CommitWait := { commit1 0 false with all := true }
/-- Facets 0 and 1 commit together. -/
def togetherS : State :=
  (commits commitA 0).setFacet 0 { FacetState.reset with staged := some stagedD, commit := some commitA }
/-- Facet 1 loads. -/
def loading (w : LoadWait) (slice : Nat) : State :=
  withRegs (State.reset.setFacet 1 { FacetState.reset with kcs := kcsD, source := 1, load := some w })
    [(Reg.FACET_STAT 1, 0x20000000), (Reg.BANK_STAT 7, 0x00202800), (Reg.SLICE_STAT 3, slice), (Reg.REG_STAT 8, 0x01800000)]

theorem witness_read_again : (commits (commit1 0 false) 0).readAgain stagedD (.bytes source1) = none := by
  have : sub source1 0 stagedD.kcs.signed = [] := by decide +kernel
  have d : sha384 [] = stagedD.kcs.digest := by simp only [stagedD, kcsD]
  unfold State.readAgain
  rw [if_neg (by decide)]
  simp only [this]
  exact if_pos d

theorem witness_commit :
    let c := commit1 0 false
    let s := (commits c 0).atBoundary 1
    let u := s.releaseFor 1 kcsD
    ((commits c 0).facet 1).commit = some c ∧
    (s.facet 1).load = none ∧ (s.facet 1).staged = some stagedD ∧ c.released = false ∧ (s.facet 1).drain ≠ 2 ∧
    s.facetState 1 = 0 ∧ s.commitDue 1 = true ∧ c.all = false ∧ s.banksBusy 1 kcsD.table = false ∧
    s.switchWaits kcsD = false ∧ s.commitBad 1 stagedD [(1, kcsD)] s.unbinding = none ∧ u.unbindWaits 1 stagedD [(1, kcsD)] = false ∧ firstBad (u.unusable kcsD) = none ∧
    u.resourceHeld (u.boundExcept [1] ++ u.lowerClaims 1) kcsD = false ∧ u.commitBad 1 stagedD [(1, kcsD)] [] = none ∧
    kcsD.table.jobTag < 2 ^ 24 := by decide +kernel

theorem witness_commit_refused :
    let c := commit1 64 false
    (let v := (commits (commit1 0 false) 0x30000000).atBoundary 1
     ∃ b, v.commitBad 1 stagedD [(1, kcsD)] v.unbinding = some b) ∧
    (commits c 0x20000000).commitDue 1 = true ∧ (commits c 0x20000000).rf Reg.CFG_WAIT 15 0 ≤ c.frames ∧ 0 < c.frames ∧
    (∃ b, firstBad ((commits c 0x20000000).heldChecks ((commits c 0x20000000).boundExcept [1] ++
      (commits c 0x20000000).lowerClaims 1) kcsD) = some b) := by
  exact ⟨Option.isSome_iff_exists.mp (by decide +kernel), by decide +kernel, by decide +kernel, by decide +kernel,
    Option.isSome_iff_exists.mp (by decide +kernel)⟩

theorem witness_commit_together :
    (togetherS.facet 1).commit = some commitA ∧ togetherS.commitDue 1 = true ∧ commitA.all = true ∧
    (togetherS.facet 0).commit = some commitA ∧ commitA.held = false := by decide +kernel

theorem witness_loads_end :
    let w : LoadWait := ⟨0, false, true⟩
    ((loading w 0x10000001).facet 1).load = some w ∧ ((loading w 0x10000001).facet 1).source ≠ 2 ∧
    firstBad ((loading w 0).lostInLoad 1 kcsD) = none ∧ (firstBad ((loading w 0x30000000).lostInLoad 1 kcsD)).isSome = true := by
  decide +kernel

def rebinding : State := running.setFacet 0 { facet0 with commit := some (commit1 0 true) }
def unbinding : State := running.setFacet 0 { facet0 with drain := 2 }
def unbindNow0 : State := running.setFacet 0 { facet0 with drain := 2, inStep := false }

theorem witness_drains_and_unbinds :
    (rebinding.facet 0).commit = some (commit1 0 true) ∧ (commit1 0 true).running = true ∧ (commit1 0 true).at_ = none ∧
    (rebinding.facet 0).inStep = true ∧ (rebinding.facet 0).drainLeft = 0 ∧
    (unbinding.facet 0).drain = 2 ∧ (unbinding.facet 0).forced = false ∧ (unbinding.facet 0).inStep = true ∧
    (unbinding.facet 0).drainLeft = 0 ∧ (unbindNow0.facet 0).drain = 2 ∧ (unbindNow0.facet 0).inStep = false ∧
    (unbindNow0.banksOf 0).all unbindNow0.bankIdle = true := by decide +kernel

/-! The photonic base (09). -/

/-- Facet 0, in its frame 3, has a grant of two channels from M01's site to C0. -/
def grantRec : GrantRec := ⟨0x10, 0, 2, 0, 16, 0xFFFF⟩
def granted : State :=
  withRegs (running.setFacet 0 { facet0 with frames := 3, kcs := { kcs0 with grants := [grantRec] } })
    [(Reg.SITE_CH 0, 0x01000100), (Reg.SITE_CH 0x10, 0x00400040)]
/-- A direction of group k whose failed lanes and half are given, with one swap of data lane 3 or none. -/
def laneDir (bad : List Nat) (half : Bool) (swap : List LaneSwap) : GroupDir := ⟨⟨bad, [], half, false⟩, LaneMap.reset, 0, swap⟩
def swapping0 : State := running.setGroupDir 0 true (laneDir [3] false [⟨3, 3, 5⟩])
def inhibit (s : State) : State := { s with sys := { s.sys with pwr := { s.sys.pwr with inhibit := true } } }
/-- Groups with no lane left to take a failing one's place: group 256 at full width, group 0 at half width; and the guest of
site 0 allows half width. -/
def spareless : State :=
  withRegs ((running.setGroupDir 256 false (laneDir ((List.range 6).map (112 + ·)) false [])).setGroupDir 0 true
    (laneDir ((List.range 54).map (48 + ·)) true [])) [(Reg.GCAP 0 3, 0x10)]

theorem witness_grants :
    granted.facetBound 0 = true ∧ granted.beatGrants = [(0, grantRec)] ∧ granted.prism.owed = [] ∧ 8 ≤ grantRec.src ∧
    grantRec.src ≠ 0x40 ∧ grantRec.src ≠ 0x41 := by decide +kernel

/-- A lane that carries nothing fails, one that a spare replaces, and one that nothing replaces, at full and at half width. -/
theorem witness_groups :
    (let m := (running.groupDir 0 true).map
     m.bad.contains 3 = false ∧ running.groupWidth 0 true ≠ 2 ∧ 3 < groupData 0 + groupSpares 0 ∧
     (∀ y ∈ (running.groupDir 0 true).swapping, y.beat ≠ running.beat) ∧ m.carriedBy (groupData 0) 3 = some 3 ∧
     { m with bad := [3] }.pool (groupData 0) (groupSpares 0) = [96, 97, 98, 99, 100, 101] ∧
     m.carriedBy (groupData 0) 100 = none ∧ running.inhibited = false) ∧
    (let m := (spareless.groupDir 256 false).map
     m.bad.contains 40 = false ∧ spareless.groupWidth 256 false ≠ 2 ∧ m.half = false ∧
     (m.carriedBy (groupData 256) 40).isSome = true ∧
     { m with bad := m.bad ++ [40] }.pool (groupData 256) (groupSpares 256) = []) ∧
    (let m := (spareless.groupDir 0 true).map
     m.bad.contains 40 = false ∧ spareless.groupWidth 0 true ≠ 2 ∧ m.half = true ∧
     (m.carriedBy (groupData 0) 40).isSome = true ∧
     { m with bad := m.bad ++ [40] }.pool (groupData 0) (groupSpares 0) = []) ∧
    groupData 420 = 64 ∧ bit (spareless.reg (Reg.GCAP ((420 - 418) / 8) 3)) 4 = true ∧
    (swapping0.groupDir 0 true).swapping = [⟨3, 3, 5⟩] ∧ (inhibit swapping0).inhibited = true := by decide +kernel

/-- A guest's group with every spare lane of it failed; lane 5 has not. -/
def usedGroup : GroupDir := laneDir ((List.range Config.ucieRedundant).map (64 + ·)) false []
theorem witness_guest_group :
    (spareless.setGroupDir 420 true usedGroup).groupDir 420 true = usedGroup ∧ usedGroup.map.half = false ∧
    usedGroup.map.bad.contains 5 = false ∧ (usedGroup.map.carriedBy (groupData 420) 5).isSome = true ∧
    { usedGroup.map with bad := usedGroup.map.bad ++ [5] }.pool (groupData 420) (groupSpares 420) = [] ∧
    (spareless.setGroupDir 420 true usedGroup).regs = spareless.regs := by
  refine ⟨by simp [State.setGroupDir, State.groupDir, State.setGroup, State.group], rfl, ?_, ?_, ?_, rfl⟩
  · simp only [usedGroup, laneDir, List.contains_eq_any_beq, List.any_eq_false, List.mem_map, List.mem_range]
    rintro x ⟨i, -, rfl⟩; simp; omega
  · exact show ((LaneMap.mk [] [] false false).carriedBy 64 5).isSome = true by decide +kernel
  · simp only [LaneMap.pool, LaneMap.spares, usedGroup, laneDir, groupData, groupSpares]
    simp only [List.filter_eq_nil_iff, List.mem_map, List.mem_range, Bool.false_eq_true, if_false, List.append_nil]
    rintro l ⟨i, hi, rfl⟩
    have : i < Config.ucieRedundant := hi
    simp; omega

/-- Words that a guest may present: CH_OUT 10 of 20 and CH_IN 10 of 20, PMIN 100 W, PMAX 700 W, two modules. -/
def guestWords : List Word :=
  let l : List Word := [0x01000001, 0x100, 0x02BC0064, 2, 0x140A140A, 1, 0, 0, 0, 0, 0, 0, 0, 0, 0]
  l ++ [crc32c (l.flatMap (fun x => leBytes 4 x.toNat))]
def bringUp0 : GuestBringUp := ⟨true, false, [0, 1], guestWords⟩
/-- Guest site 0 at STATE n, enabled and powered. -/
def guestAt (n : Nat) : State :=
  withRegs running [(Reg.GST_CTL 0, 0x80000000), (Reg.DOM_STAT 45, 0x80000000), (Reg.GST_STAT 0, n * 2 ^ 29), (Reg.DOM_STAT 0, 0x80000000)]
/-- A facet names guest site 0. -/
def guestHeld : State :=
  (guestAt 4).setFacet 0 { facet0 with kcs := { kcs0 with grants := [{ grantRec with dst := 0x40 }] } }

theorem witness_rails_and_guests :
    (guestAt 1).domOn 0 = true ∧ bit ((guestAt 1).reg (Reg.GST_CTL 0)) 31 = true ∧
    bit ((guestAt 1).reg (Reg.GST_CTL 0)) 0 = false ∧ (guestAt 1).domOn (State.guestDomain 0) = true ∧
    (guestAt 1).rf (Reg.GST_STAT 0) 31 29 < 3 ∧ guestWordsOk bringUp0.words = true ∧
    guestWordsOk (guestWords.set 2 0) = false ∧
    (let w := fun (i : Nat) => guestWords.getD i 0
     let widths := (List.range (fld (w 3) 3 0)).map (fun m =>
        let y := ((bringUp0.widths[m]?).map (fun (z : Fin 3) => z.val)).getD 2
        if y = 1 ∧ !bit (w 3) 4 then 2 else y)
     let channels := sumNat (widths.map (fun y => if y = 0 then 16 else if y = 1 then 8 else 0))
     widths = [0, 2] ∧ fld (w 4) 23 16 ≤ channels ∧ fld (w 4) 7 0 ≤ channels) ∧
    (guestAt 3).rf (Reg.GST_STAT 0) 31 29 = 3 ∧ (guestAt 4).guestLive 0 = true ∧ (guestAt 5).guestFacet 0 = none ∧
    (guestHeld.guestFacet 0).isSome = true := by decide +kernel

/-! Ports, lasers and rings (10). -/

theorem nothing_waits (s : State) (h : s.fab.adapt.isEmpty && s.fab.moves.isEmpty && s.fab.mcWait.isEmpty &&
    s.fab.tailAcks.isEmpty && s.fab.recv.all (fun e => !e.2.ackDue)) : NothingWaits s := by
  simp only [Bool.and_eq_true, List.isEmpty_iff, List.all_eq_true, Bool.not_eq_true'] at h
  exact ⟨h.1.1.1.1, h.1.1.1.2, h.1.1.2, h.1.2, h.2⟩

def training0 : PortTrain := ⟨0xFFFFFFFFF, 0x80000FFFF⟩
def sleepy : State :=
  withRegs { lit with sys := { lit.sys with clk := { lit.sys.clk with dt := 1000000 } } } [(Reg.OPT_CTL, 0x80000010)]
def asleep : State := withRegs lit [(Reg.PORT_STAT 0, 0x66000000)]
/-- A training block for line 3 that moves its taps, and one that begins EQUALISE. -/
def block0 : BitVec 64 := 0xB50C600000000000#64
def block1 : BitVec 64 := 0xB50D600000000000#64

/-- Totals that balance with no credit out, and some that do not. -/
def totals0 : List Nat := (List.range 10).map bufferSize
def balances (l : List Nat) (s : State) : Bool :=
  (l.take 10).zipIdx.all (fun e => tget 0 (s.port 0).credit e.2 + e.1 == bufferSize e.2)
/-- Line 3 of port 0 has begun to equalise and is DONE. -/
def equalised : State :=
  withRegs (lit.setPort 0 { PortState.reset with equalising := some 0, training := [(3, ⟨5, 6, 7, false, true⟩)] })
    [(Reg.PORT_STAT 0, 0x20000000)]
def waking : State := asleep.setPort 0 { PortState.reset with queue := [writeP] }

theorem witness_ports :
    lit.domOn (quadDomain 0) = true ∧ NothingWaits lit ∧
    (∀ d : Bool, laneCount (fun j => if d then training0.txGood.getLsbD j && !lit.lineOut (fibreOfPort 0) j
      else training0.rxGood.getLsbD j && (LineTrain.reset.done || LineTrain.reset.sent == 0)) ≠ 0) ∧
    (lit.port 0).equalising = none ∧ (equalised.port 0).equalising.isSome = true ∧
    (∀ s ∈ [equalised, withRegs lit [(Reg.PORT_STAT 0, 0x20000000)]], s.dirState 0 true ≤ 1 ∧
      (tget LineTrain.reset (s.port 0).training 3).ask < 128 ∧ (tget LineTrain.reset (s.port 0).training 3).id < 64) ∧
    LineTrain.reset.ask < 128 ∧ LineTrain.reset.id < 64 ∧
    [block0, block1].all (fun b => nbits b.toNat 63 56 == 0xB5 && decide (nbits b.toNat 55 50 < 36)) = true ∧
    lit.dirState 0 true ≠ 0 ∧ lit.dirState 0 false ≠ 0 ∧ (lit.port 0).queue = [] ∧ (lit.port 0).txBuf = [] ∧ (lit.port 0).sent = 0 ∧
    laneCount (fun j => training0.rxGood.getLsbD j && !(true && lit.lineOut (fibreOfPort 0) j)) ≠ 0 ∧
    balances totals0 lit = true ∧ balances [7] lit = false ∧ sleepy.maySleep 0 = true ∧
    asleep.dirState 0 true = 3 ∧ waking.dirState 0 true = 3 ∧ (waking.port 0).queue ≠ [] :=
  ⟨by decide +kernel, nothing_waits _ (by decide +kernel), by decide +kernel⟩

def queued : State := lit.setPort 0 (State.freshPort [writeP])
def kept : TxFrame := ⟨frame0, List.replicate 100 3⟩
def resending : State := lit.setPort 0 { PortState.reset with txBuf := [kept], resend := true }

theorem witness_frames_received :
    NothingWaits lit ∧ lit.dirState 0 false = 2 ∧ (lit.port 0).txBuf = [] ∧ (lit.port 0).txSeq < 4096 ∧
    (lit.port 0).rxMove = none ∧ frame0.ack.toNat = ((lit.port 0).txSeq + 4095) % 4096 ∧
    frame0.seq.toNat = ((lit.port 0).rxSeq + 1) % 4096 ∧
    (∀ b, b < 10 → tget 0 (lit.port 0).credit b ≤ bufferSize b) ∧
    64 ≤ sumNat ((((lit.setPort 0 { PortState.reset with headErrs := [(0, 63)] }).port 0).headErrs.filter
      (fun e => lit.dt < e.1 + 1800000)).map (·.2)) + 1 :=
  ⟨nothing_waits _ (by decide +kernel), by decide +kernel⟩

theorem witness_frames_sent :
    NothingWaits queued ∧ queued.dirState 0 true = 2 ∧ queued.idleOnly 0 = false ∧ (queued.port 0).txMoves = [] ∧
    (queued.port 0).wakeIdle = 0 ∧ (resending.port 0).wakeIdle = 0 ∧ (resending.port 0).txMoves = [] ∧
    (lit.port 0).txMoves = [] ∧ (lit.port 0).queue = [] ∧
    (queued.port 0).txBuf = [] ∧ (queued.port 0).queue = [writeP] ∧ (queued.port 0).sent = 0 ∧ (queued.port 0).resend = false ∧
    packetUnits writeP ≤ creditFree (queued.port 0) (bufferOf writeP) ∧ packetBytes writeP ≤ 640 * queued.txLanes 0 ∧
    resending.dirState 0 true = 2 ∧ resending.idleOnly 0 = false ∧ (resending.port 0).txBuf = [kept] ∧
    (resending.port 0).resend = true ∧ asleep.dirState 0 true = 3 :=
  ⟨nothing_waits _ (by decide +kernel), by decide +kernel⟩

/-- Line 3 of fibre 4 has a warm spare. -/
def warm : State := withRegs lit [(Reg.LINE 4 3, 0x20000000)]
def warmReady : State := warm.setLine (36 * 4 + 3) { LineState.reset with ready := true }
def warmLate : State := warm.setLine (36 * 4 + 3) { LineState.reset with tries := 64 }

theorem witness_fades :
    bit (lit.reg Reg.OPT_STAT) 0 = true ∧ lit.rf (Reg.LM_STAT 0) 31 29 = 2 ∧ lit.lineOut 0 3 = false ∧
    (lit.line 3).warned = false ∧ portOfFibre 0 = some 0 ∧ lit.dirState 0 true ≠ 1 ∧
    ((lit.setLine 3 { LineState.reset with warned := true }).line 3).warned = true ∧
    -70 < (-50 : Int) - (lit.line 3).level ∧ (-250 : Int) - (lit.line 3).level ≤ -200 ∧
    -300 < (-250 : Int) - (lit.line 3).level ∧ lit.laserOf 0 3 = 0 ∧ (lit.line 3).spareOk = true ∧
    (withRegs lit [(Reg.LINE 0 3, 0x10000000)]).lineRoleOf 0 3 = 2 ∧ (-700 : Int) - (lit.line 3).level ≤ -600 := by decide +kernel

theorem witness_spares :
    warm.laserOf 4 3 = 1 ∧ warm.lineRoleOf 4 3 ≠ 3 ∧ warmReady.laserOf 4 3 = 1 ∧
    warmReady.lineRoleOf 4 3 ≠ 3 ∧ (warmReady.line (36 * 4 + 3)).ready = true ∧
    (∀ s ∈ [warmReady, warmLate], ∀ j, j < 3 → s.swapDue 4 j false = false ∧ s.swapDue 4 j true = false) ∧ 64 ≤ (warmLate.line (36 * 4 + 3)).tries ∧
    (withRegs lit [(Reg.LINE 4 3, 0x38000000)]).lineRoleOf 4 3 = 3 ∧
    (withRegs lit [(Reg.LINE 4 3, 0x38000000)]).laserOf 4 3 = 1 ∧
    warmLate.laserOf 4 3 = 1 ∧ warmLate.lineRoleOf 4 3 ≠ 3 ∧ bit (lit.reg Reg.OPT_STAT) 1 = false ∧ lit.domOn (quadDomain 0) = true := by decide +kernel

/-- Ring 2 of line 3 of fibre 0. -/
def ringId : RingId := ⟨0, 3, 2, false⟩
def tuned (x : RingState) : State := lit.setRing (State.ringKey ringId) x
def moving (x : PortState) : State := lit.setPort 0 x

theorem witness_lane_moves :
    ((moving { PortState.reset with txMoves := [⟨7, 33, 5, true⟩] }).port 0).txMoves = [⟨7, 33, 5, true⟩] ∧
    State.moveDue ⟨7, 33, 5, false⟩ ((moving { PortState.reset with rxMove := some ⟨7, 33, 5, false⟩, rxSeq := 4 }).port 0
      |>.rxSeq |> (· + 1)) = true := by decide +kernel

theorem witness_lane_moves_now :
    (withRegs (moving { PortState.reset with txMoves := [⟨7, 33, 5, false⟩] }) [(Reg.PORT_STAT 0, 0x66000000)]).dirState 0 true = 3 ∧
    State.moveDue ⟨7, 33, 5, false⟩ 5 = true := by decide +kernel

/-- A ring in lock, one in false lock for the 100th window, one that has failed, and one whose mean offset is 9 codes. -/
theorem witness_rings :
    (let y := lit.ring (State.ringKey ringId)
     y.failed = false ∧ lit.lineOut 0 3 = false ∧ lit.ringDark ringId = false ∧ y.offset = 0 ∧ y.falseFor = 0 ∧
     lit.recalDue (State.ringKey ringId) = false) ∧
    (let s := tuned { RingState.reset with offset := 70, falseFor := 99, coef := [(0, some (100, 7))] }
     let y := s.ring (State.ringKey ringId)
     y.failed = false ∧ s.ringDark ringId = false ∧
     100 ≤ ((y.settle s.devFrame).chooseBand (s.quadTemp 0) s.devFrame).falseFor + 1) ∧
    ((tuned { RingState.reset with failed := true }).ring (State.ringKey ringId)).failed = true ∧
    (tuned { RingState.reset with hist := ⟨0, 0, 0, 9, 0, false⟩ }).recalDue (State.ringKey ringId) = true ∧
    4 ≤ 4 % 16 ∧ 4 % 16 < 14 ∧ lit.busChannel (9 * 4 + 2) 7 = some 7 ∧
    (tget (0, 0) lit.opt.errors (36 * (9 * 4 + 2) + 7)).2 + 3 ≤ 16 := by decide +kernel

/-- A bus layout of the kind that R292 asks for, in each quadrant. -/
theorem plain_layout_keeps_the_rule : (List.range 4).all (feedsOk plainFeed) = true := by decide +kernel

/-! The fabric and its memory semantics (11, 12). -/

/-- A packet that its receive flow takes in order at endpoint 0 of facet 0. -/
def takenInOrder (p : Packet) (op : Nat) (x : RecvFlow) (s : State) : Bool :=
  hcrcOk p && p.op.toNat == op && op != 0 && !s.overfull 0 p && s.routeValid p.dst.toNat && s.routeLocal p.dst.toNat &&
  s.routeEp p.dst.toNat == 0 && !s.mustWait p && p.marked && wellFormedOp p &&
  s.recvFlow (flowKey (flowOf p)) == some x && x.id == flowOf p && !x.has p.seq.toNat &&
  (!p.last || x.allBefore p.seq.toNat) && x.held.isEmpty && x.tailsDue.isEmpty && decide (x.newN + 1 < 16) && !p.fence &&
  !p.mc && s.epFacet 0 == some 0 && p.jobTag.toNat == s.jobTag 0

theorem inOrder_of_takenInOrder (p : Packet) (op : Nat) (x : RecvFlow) (s : State) (h : takenInOrder p op x s = true) :
    InOrder p op 0 0 0 x s := by
  simp only [takenInOrder, Bool.and_eq_true, Bool.or_eq_true, Bool.not_eq_true', decide_eq_true_eq, beq_iff_eq, bne_iff_ne,
    List.isEmpty_iff] at h
  obtain ⟨⟨⟨⟨⟨⟨⟨⟨⟨⟨⟨⟨⟨⟨⟨⟨⟨⟨⟨⟨h1, h2⟩, h3⟩, h0⟩, h4⟩, h5⟩, h6⟩, h7⟩, h8⟩, h9⟩, h10⟩, h11⟩, h12⟩, h13⟩, h14⟩, h15⟩, h16⟩, h17⟩,
    h18⟩, h19⟩, h20⟩ := h
  refine ⟨⟨⟨h1, h2, h3, h0, h4, h5, h6, h7⟩, h8, h9, .inl h10, h11, h12, fun hl => ?_, h14, h15, h16, h17, h18⟩, h19, h20⟩
  rcases h13 with h | h
  · simp [h] at hl
  · exact h

theorem witness_requests :
    takenInOrder writeP 1 (recv0 0) joined = true ∧ joined.inPod 300 = true ∧ joined.pageCheck 0 0 (State.requestOf writeP) = .at_ 256 ∧
    takenInOrder readP 2 (recv0 0) joined = true ∧ readForm readP.payload = true ∧
    joined.pageCheck 0 0 (State.requestOf readP) = .at_ 256 ∧
    takenInOrder atomicP 3 (recv0 0) joined = true ∧ atomicForm atomicP.payload = true ∧
    (∀ p ∈ [writeP, readP, atomicP], p.payload.length % 64 = 0 ∧ p.payload ≠ []) ∧
    (let s : State := { joined with msf := { joined.msf with windows := [] } }
     takenInOrder writeP 1 (recv0 0) s = true ∧ s.inPod 300 = true ∧
     s.pageCheck 0 0 (State.requestOf writeP) = .refuse 16) := by decide +kernel

/-- A key region on endpoint 5 of facet 0, to which EID 200 leads. -/
def key0 : KeyRegion := ⟨0, 0, 1, 5, 700, true, true, 7, 0⟩
def keyed : State :=
  { joined with msf := { joined.msf with keys := [(2, some key0)] }, fab := { joined.fab with routes := [(200, 0xC0050000)] } }
def keyWriteP : Packet := sealHeader { writeP with addr := 0 }
def keyReadP : Packet := sealHeader { readP with addr := 0 }

theorem witness_key_requests :
    keyed.epFacet 5 = none ∧ keyed.epKey 5 = some 2 ∧ keyed.keyRegion 2 = some key0 ∧ keyed.inPod 300 = true ∧
    (∀ p ∈ [keyWriteP, keyReadP], hcrcOk p = true ∧ keyed.overfull 0 p = false ∧ keyed.routeEp p.dst.toNat = 5 ∧ keyed.routeLocal p.dst.toNat = true ∧
      keyed.routeValid p.dst.toNat = true ∧ keyed.mustWait p = false ∧ wellFormedOp p = true ∧
      keyed.recvFlow (flowKey (flowOf p)) = some (recv0 0) ∧ p.jobTag.toNat = key0.key.toNat) ∧
    keyed.keyCheck key0 (State.requestOf keyWriteP) = .at_ 0 ∧ keyed.keyCheck key0 (State.requestOf keyReadP) = .at_ 0 := by
  decide +kernel

def fwdReadP : Packet := packet 9 1 1 addr0 (headerBytes readP ++ List.replicate 48 0 ++ readP.payload)

theorem witness_forwards_and_answers :
    takenInOrder fwdP 9 (recv0 1) joined = true ∧ (parseHeader fwdP.payload).op = 1#5 ∧
    (fwdP.payload.drop 64).length % 64 = 0 ∧ fwdP.payload.drop 64 ≠ [] ∧
    joined.pageCheck 0 0 (State.requestOf fwdP) = .at_ 256 ∧
    takenInOrder fwdReadP 9 (recv0 1) joined = true ∧ (parseHeader fwdReadP.payload).op = 2#5 ∧
    readForm (fwdReadP.payload.drop 64) = true ∧ joined.pageCheck 0 0 (State.requestOf fwdReadP) = .at_ 256 ∧
    takenInOrder dataP 0x10 (recv0 2) joined = true ∧
    joined.dataTag dataP = some ⟨0, 9, 7, 786436, false⟩ ∧ joined.epFacet 0 = some 0 ∧
    joined.pageCheck 0 0 ⟨1, dataP.addr.toNat, 1⟩ = .at_ 256 ∧ takenInOrder doneP 0x11 (recv0 2) joined = true ∧
    joined.findRTag 0 doneP.jobTag.toNat (fun r => r.rtag == leAt doneP.payload 0 4) = some ⟨0, 9, 7, 786436, false⟩ := by
  decide +kernel

/-- One home agent with a queue, merge entries and jobs. -/
def homed (l : List HomeReq) (m : List MergeEntry) (j : Tbl HomeJob) (mer : Bool) : State :=
  withRegs { joined with msf := { joined.msf with homes := [(homeOf 256, ⟨l, m⟩)], jobs := j } }
    [(Reg.MSF_CTL, if mer then 0x80000040 else 0x40)]
def storeR : HomeReq := ⟨1, 2, 3, [7, 8], 0⟩
def readR : HomeReq := ⟨2, 2, 2, [], 1⟩
def atomicR : HomeReq := ⟨3, 2, 2, [], 1⟩
def entry0 : MergeEntry := ⟨2, [(3, 7), (4, 8)], 0⟩

theorem witness_home_agents :
    (∀ b, ((homed [storeR] [] [] b).home (homeOf 256)).queue = [storeR] ∧
      (homed [storeR] [] [] b).stackOn (stackOf (2 * 128)) = true ∧ (homed [storeR] [] [] b).msf.waiting = [] ∧
      (∀ e ∈ (homed [storeR] [] [] b).fab.recv, e.2.held = []) ∧ (homed [storeR] [] [] b).mergeOn = b) ∧
    (homed [storeR] [entry0] [] true).mergeOver (homeOf 256) 2 = false ∧
    (homed [storeR] [{ entry0 with since := 7 }] [] true).mergeOver (homeOf 256) 2 = true ∧
    entry0.since = (homed [] [entry0] [] true).beat ∧ (homed [] [entry0] [] true).dt % 256 ≠ 255 ∧
    (homed [] [{ entry0 with since := 7 }] [] true).mergeEntry (homeOf 256) 2 = some { entry0 with since := 7 } ∧
    ((homed [storeR] [entry0] [] true).home (homeOf 256)).merges.findIdx? (fun m => m.line == 2) = some 0 ∧
    ((homed [storeR] (List.replicate 128 { entry0 with line := 9 }) [] true).home (homeOf 256)).merges.findIdx?
      (fun m => m.line == 2) = none ∧
    (∀ r ∈ [readR, atomicR], let s := homed [r] [] [(1, ⟨atomicP, 0, 1, []⟩)] false
     (s.home (homeOf 256)).queue = [r] ∧ s.msf.jobs.find? (fun e => e.1 == 1) = some (1, ⟨atomicP, 0, 1, []⟩) ∧
     (s.readFinds (2 * 128) []).linePoison 2 = false ∧ (s.readFinds (2 * 128) []).stackOn (stackOf (2 * 128)) = true ∧ s.stackOn (stackOf (2 * 128)) = true) ∧
    (homed [] [entry0] [] true).mergeEntry (homeOf 256) 2 = some entry0 := by decide +kernel

/-- EID 200's queue passes messages of EID 201 on, or takes none. -/
def gateway : State := withRegs joined [(Reg.MQ_CTL 0, 0xC0000000)]
def queueOff : State := withRegs joined [(Reg.MQ_CTL 0, 0)]
def throughP : Packet := packet 6 0 0 0 (bytesAt [(8, 201), (12, 2)])

theorem homes_are_still (s : State) (h : s.msf.homes = []) (n : Nat) : s.home n = ⟨[], []⟩ := by
  show tget HomeState.empty s.msf.homes n = _
  rw [h]; rfl

theorem witness_still : ∀ s ∈ [joined, queueOff], ∀ n, s.home n = ⟨[], []⟩ := by
  intro s hs n
  simp only [List.mem_cons, List.not_mem_nil, or_false] at hs
  rcases hs with rfl | rfl <;> exact homes_are_still _ (by decide +kernel) n

theorem witness_messages :
    takenInOrder sendP 6 (recv0 0) joined = true ∧ messageForm sendP.payload = true ∧ joined.mqOn 0 = true ∧
    joined.mqFull 0 = false ∧ joined.mqGateway 0 = false ∧ queueOff.mqOn 0 = false ∧
    takenInOrder relayP 8 (recv0 1) joined = true ∧ messageForm relayP.payload = true ∧
    leAt relayP.payload 8 4 = relayP.dst.toNat ∧ takenInOrder throughP 6 (recv0 0) gateway = true ∧
    messageForm throughP.payload = true ∧ gateway.mqGateway 0 = true ∧ 2 ≤ byteAt throughP.payload 12 ∧
    leAt throughP.payload 8 4 ≠ throughP.dst.toNat ∧
    (let tail := joined.mqTail 0
     joined.areaLocked (joined.mqBase 0 + 64 + 8192 * (tail % 2 ^ joined.mqLog2 0))
       (sub sendP.payload 0 15 ++ [1] ++ sub sendP.payload 16 48).length = false) := by decide +kernel

def heldP : HeldLast := ⟨writeP, 5⟩
def holding : State :=
  { joined with fab := { joined.fab with recv := [(flowKey (flow 0), { recv0 0 with newN := 2, held := [heldP] })] } }
def emptyFlow : State :=
  { sending with fab := { sending.fab with send := [(flowKey (back 0), { send0 with unacked := [], tails := [] })] } }
def emptyTail : State :=
  { sending with fab := { sending.fab with send := [(flowKey (back 0), { send0 with unacked := [] })] } }
def spent : State :=
  { sending with fab := { sending.fab with send := [(flowKey (back 0), { send0 with unacked := [⟨0, outP, 0, 200⟩] })] } }
/-- A packet reaches endpoint 0. -/
def reaches (p : Packet) (op : Nat) (s : State) : Bool :=
  hcrcOk p && p.op.toNat == op && op != 0 && !s.overfull 0 p && s.routeValid p.dst.toNat && s.routeLocal p.dst.toNat &&
  s.routeEp p.dst.toNat == 0 && !s.mustWait p

theorem reaches_of_reaches (p : Packet) (op : Nat) (s : State) (h : reaches p op s = true) : Reaches p op 0 0 s := by
  simp only [reaches, Bool.and_eq_true, Bool.not_eq_true', beq_iff_eq, bne_iff_ne] at h
  obtain ⟨⟨⟨⟨⟨⟨⟨h1, h2⟩, h3⟩, h0⟩, h4⟩, h5⟩, h6⟩, h7⟩ := h
  exact ⟨h1, h2, h3, h0, h4, h5, h6, h7⟩

/-- The flow's TAIL, and a packet of it that has settled, come back. -/
def tailReturnP : Packet := packet 0x13 2 0 0 (headerBytes (State.tailPacket (back 0) ⟨1, 0, 0, 7, 0⟩) ++ List.replicate 48 0)
def goneReturnP : Packet := packet 0x13 2 0 0 (headerBytes { outP with seq := 9 } ++ List.replicate 48 0)

theorem witness_flows_settle :
    reaches ackP 0x12 sending = true ∧ back 0 = ⟨ackP.dst, ackP.src, true, BitVec.ofNat 2 (byteAt ackP.payload 2)⟩ ∧
    sending.fab.fences = [] ∧ sending.fab.pendRoutes = [] ∧ sending.sendFlow (flowKey (back 0)) = some send0 ∧
    wellFormedOp ackP = true ∧ State.answersFlow send0 ackP = true ∧ byteAt ackP.payload 42 = 0 ∧
    (∀ u ∈ send0.unacked, u.packet.mc = false) ∧ send0.waiting = [] ∧
    takenInOrder returnP 0x13 (recv0 2) sending = true ∧ back 0 = flowOf (parseHeader returnP.payload) ∧
    (parseHeader returnP.payload).src = returnP.dst ∧ (parseHeader returnP.payload).jobTag = returnP.jobTag ∧
    (parseHeader returnP.payload).marked = true ∧ State.hasSeq (parseHeader returnP.payload) = true ∧
    send0.unacked.find? (fun v => v.seq == (parseHeader returnP.payload).seq.toNat) = some ⟨0, outP, 0, 0⟩ ∧
    outP.jobTag = returnP.jobTag ∧
    takenInOrder tailReturnP 0x13 (recv0 2) sending = true ∧ (parseHeader tailReturnP.payload).op = 0x14#5 ∧
    (∃ r ∈ send0.tails, r.epoch = (parseHeader tailReturnP.payload).epoch.toNat ∧ r.tag = tailReturnP.jobTag.toNat) ∧
    takenInOrder goneReturnP 0x13 (recv0 2) sending = true ∧
    (∀ u ∈ send0.unacked, u.seq ≠ (parseHeader goneReturnP.payload).seq.toNat) ∧
    (∃ r ∈ send0.tails, r.tag = tailAckP.jobTag.toNat) ∧
    reaches tailAckP 0x15 sending = true ∧ wellFormedOp tailAckP = true ∧
    back 0 = ⟨tailAckP.dst, tailAckP.src, true, BitVec.ofNat 2 (byteAt tailAckP.payload 1)⟩ := by decide +kernel

theorem witness_flow_timers :
    reaches tailP 0x14 sending = true ∧ sending.recvFlow (flowKey (flow 0)) = some (recv0 0) ∧ (recv0 0).tailsDue = [] ∧
    sending.epFacet 0 = some 0 ∧ tailP.jobTag.toNat = sending.jobTag 0 ∧ wellFormedOp tailP = true ∧
    holding.recvFlow (flowKey (flow 0)) = some { recv0 0 with newN := 2, held := [heldP] } ∧ heldP.packet.seq = 0 ∧
    emptyFlow.sendFlow (flowKey (back 0)) = some { send0 with unacked := [], tails := [] } ∧ emptyFlow.fab.blocked = [] ∧
    send0.unacked.find? (fun v => v.seq == 0) = some ⟨0, outP, 0, 0⟩ ∧
    0 < max 1 (fld (sending.hw Reg.FAB_CTL) 31 24) ∧ sending.egressBad (sealHeader outP) = none ∧
    max 1 (fld (spent.hw Reg.FAB_CTL) 31 24) ≤ 200 ∧ spent.fab.fences = [] ∧
    (emptyTail.sendFlow (flowKey (back 0))).map (fun x => (x.unacked.find? (fun v => v.seq == 0), x.tails.find? (fun v => v.last == 0)))
      = some (none, some ⟨1, 0, 0, 7, 0⟩) := by decide +kernel

/-- The ACK of flow 0 finds its way out, or none: EID 300 leads nowhere else than through port 5, which is full. -/
theorem witness_ack_rooms :
    let x : RecvFlow := { recv0 0 with newN := 2 }
    let a := { mkPacket x.id.src.toNat x.id.dst.toNat 2 0x12 x.tag 0 false (ackPayload x) with echo := decide (0 < x.ceN) }
    let s := sending.setPort 5 (State.freshPort [])
    let u := sending.setPort 5 PortState.reset
    s.answerRoom a = true ∧ u.answerRoom a = false ∧ (flow 0).marked = true ∧ 0 < x.newN := by decide +kernel

def passing : Packet := sealHeader { writeP with dst := 300, src := 400 }
def aging : State := sending.setPort 5 { PortState.reset with queue := [outP] }
/-- A request and an ACK of other modules wait at port 5. -/
def ackOut : Packet := { passing with op := 0x12, chan := 2 }
def transit : State := sending.setPort 5 { PortState.reset with queue := [passing, ackOut] }
/-- Multicast group 3 of facet 0 with one target, EID 200, whose data registers hold a route and a target. -/
def tabled : State :=
  withRegs { sending with fab := { sending.fab with send := [], mcHdr := [(3, 0x80000000)], mcDst := [(768, 200)] } }
    [(Reg.RT_LO, 0x80000005), (Reg.RT_HI, 7), (Reg.MC_DATA, 0x8000C123)]

theorem witness_routes :
    hcrcOk passing = true ∧ sending.overfull 0 passing = false ∧ sending.routeLocal 300 = false ∧ sending.routeValid 300 = true ∧
    (sending.route 300).testBit 28 = false ∧ sending.egressBad passing = none ∧ sending.choosePort (sending.route 300) passing = some 5 ∧
    sending.moveOf 300 = none ∧ outP ∈ (aging.port 5).queue.drop 0 ∧ (aging.port 5).sent = 0 ∧ outP.chan ≠ 2#2 ∧ sending.fab.blocked = [] ∧ aging.routeLocal outP.src.toNat = true ∧
    sending.fab.fences = [] ∧ sending.fab.send = [(flowKey (back 0), send0)] ∧
    sending.fenceCovers ⟨0, some 300, [], false, []⟩ send0.id = true ∧ send0.unacked ≠ [] ∧
    sending.fenceCovers ⟨0, some 301, [], false, []⟩ send0.id = false ∧
    sending.beforeFence sending.fab.fences.length = [] ∧ (transit.port 5).queue = [passing, ackOut] ∧
    transit.routeLocal passing.src.toNat = false ∧ passing.chan ≠ 2#2 ∧ ackOut.chan = 2#2 := by decide +kernel

theorem witness_tables :
    (tabled.mcHeader 3).testBit 31 = true ∧ nbits (tabled.mcHeader 3) 29 24 = 0 ∧ tabled.mcHeader 3 % 256 = 0 ∧
    tabled.facetBound 0 = true ∧ (tabled.kcs 0).table.eps.contains 0 = true ∧ tabled.fab.send = [] ∧
    tget 0 tabled.fab.mcDst (3 * 256) = 200 ∧ tabled.routeLocal 200 = true ∧ (tabled.route 500).testBit 31 = false ∧
    tabled.routeBad 500 ((tabled.reg Reg.RT_LO).toNat + (tabled.reg Reg.RT_HI).toNat * 2 ^ 32) = 0 ∧
    tabled.routeBad 300 ((tabled.reg Reg.RT_LO).toNat + (tabled.reg Reg.RT_HI).toNat * 2 ^ 32) = 0 ∧
    (tabled.route 300).testBit 31 = true ∧
    tabled.routeBad 200 ((tabled.reg Reg.RT_LO).toNat + (tabled.reg Reg.RT_HI).toNat * 2 ^ 32) ≠ 0 := by decide +kernel

/-- Facet 0 is HELD; the data registers hold a window, a translation and a key region for it. -/
def writing : State :=
  withRegs (joined.setFacet 0 facetS)
    [(Reg.FACET_STAT 0, 0x40000007), (Reg.WIN_DATA, 0xF0000001), (Reg.XLT_DATA1, 0x00070003), (Reg.XLT_DATA0, 500),
     (Reg.KEY_DATA, 600), (Reg.MQ_CTL 0, 0)]

theorem witness_memory_tables :
    writing.windowBad 0 0xF0000001 = 0 ∧ writing.windowBad 1 0xF0000001 ≠ 0 ∧ writing.facetBound 0 = true ∧
    writing.rf Reg.XLT_DATA1 12 0 ≠ 0 ∧ writing.rf Reg.XLT_DATA1 31 16 ≠ 0 ∧ writing.mqOn 0 = false ∧ writing.mqOk 0 = true ∧
    writing.rf Reg.KEY_DATA 17 0 = 600 ∧ writing.keyBad 0 0 5 0 600 = 0 ∧ writing.keyBad 0 0 0 0 600 ≠ 0 := by decide +kernel

/-! Device time and resets (13). -/

def field (o n v : Nat) : List (Nat × Byte) := (leBytes n v).zipIdx.map (fun e => (o + e.2, e.1))
/-- A member of a tree of modules with SYNC role r and reference state q, at device time 5000. -/
def timedState (r q : Nat) : State :=
  let s := withRegs joined [(Reg.SYNC_CTL, r * 2 ^ 30 + 2 ^ 29), (Reg.SYNC_PARENT, 300), (Reg.CLK_STAT, q * 2 ^ 29)]
  { s with sys := { s.sys with clk := { s.sys.clk with dt := 5000, locked := true, t1 := some 79700, trips := [250] } } }
def syncReqP : Packet := timeMsg 1 (field 8 8 79700)
def syncRespP : Packet := timeMsg 2 (field 8 8 79700 ++ field 16 8 79800 ++ field 24 8 79900)
def stopP : Packet := timeMsg 5 (field 40 8 2560)
def lateP : Packet := timeMsg 6 (field 40 8 2560 ++ field 32 2 7)
def multi : State := running.setFacet 0 { facet0 with kcs := { kcs0 with schedule := { kcs0.schedule with multi := true }, session := some session0, eids := [200] } }
def multiModule : State := { multi with fab := { multi.fab with routes := [(200, 0xC0000000)] } }
/-- No facet is bound, and a step of the counter waits. -/
def stepping : State :=
  let s := withRegs { timedState 2 1 with facets := [] } [(Reg.FACET_STAT 0, 0)]
  { s with sys := { s.sys with clk := { s.sys.clk with stepBy := some (-1000) } } }

theorem witness_exchanges :
    (timedState 2 1).role = 2 ∧ takenInOrder syncReqP 7 (recv0 0) (timedState 1 1) = true ∧ timeForm syncReqP.payload = true ∧
    byteAt syncReqP.payload 0 = 1 ∧ (timedState 1 1).role = 1 ∧ takenInOrder syncRespP 7 (recv0 0) (timedState 2 1) = true ∧
    timeForm syncRespP.payload = true ∧ byteAt syncRespP.payload 0 = 2 ∧
    (timedState 2 1).sys.clk.t1 = some (leAt syncRespP.payload 8 8) ∧
    syncRespP.src.toNat = fld ((timedState 2 1).hw Reg.SYNC_PARENT) 17 0 ∧
    tripValid [250] (exchange 79700 79800 79900 ((timedState 2 1).stamp 0)).1 = true ∧ stepping.role = 2 ∧
    stepping.sys.clk.stepBy = some (-1000) ∧ stepping.mayStep = true := by
  decide +kernel

theorem witness_reference :
    TimeFor (timeMsg 3 []) 3 0 joined ∧ TimeFor (timeMsg 4 []) 4 0 joined ∧ TimeFor stopP 5 0 multiModule ∧
    (multiModule.kcs 0).schedule.multi = true ∧ TimeFor lateP 6 0 multiModule ∧ (timedState 1 1).refState = 1 ∧
    (timedState 1 2).refState = 2 ∧ (timedState 1 3).refState = 3 ∧ (timedState 1 4).refState = 4 ∧
    (timedState 1 5).refState = 5 ∧ (timedState 1 5).role ≠ 2 ∧ TimeFor stopP 5 0 joined ∧ TimeFor lateP 6 0 joined ∧
    (joined.kcs 0).schedule.multi = false := by
  unfold TimeFor
  decide +kernel

def env0 : StartEnv := ⟨[72, 72, 72, 71, 73], [(3, true)], [4], true, true, [], List.replicate 20 30000, true, [], List.replicate 8 none⟩
def inReset (s : State) (held : Bool) : State :=
  { s with sys := { s.sys with rst := { s.sys.rst with rstLow := true, held := held } } }
def locked (s : State) : State := { s with sys := { s.sys with clk := { s.sys.clk with locked := true, dt := 900 } } }

theorem witness_resets :
    State.reset.pwrState ≠ 5 ∧ State.reset.pwrState ≠ 6 ∧ State.reset.sys.pwr.opened = false ∧ State.reset.sys.pwr.inhibit = false ∧
    State.reset.sys.rst.rstLow = false ∧ (withRegs seated [(Reg.RST_FUSE, 2)]).reachChip = false ∧ (withRegs seated [(Reg.RST_FUSE, 3)]).reachChip = true ∧
    (inReset seated true).sys.rst.rstLow = true ∧ (inReset seated true).isOff = false ∧ seated.sys.rst.load = none ∧
    seated.sys.clk.locked = false ∧ seated.sys.rst.held = false ∧ seated.inhibited = false ∧
    (inhibit seated).inhibited = true := by decide +kernel

/-- A firmware image of one header, with SVN n, for the keys of slot 1. -/
def image (n : Nat) : Bytes :=
  [leBytes 4 0x3157464B, leBytes 4 16704, leBytes 4 64, leBytes 4 n, leBytes 4 77, leBytes 2 0, leBytes 2 9, zs 40,
   leBytes 8 0x1122334455667788, leBytes 8 0x99, zs 16624].flatten
/-- The root is locked, slot 1 holds the keys, and the least firmware SVN is 3. -/
def booting : State :=
  locked (withRegs seated [(Reg.SEC_STAT, 3), (Reg.PWR_STAT, 0x20000000), (Reg.KID 1 0, 0x55667788), (Reg.KID 1 1, 0x11223344), (Reg.KID 1 2, 0x99),
    (Reg.SVN_MIN, 0x30000), (Reg.STRAP, 0x4804)])
def updating : State := withRegs booting [(Reg.GLB_STAT, 0x80000000), (Reg.CND_STAT, 0x30000000)]

theorem witness_firmware :
    booting.mayBoot = true ∧ booting.sys.rst.load = none ∧ strapFlash (booting.rf Reg.STRAP 3 0) = true ∧
    booting.imageBad (image 5) true ⟨true, true⟩ = none ∧ booting.sys.host.goHeld = [] ∧
    strapFlash ((withRegs booting [(Reg.STRAP, 2)]).rf Reg.STRAP 3 0) = false ∧
    (withRegs booting [(Reg.STRAP, 2)]).mayBoot = true ∧ booting.imageBad (image 1) true ⟨true, true⟩ = some 5 ∧ booting.imageBad (image 5) true ⟨false, true⟩ = some 3 := by
  decide +kernel

def waitingImage : State := { booting with sys := { booting.sys with cnd := { booting.sys.cnd with romBoot := true } } }

theorem witness_update :
    waitingImage.sys.cnd.romBoot = true ∧ waitingImage.imageBad (image 5) true ⟨true, true⟩ = none ∧
    waitingImage.sys.host.goHeld = [] ∧ updating.sys.cnd.romBoot = false ∧ updating.fwReady = true ∧ updating.loader.busy = none ∧ updating.standby = 3 ∧
    updating.imageBad (image 5) true ⟨true, true⟩ = none ∧
    leAt (image 5) 20 2 ≤ (updating.imageIn updating.activeUnit).format ∧
    (updating.imageIn updating.activeUnit).format ≤ leAt (image 5) 22 2 := by decide +kernel

/-! Power, heat and the conductors (14, 15). -/

/-- PWR_STAT.STATE n with every domain on. -/
def powered (n : Nat) : State :=
  withRegs State.reset ([(Reg.PWR_STAT, n * 2 ^ 29 + 7000)] ++ (List.range 48).map (fun d => (Reg.DOM_STAT d, 0x80000000)))
def supply (f : PwrState → PwrState) (s : State) : State := { s with sys := { s.sys with pwr := f s.sys.pwr } }
def quadOnly : State := withRegs State.reset [(Reg.PWR_STAT, 0x20000000), (Reg.DOM_STAT 44, 0x80000000)]

theorem witness_supply :
    (supply (fun p => { p with service := false }) State.reset).sys.pwr.service = false ∧
    (powered 1).sys.pwr.inhibit = false ∧ (inhibit (powered 2)).sys.pwr.inhibit = true ∧
    (inhibit (powered 2)).sys.rst.due = [] ∧ (∀ m, m < 20 → ((inhibit (powered 2)).stack m).commitDue = false) ∧
    (inhibit (powered 2)).sys.cnd.flashDue = false ∧ (powered 1).isOff = false ∧
    (powered 1).sys.pwr.badPhases.contains 3 = false ∧ (powered 1).sys.pwr.badPhases.length ≤ 2 ∧
    (powered 1).anyFrames = false ∧ (supply (fun p => { p with badPhases := [0, 1, 2] }) (powered 1)).sys.pwr.badPhases = [0, 1, 2] ∧
    (withRegs seated [(Reg.PWR_STAT, 0x20000000)]).anyFrames = true ∧
    (withRegs seated [(Reg.PWR_STAT, 0x20000000)]).isOff = false ∧
    bit (supply (fun p => { p with record := 4 }) (powered 4)).sys.pwr.record 2 = true ∧ (powered 6).pwrState = 6 := by
  decide +kernel

theorem witness_domains :
    quadOnly.inhibited = false ∧ quadOnly.domReady 24 = true ∧ quadOnly.domSoon 24 = true ∧ quadOnly.domHeld 24 = false ∧
    quadOnly.isOff = false ∧ quadOnly.domOn 24 = false ∧ quadOnly.sys.pwr.coming.contains 24 = false ∧
    (powered 1).domBound 0 = false ∧ (powered 1).domNeeded 0 = false ∧ (inhibit quadOnly).inhibited = true ∧
    State.reset.domSoon 0 = false ∧ (powered 1).domNeeded 44 = true ∧
    (supply (fun p => { p with coming := [24] }) quadOnly).sys.pwr.coming.contains 24 = true := by decide +kernel

def warmPart (p : Nat) (f : PartState → PartState) : State := State.reset.setPart p (f (State.reset.part p))

theorem witness_quadrant_sample :
    (State.reset.sensor (quadSensor 3)).failed = false ∧ 1 ≤ ((warmPart 0x43 (fun p => { p with hot := 1 })).part (0x40 + 3)).hot := by decide +kernel

theorem cold_parts (p : Nat) : (State.reset.part p).hot = 0 := rfl

/-- Standby state n and update step u, with an image in each place. -/
def pair (n u : Nat) (f : CndState → CndState) : State :=
  let s := withRegs seated [(Reg.CND_STAT, n * 2 ^ 28), (Reg.UPD_STAT, u * 2 ^ 29), (Reg.CND_CLAIM, 0x00050004)]
  { s with sys := { s.sys with cnd := f { s.sys.cnd with copies := 16 } } }

theorem witness_mirror_pair :
    (pair 3 0 id).standby = 3 ∧ (pair 3 0 id).sys.cnd.romBoot = false ∧ (pair 2 0 id).standby = 2 ∧
    (pair 2 0 id).sys.cnd.replay = false ∧ (pair 2 0 id).sys.cnd.imageA = (pair 2 0 id).sys.cnd.imageB ∧ (pair 1 0 id).standby = 1 ∧ (pair 1 0 id).updStep ≠ 5 ∧
    (pair 4 3 id).updStep = 3 ∧ 16 ≤ (pair 4 3 id).sys.cnd.copies ∧ (pair 3 6 id).updStep = 6 ∧
    (pair 3 6 id).inhibited = false ∧ (pair 2 0 (fun c => { c with replay := true })).sys.cnd.replay = true ∧
    (pair 3 0 (fun c => { c with switchDue := true })).standby = 3 ∧
    (pair 3 0 (fun c => { c with switchDue := true })).sys.cnd.switchDue = true ∧
    (pair 3 0 (fun c => { c with levelsDue := true })).sys.cnd.switchDue = false ∧
    (pair 3 0 (fun c => { c with levelsDue := true })).sys.cnd.levelsDue = true ∧
    (pair 3 0 (fun c => { c with romBoot := true })).sys.cnd.romBoot = true ∧ (inhibit (pair 3 6 id)).inhibited = true ∧
    (pair 1 5 id).updStep = 5 ∧ (pair 3 2 id).updStep = 2 := by
  decide +kernel

/-! Security (15). -/

/-- A command blob without a payload, for nonce 7 and the keys 0x99 and 0x77; one with keys has 448 bytes more. -/
def blobBy (rsa slh op slot value : Nat) (keys : Bytes) : Bytes :=
  [leBytes 4 0x3143534B, leBytes 4 op, leBytes 4 7, leBytes 4 0, leBytes 4 slot, leBytes 4 value, zs 40, keys, leBytes 8 rsa,
   leBytes 8 slh, zs 16624].flatten
def blob (op slot value : Nat) (keys : Bytes) : Bytes := blobBy 0x99 0x77 op slot value keys
/-- TAKE_OWNERSHIP with keys of bytes 3 and 4, signed by those keys; their identifiers are worked out outside the model. -/
def ownership : Bytes :=
  blobBy 0x0f71ae5abfea49d5 0x80edd43b5abce1a8 1 0 0 (List.replicate 384 3 ++ List.replicate 48 4 ++ zs 16)
/-- LIFECYCLE n, presence asserted, owner slots v valid, nonce 7 expected. -/
def secured (n v : Nat) : State :=
  let s := withRegs seated [(Reg.SEC_STAT, n * 2 ^ 29 + 2 ^ 28 + v * 2 ^ 8), (Reg.KID 2 0, 0x99), (Reg.KID 2 2, 0x77), (Reg.SVN_MIN, 0x010002)]
  { s with sys := { s.sys with sec := { s.sys.sec with nonce := some 7 } } }

theorem witness_take_ownership :
    (parseBlob 1 ownership).isSome = true ∧ (secured 0 0).secBad 1 ownership ⟨true, true⟩ = none := by decide +kernel

theorem witness_security_commands :
    (∀ e ∈ [(2, 4, 0, zs 448), (3, 2, 0, []), (4, 0, 0x050006, []), (5, 0, 0, []), (6, 0, 0, []), (7, 0, 0, [])],
      (parseBlob e.1 (blob e.1 e.2.1 e.2.2.1 e.2.2.2)).isSome = true ∧
      (secured 1 (if e.1 = 3 then 3 else 1)).secBad e.1 (blob e.1 e.2.1 e.2.2.1 e.2.2.2) ⟨true, true⟩ = none) ∧
    (secured 1 1).secBad 3 (blob 3 3 0 []) ⟨true, true⟩ = some 5 ∧
    (secured 0 1).secBad 4 (blob 4 0 0 []) ⟨true, true⟩ = some 4 ∧
    (secured 1 1).secBad 6 (blob 6 0 0 []) ⟨true, false⟩ = some 3 := by decide +kernel

def sealed_ (pol z : Nat) : State :=
  let s := withRegs seated [(Reg.SEC_STAT, pol * 2 ^ 26 + z * 2 ^ 23)]
  { s with sys := { s.sys with sec := { s.sys.sec with signed := some [3] } } }

theorem witness_presence_and_attestation :
    (sealed_ 0 0).policy = 0 ∧ (sealed_ 1 0).policy < 2 ∧ (sealed_ 0 0).rf Reg.SEC_STAT 25 24 = 0 ∧
    ((sealed_ 0 0).measurement 2).isSome = true ∧ (sealed_ 0 1).zeroised = true ∧ (sealed_ 0 0).zeroised = false ∧
    (sealed_ 0 0).sys.sec.signed.isSome = true ∧
    (sealed_ 0 0).measurement 100 = none ∧ seated.sys.sec.signed = none ∧
    (withRegs seated [(Reg.SEC_STAT, 0x01000000)]).rf Reg.SEC_STAT 25 24 = 1 := by decide +kernel

/-! The host interface, registers and interrupts (16, 17). -/

def hosted (f : HostIf → HostIf) (s : State) : State := { s with sys := { s.sys with host := f s.sys.host } }

def unlinked : State := { seated with sys := { seated.sys with rst := { seated.sys.rst with held := true } } }

theorem witness_host_link :
    seated.sys.rst.held = false ∧ (hosted (fun h => { h with d3 := true }) seated).sys.host.d3 = true ∧
    seated.open_ .host = true ∧ ¬(0x80000 ≤ 0x80804 ∧ 0x80804 + 8 ≤ 0x80808 ∧ 0x80804 % 8 = 0 ∧ 2 = 2) ∧
    0x80010 + 8 ≤ 0x80808 ∧ 0x80010 % 8 = 0 ∧ 0x80010 < 0x80400 ∧ unlinked.sys.rst.held = true ∧
    unlinked.open_ .host = false ∧ (4#4 : BitVec 4) ≠ 0#4 := by decide +kernel

def apertured : State :=
  (withRegs seated [(Reg.APT_CTL, 0xC0000000), (Reg.FACET_STAT 0, 0x40000007), (Reg.SLICE_STAT 0, 0x10000000)]).writeMem 100 [9, 8, 7, 6]

def bare : State := apertured.setFacet 0 facet0
def i3cGuarded : State := hosted (fun h => { h with guards := [(2, some ⟨Reg.PWR_CMD, 5, 0⟩)] }) apertured

theorem witness_aperture :
    apertured.open_ .host = true ∧ apertured.aptOk 100 4 false = true ∧ apertured.poisoned (apertured.aptDpa 100) 4 = false ∧
    apertured.msf.homes = [] ∧ apertured.aptOk 0x3FFFFFFF0 200 false = false ∧ apertured.aptOk 100 4 true = true ∧
    apertured.open_ .i3c = true ∧ State.i3cHidden Reg.PWR_CAP = false ∧ apertured.measuredMask Reg.PWR_CAP = 0 ∧
    State.i3cWrites Reg.SYNC_CTL = false ∧
    (∀ f, f < 64 → apertured.session f = none ∨ f = 0) ∧ (bare.session 0 = none) ∧ bare.aptOk 100 4 false = true ∧
    bare.open_ .host = true ∧ bare.poisoned (bare.aptDpa 100) 4 = false ∧
    State.i3cHidden Reg.SEC_NONCE = true ∧ i3cGuarded.guardOf .i3c = some ⟨Reg.PWR_CMD, 5, 0⟩ ∧
    i3cGuarded.open_ .i3c = true ∧ apertured.guardOf .i3c = none ∧ State.i3cWrites Reg.PWR_CMD = true := by decide +kernel

theorem no_home_is_used (h : Nat) : apertured.home h = HomeState.empty := by
  show tget HomeState.empty apertured.msf.homes h = _
  rw [show apertured.msf.homes = [] from by decide +kernel]
  rfl

def guard0 : GuardPend := ⟨Reg.SYNC_CTL, 0x80000012, 0⟩
def guarded : State := hosted (fun h => { h with guards := [(0, some guard0)] }) seated
def frozen3 : State := withRegs seated [(Reg.PAR_STAT, 8)]

def offWindow : State := withRegs seated [(Reg.REG_STAT 0, 0x00400000)]
def goGuarded : State := hosted (fun h => { h with guards := [(0, some ⟨Reg.PWR_CMD, 0x80000000, 0⟩)] }) seated
def dirtyCap : State :=
  hosted (fun h => { h with dirty := [Reg.PWR_CAP] }) (withRegs seated [(Reg.PAR_STAT, 2 ^ blockOf Reg.PWR_CAP)])

theorem witness_registers :
    seated.open_ .host = true ∧ windowRegion Reg.PWR_CAP = none ∧ firmwareOnly Reg.PWR_CAP = false ∧
    (kindAt Reg.PWR_CAP).map (·.access) = some .rw ∧ (kindAt Reg.PWR_EVT).map (·.access) = some .w1c ∧
    (kindAt Reg.GLB_STAT).map (·.access) = some .ro ∧ isRWG Reg.SYNC_CTL = true ∧ seated.guardOf .host = none ∧
    guarded.guardOf .host = some guard0 ∧ guard0.addr + 0x4000 = Reg.SYNC_CTL + 0x4000 ∧
    guarded.dt ≤ guard0.at_ + State.guardTicks ∧ (kindAt guard0.addr).isSome = true ∧ goRegs.contains guard0.addr = false ∧
    guard0.addr ≠ Reg.GST_CTL 0 ∧ guard0.addr ≠ Reg.GST_CTL 1 ∧ Reg.PWR_CAP < 0x2000000 ∧
    seated.sys.host.dirty.contains Reg.PWR_CAP = false ∧ seated.frozen (blockOf Reg.PWR_CAP) = false ∧
    frozen3.frozen 3 = true ∧ frozen3.sys.host.dirty = [] ∧
    windowRegion 0x1000000 = some 0 ∧ offWindow.regionPoint 0 = 2 ∧ offWindow.open_ .host = true ∧
    firmwareOnly 0x500010 = true ∧ windowRegion 0x500010 = none ∧ kindAt 0x3F0 = none ∧ goRegs.contains Reg.PWR_CMD = true ∧
    goGuarded.guardOf .host = some ⟨Reg.PWR_CMD, 0x80000000, 0⟩ ∧ goGuarded.fwReady = false ∧
    goGuarded.frozen (blockOf Reg.PWR_CMD) = false ∧
    (withRegs goGuarded [(Reg.PAR_STAT, 2 ^ blockOf Reg.PWR_CMD)]).frozen (blockOf Reg.PWR_CMD) = true ∧
    blockOf Reg.PWR_CMD < 32 ∧ dirtyCap.frozen (blockOf Reg.PWR_CAP) = true ∧ dirtyCap.sys.host.dirty = [Reg.PWR_CAP] ∧
    kindAt (Reg.SYNC_CTL + 0x4000) = none := by decide +kernel

/-- Sources 0, 3, 6 and 7 are pending in the normal bank, or in the fast bank where the class says so. -/
def interrupting : State :=
  hosted (fun h => { h with msixEnable := true })
    (withRegs seated [(Reg.PWR_EVT, 0x1FF), (Reg.GLB_EVT, 0xFF), (Reg.CND_EVT, 0xFF), (Reg.CFG_EVT, 0xFF), (Reg.HEN 0, 0xFFFFFFFF),
      (Reg.MSIX_TABLE 0 3, 0), (Reg.MSIX_PBA 0, 0xFFFFFFFF)])
def fastClass : State := withRegs interrupting [(0x500280, 0xFFFFFFF0), (0x500300, 0xFFFFFFFF)]
def servedBoth : State := hosted (fun h => { h with fast := [5] }) (withRegs State.reset [(Reg.INSVC 0, 0x30)])

theorem witness_interrupts :
    interrupting.pendingIn 3 false = true ∧ fastClass.pendingIn 6 true = true ∧ servedBoth.level 4 = false ∧
    servedBoth.servedIn 4 false = true ∧ servedBoth.level 5 = false ∧ servedBoth.servedIn 5 true = true ∧
    interrupting.summary 0 = true ∧ interrupting.sys.host.d3 = false ∧ interrupting.maskedVector 0 = false ∧
    interrupting.sys.host.funcMask = false ∧ bit (interrupting.reg (Reg.MSIX_PBA 0)) 0 = true ∧ bit (interrupting.reg (Reg.MSIX_TABLE 0 3)) 0 = false ∧
    seated.sys.host.msixEnable = false ∧ interrupting.servedIn 3 false = false ∧ seated.pendingIn 3 false = false ∧
    (withRegs interrupting [(Reg.INSVC 0, 8)]).servedIn 3 false = true ∧
    (withRegs interrupting [(Reg.INSVC 0, 8)]).level 3 = true := by decide +kernel

/-! Ill-formed commands: one for each check. -/

theorem wellFormed_accepts :
    (Instr.doorbell bellP).WellFormed ∧ (Instr.openq 0 101 openD).WellFormed ∧ (Instr.guestBringUp 0 bringUp0).WellFormed ∧
    (Instr.linkFrame 0 frame0 ⟨0, 0, 0, []⟩).WellFormed ∧ (Instr.powerOn env0).WellFormed ∧
    (Instr.trimWrite 3 [1]).WellFormed ∧ (Instr.apertureRead 0 ⟨1, []⟩).WellFormed ∧ (Instr.apertureWrite 0 [1]).WellFormed ∧
    Instr.pinReset.WellFormed := by decide +kernel

theorem wellFormed_refuses_short_payload : ¬(Instr.doorbell { bellP with payload := [] }).WellFormed := by decide +kernel
theorem wellFormed_refuses_port_payload : ¬(Instr.write 0 { writeP with len := 1 }).WellFormed := by decide +kernel
theorem wellFormed_refuses_short_descriptor : ¬(Instr.close 0 101 (zs 64)).WellFormed := by decide +kernel
theorem wellFormed_refuses_short_job : ¬(Instr.loupeJob 0 (zs 127)).WellFormed := by decide +kernel
theorem wellFormed_refuses_guest_words : ¬(Instr.guestBringUp 0 { bringUp0 with words := [] }).WellFormed := by decide +kernel
theorem wellFormed_refuses_margins :
    ¬(Instr.linkFrame 0 { frame0 with margin := List.replicate 37 0 } ⟨0, 0, 0, []⟩).WellFormed := by decide +kernel
theorem wellFormed_refuses_frame_packet :
    ¬(Instr.linkFrame 0 { frame0 with packets := [{ writeP with payload := [] }] } ⟨0, 0, 0, []⟩).WellFormed := by decide +kernel
theorem wellFormed_refuses_levels : ¬(Instr.lmCmd 0 ⟨1, [], []⟩).WellFormed := by decide +kernel
theorem wellFormed_refuses_strap : ¬(Instr.powerOn { env0 with strap := [72] }).WellFormed := by decide +kernel
theorem wellFormed_refuses_no_trim_words : ¬(Instr.trimWrite 3 []).WellFormed := by decide +kernel
theorem wellFormed_refuses_empty_aperture_write : ¬(Instr.apertureWrite 0 []).WellFormed := by decide +kernel
theorem wellFormed_refuses_empty_aperture_read : ¬(Instr.apertureRead 0 ⟨0, []⟩).WellFormed := by decide +kernel

/-! Words of R59, written out field by field. -/

/-- R59's worked example: MMA, FA = FB = 2, CTL = 0b0100, SA 0x100, SB 0x200, CNT 64, tick 16 of beat 5. -/
theorem test_decode_mma : decodeCell 0x01220400000100020004000100050000 =
    some (.mma, { cellIns with fa := 2, fb := 2, clr := true, sa := 0x100, sb := 0x200, cnt := 64, tick := 16, beat := 5 }) := by
  decide +kernel
theorem test_encode_mma : encodeCell .mma { cellIns with fa := 2, fb := 2, clr := true, sa := 0x100, sb := 0x200, cnt := 64, tick := 16, beat := 5 } =
    0x01220400000100020004000100050000 := by decide +kernel
/-- LD: OP 0x30, DST 0x0123, CNT 2, IMM16 3. -/
theorem test_decode_ld : decodeCell 0x30000001230000000000200000000003 =
    some (.ld, { cellIns with dst := 0x0123, cnt := 2, imm := 3 }) := by decide +kernel
/-- VFMA: OP 0x13, DST 1, SA 2, SB 3, CNT 1, beat 16. -/
theorem test_decode_vfma : decodeCell 0x13000000010002000300100000100000 =
    some (.vfma, { cellIns with dst := 1, sa := 2, sb := 3, cnt := 1, beat := 16 }) := by decide +kernel
/-- NEXTF is OP 0x3E and END is OP 0x3F; 0x3D is reserved. -/
theorem test_decode_sequencer :
    decodeCell 0x3E000000000000000000000000000000 = some (.nextf, cellIns) ∧
    decodeCell 0x3F000000000000000000000000000000 = some (.endp, cellIns) ∧
    decodeCell 0x3D000000000000000000000000000000 = none := by decide +kernel
theorem test_table_word : decodeTableWord 32 5 = none ∧ State.reset.withFetchWord 32 5 = State.reset := by decide +kernel

/-! Worked examples of the spec, one step each at most. -/

/-- The state that a command leaves. -/
def after (c : Instr) (s : State) : State :=
  match exec c s with
  | .next t => t
  | _ => s

/-- Chapter 02, after R49: the group of four products 2⁻¹⁸ on 64.0 gives 0x42800002. -/
theorem test_group_sum :
    (accAdd 0x42800000 (groupSum (List.replicate 4 (mulV (decodeF 2 1) (decodeF 2 1))))).1 = 0x42800002 := by decide +kernel

/-- R103 to R106's example: DPA 0xB523456780 lies in M05, channel 15, layer 4, bank 5; R352's: its home is agent 41. -/
theorem test_dpa_example :
    sliceOf 0xB523456780 = 45 ∧ stackOf 0xB523456780 = 5 ∧ channelOf 0xB523456780 = 15 ∧ layerOf 0xB523456780 = 4 ∧
    bankOf 0xB523456780 = 5 ∧ channelAddr 0xB523456780 = 0x248D1580 ∧ homeOf 0xB523456780 = 41 := by decide +kernel

/-- R123's example: slice 45 bound to facet 3 reads 0x10030502. -/
theorem test_slice_stat : (State.reset.setSlice 45 1 3).reg (Reg.SLICE_STAT 45) = 0x10030502 ∧ Reg.SLICE_STAT 45 = 0xD200B4 := by
  decide +kernel

/-- R160's example: G = 16, I = 16, block 23,437 lies on rank 8 at local index 1,469. -/
theorem test_rank_example : rankOf 16 16 23437 = 8 ∧ localOf 16 16 23437 = 1469 := by decide +kernel

/-- R265's example: the record of 192 channels from M04 to C3, from beat 100 for 64 beats in every frame. -/
theorem test_grant_record : parseGrant ([0x14, 0x03, 0xC0, 0x00, 0x64, 0x00, 0x40, 0x00, 0xFF, 0xFF] ++ zs 6) 0 =
    ⟨0x14, 3, 192, 100, 64, 0xFFFF⟩ := by decide +kernel

/-- Lanes 0 to 5 of group 293 going out stand on its six spares. -/
def spent293 : GroupDir := ⟨⟨[0, 1, 2, 3, 4, 5], (List.range 6).map (fun i => (i, 112 + i)), false, false⟩, LaneMap.reset, 0, []⟩
/-- R276's example: M04's group 5 loses lane 71 going out with no spare left: half width, VGRP(293) 0x402C0607, and
210 channels out of M04. -/
theorem test_half_width :
    let t := after (.laneFailing 293 true 71) ((withRegs State.reset [(Reg.VGRP 293, 0x002C0606)]).setGroupDir 293 true spent293)
    t.reg (Reg.VGRP 293) = 0x402C0607 ∧ fld (t.reg (Reg.SITE_CH 0x14)) 23 0 = 0xE000D2 := by decide +kernel

/-- R321's example: the header of a doorbell of queue pair 1,000, with HCRC 0xBC. -/
theorem test_header_example :
    headerBytes (sealHeader ⟨263, 3205, true, 0, 4, 0, 0x123, false, false, false, false, false, 0, 0x5A3C, false, 1000, 0, zs 64⟩) =
      [0x07, 0x01, 0x14, 0x32, 0x10, 0x02, 0x18, 0x09, 0x00, 0xF0, 0x68, 0x41, 0x1F, 0x00, 0x00, 0xBC] := by decide +kernel

/-- R379's example: O is 168 sixteenths and D 6,240. -/
theorem test_exchange_example : (exchange 80000000 80006408 80007208 80013280).2 = (168, 6240) := by decide +kernel

/-- R404's example: a default pin reset of chip reach, the third. -/
theorem test_rst_cause :
    ((withRegs State.reset [(Reg.RST_FUSE, 0x73), (Reg.RST_CAUSE, 0x80000002)]).pinCause true false).reg Reg.RST_CAUSE =
      0x7F000003 := by decide +kernel

/-- R395, R396: the median 72 is choice 4, not marginal; 64 and 79 are marginal. -/
theorem test_strap : median [72, 71, 90, 72, 60] = 72 ∧ 72 / 16 = 4 ∧ marginal 72 = false ∧ marginal 64 = true ∧ marginal 79 = true := by
  decide +kernel

/-- R341's example: re-routing EID 2,569 to port 17 leaves EPOCH 1. -/
theorem test_reroute :
    let s := withRegs { State.reset with fab := { FabState.reset with routes := [(2569, 0x80000004)] } } [(Reg.RT_LO, 0x80000011), (Reg.RT_HI, 0)]
    (after (.rtRead 2569) (after (.rtWrite 2569) s)).reg Reg.RT_LO = 0x84000011 := by decide +kernel

/-- R13: a read-only register keeps its value, and a register with W1C loses the bits written 1. -/
theorem test_access_codes :
    let s := withRegs State.reset [(Reg.PWR_EVT, 0x30)]
    (after (.registerWrite .host 0x300004 0x10) s).reg Reg.PWR_EVT = 0x20 ∧
    (after (.registerWrite .host 0x000008 0xFFFFFFFF) s).reg Reg.GLB_STAT = s.reg Reg.GLB_STAT := by decide +kernel

/-- R478: a guarded write takes effect with its complement, and not with another value. -/
theorem test_guarded_write :
    let s := after (.guardedWrite .host 0x200018 0x80000000) State.reset
    (after (.guardComplement .host 0x204018 0x7FFFFFFF) s).reg Reg.SYNC_CTL = 0x80000000 ∧
    (after (.guardComplement .host 0x204018 0x7FFFFFFE) s).reg Reg.SYNC_CTL = resetValue Reg.SYNC_CTL := by decide +kernel

/-- R294: the bit pairs 00, 01, 11 and 10 are the levels 0 to 3; of the scrambled bits the first 39 are the payload's where
the 58 bits before were 0, and a receiver with the same 58 bits gets the payload back. -/
theorem test_line_code :
    grayLevel false false = 0 ∧ grayLevel false true = 1 ∧ grayLevel true true = 2 ∧ grayLevel true false = 3 ∧
    (scramble 0 (List.replicate 39 true)).1 = List.replicate 39 true ∧
    (descramble 5 (scramble 5 [true, false, true, true]).1).1 = [true, false, true, true] := by decide +kernel

/-! The statements about the whole machine. -/

theorem witness_step : ({ State.reset with pending := [.pinReset] } : State).pending = .pinReset :: [] ∧
    State.reset.pending = [] ∧ State.reset.sys.clk.locked = false ∧ (locked State.reset).sys.clk.locked = true := by decide +kernel
theorem witness_canonical : Memory.wf apertured.mem = true ∧ Memory.wf State.reset.mem = true ∧ twf resetValue State.reset.regs = true := by
  decide +kernel
theorem witness_ranks : 0 < 16 ∧ (4 : Nat) ≤ 11 ∧ (3 : Nat) < 16 := by decide
theorem witness_four_slices : 0x3FFFFFFFF < 2 ^ 36 ∧ fld apertured.aptCtl 8 0 ≤ 316 := by decide +kernel
theorem witness_slices : sliceOf 0xB523456780 < 320 := by decide +kernel
theorem witness_fp4 : 2 * 0 + 1 < [1, 2].length ∧ ∀ v ∈ [1, 2], v < 16 := by decide

end Sys2Proof.Tests
end

namespace Sys2Proof.Machine

/-! What writes, guarded writes, parity and unfreezing do to the register window (O59), and its values at reset (O2). -/

section RegisterWrites

/-! The frame of a command: the registers and the host interface that it may change. -/

variable {p q : Nat → Prop} {s t u : State}

theorem OnlyRegs.refl (p : Nat → Prop) (s : State) : OnlyRegs p s s := ⟨rfl, fun _ _ _ => rfl⟩

theorem RegsBut.trans (h : RegsBut p s t) (h' : RegsBut p t u) : RegsBut p s u :=
  fun a ha hb => (h' a ha hb).trans (h a ha hb)

theorem RegsBut.mono (h : RegsBut p s t) (hq : ∀ a, p a → q a) : RegsBut q s t :=
  fun a ha hb => h a (fun hp => ha (hq a hp)) hb

theorem OnlyRegs.trans (h : OnlyRegs p s t) (h' : OnlyRegs p t u) : OnlyRegs p s u := by
  obtain ⟨e, r⟩ := h
  obtain ⟨e', r'⟩ := h'
  refine ⟨?_, r.trans r'⟩
  rw [e] at e'
  exact e'

theorem OnlyRegs.mono (h : OnlyRegs p s t) (hq : ∀ a, p a → q a) : OnlyRegs q s t := ⟨h.1, h.2.mono hq⟩

theorem OnlyRegs.sys (h : OnlyRegs p s t) : t.sys = s.sys := by rw [h.1]

theorem OnlyRegs.setReg (h : OnlyRegs p s t) (a : Nat) (v : Word) (ha : p a) : OnlyRegs p s (t.setReg a v) :=
  h.trans ⟨rfl, fun b hb _ => by simp [State.reg_setReg, show a ≠ b from fun e => hb (e ▸ ha)]⟩

theorem OnlyRegs.emit (h : OnlyRegs p s t) (o : Output) : OnlyRegs p s (t.emit o) := h.trans ⟨rfl, fun _ _ _ => rfl⟩

/-- The messages of a command lie within every frame. -/
theorem OnlyRegs.messages (h : OnlyRegs p s t) (b : State) : OnlyRegs p s (State.messages b t) :=
  h.trans ⟨messages_fields b t, fun a _ ha => messages_reg b t a ha⟩

/-- A command changes the host interface, registers of p and the outputs only. -/
def HostAndRegs (p : Nat → Prop) (s t : State) : Prop :=
  OnlyRegs p { s with sys := { s.sys with host := t.sys.host } } t

theorem OnlyRegs.host (h : OnlyRegs p s t) : HostAndRegs p s t := by
  have hs := h.sys
  obtain ⟨e, r⟩ := h
  exact ⟨by rw [hs]; exact e, r⟩

theorem HostAndRegs.regsBut (h : HostAndRegs p s t) : RegsBut p s t := h.2

theorem HostAndRegs.trans (h : HostAndRegs p s t) (h' : HostAndRegs p t u) : HostAndRegs p s u := by
  obtain ⟨e, r⟩ := h
  obtain ⟨e', r'⟩ := h'
  refine ⟨?_, RegsBut.trans (s := s) r r'⟩
  rw [e] at e'
  exact e'

theorem HostAndRegs.mono (h : HostAndRegs p s t) (hq : ∀ a, p a → q a) : HostAndRegs q s t := OnlyRegs.mono h hq

theorem hostAndRegs_setHost (p : Nat → Prop) (s : State) (x : HostIf) : HostAndRegs p s (s.setHost x) :=
  ⟨rfl, fun _ _ _ => rfl⟩

theorem HostAndRegs.setReg (h : HostAndRegs p s t) (a : Nat) (v : Word) (ha : p a) : HostAndRegs p s (t.setReg a v) :=
  h.trans ((OnlyRegs.refl p t).setReg a v ha).host

theorem HostAndRegs.messages (h : HostAndRegs p s t) (b : State) : HostAndRegs p s (State.messages b t) :=
  h.trans ((OnlyRegs.refl p t).messages b).host

theorem HostAndRegs.dt (h : HostAndRegs p s t) : t.dt = s.dt := by rw [h.1]; rfl

/-- A command that changes nothing makes no message due. -/
@[simp] theorem messages_self (s : State) : State.messages s s = s := by
  unfold State.messages
  split
  · exact foldl_keep (· = s) _ _ s rfl (fun u g h => by simpa using h)
  · rfl

/-! Offsets by their access code. -/

/-- Whether an offset is a register that no write changes (R13). -/
def isRO (a : Nat) : Bool :=
  match kindAt a with
  | some k => k.access == .ro
  | none => false

theorem ne_of_isRO {a b : Nat} {k : RegKind} (h : kindAt a = some k) (hk : k.access ≠ .ro) (hb : isRO b = true) :
    a ≠ b := by
  rintro rfl
  simp [isRO, h, hk] at hb

theorem isRO_of_isPba {a : Nat} (h : isPba a) : isRO a = true := by
  rcases h with rfl | rfl <;> decide

theorem not_isPba_of_kind {a : Nat} {k : RegKind} (h : kindAt a = some k) (hk : k.access ≠ .ro) : ¬isPba a :=
  fun hp => ne_of_isRO h hk (isRO_of_isPba hp) rfl

theorem isRWG_iff {a : Nat} : isRWG a = true ↔ ∃ k, kindAt a = some k ∧ k.access = .rwg := by
  unfold isRWG
  split <;> simp_all

/-- The registers below the interrupt message table are no pending-bit array. -/
theorem not_isPba_of_lt {a : Nat} (h : a < 0x80800) : ¬isPba a := by
  rintro (rfl | rfl) <;> simp [Reg.MSIX_PBA] at h

/-! Counts, events and frozen blocks. -/

theorem fld_addSat (s : State) (a hi lo n : Nat) (h : hi < 32) :
    fld ((s.addSat a hi lo n).reg a) hi lo = satAdd (2 ^ (hi + 1 - lo) - 1) (s.rf a hi lo) n := by
  have hp := Nat.two_pow_pos (hi + 1 - lo)
  rw [State.addSat_eq, State.reg_setReg_self]
  exact fld_setFld_lt _ _ _ _ h (by simp only [satAdd]; omega)

theorem OnlyRegs.addSat (h : OnlyRegs p s t) (a hi lo n : Nat) (ha : p a) : OnlyRegs p s (t.addSat a hi lo n) :=
  h.setReg a _ ha

theorem bit_glbEvent (s : State) (who off i : Nat) (h : i < 32) :
    bit ((s.glbEvent who off i).reg Reg.GLB_EVT) i = true := by
  simp [State.glbEvent, bit_or_bitW, h]

theorem OnlyRegs.glbEvent (h : OnlyRegs p s t) (who off i : Nat) (he : p Reg.GLB_EVT) (hf : p Reg.GLB_FIRST) :
    OnlyRegs p s (t.glbEvent who off i) := by
  unfold State.glbEvent State.raiseFirst
  split
  · exact (h.setReg _ _ hf).setReg _ _ he
  · exact h.setReg _ _ he

theorem glbEvent_reg (s : State) (who off i a : Nat) (he : a ≠ Reg.GLB_EVT) (hf : a ≠ Reg.GLB_FIRST) :
    (s.glbEvent who off i).reg a = s.reg a := by
  unfold State.glbEvent State.raiseFirst
  split <;> simp [State.reg_setReg, he.symm, hf.symm]

/-- The blocks that a frame without the parity registers leaves frozen or not. -/
theorem RegsBut.frozen (h : RegsBut p s t) (hs : ¬p Reg.PAR_STAT) (hl : ¬p Reg.PAR_REG_LO) (hh : ¬p Reg.PAR_REG_HI)
    (i : Nat) : t.frozen i = s.frozen i := by
  unfold State.frozen
  rw [h _ hs (not_isPba_of_lt (by decide)), h _ hl (not_isPba_of_lt (by decide)),
    h _ hh (not_isPba_of_lt (by decide))]

theorem frozen_setFrozen (s : State) (i v : Nat) (h : i < 80) : (s.setFrozen i v).frozen i = v.testBit 0 := by
  unfold State.setFrozen State.frozen
  by_cases h1 : i < 16
  · simp [h1, bit_setFld, show i < 32 by omega]
  · by_cases h2 : i < 48
    · simp [h1, h2, bit_setFld, show i - 16 < 32 by omega]
    · simp [h1, h2, h, bit_setFld, show i - 48 < 32 by omega]

theorem frozen_setReg (s : State) {a : Nat} (v : Word) (hs : a ≠ Reg.PAR_STAT) (hl : a ≠ Reg.PAR_REG_LO)
    (hh : a ≠ Reg.PAR_REG_HI) (i : Nat) : (s.setReg a v).frozen i = s.frozen i := by
  simp only [State.frozen, State.reg_setReg, if_neg hs, if_neg hl, if_neg hh]

@[simp] theorem messages_frozen (b t : State) (i : Nat) : (State.messages b t).frozen i = t.frozen i :=
  RegsBut.frozen ((OnlyRegs.refl (fun _ => False) t).messages b).2 id id id i

theorem frozen_glbEvent (s : State) (who off i j : Nat) : (s.glbEvent who off i).frozen j = s.frozen j := by
  simp only [State.frozen, glbEvent_reg s who off i Reg.PAR_STAT (by decide) (by decide),
    glbEvent_reg s who off i Reg.PAR_REG_LO (by decide) (by decide),
    glbEvent_reg s who off i Reg.PAR_REG_HI (by decide) (by decide)]

/-- The registers that show what is frozen. -/
def isFrozenReg (a : Nat) : Prop := a = Reg.PAR_STAT ∨ a = Reg.PAR_REG_LO ∨ a = Reg.PAR_REG_HI

theorem onlyRegs_setFrozen (s : State) (i v : Nat) : OnlyRegs isFrozenReg s (s.setFrozen i v) := by
  unfold State.setFrozen
  split
  · exact (OnlyRegs.refl _ s).setReg _ _ (.inl rfl)
  · split
    · exact (OnlyRegs.refl _ s).setReg _ _ (.inr (.inl rfl))
    · exact (OnlyRegs.refl _ s).setReg _ _ (.inr (.inr rfl))

theorem setFrozen_sys (s : State) (i v : Nat) : (s.setFrozen i v).sys = s.sys := (onlyRegs_setFrozen s i v).sys

theorem blockOf_lt {a : Nat} (h : a < 0x2000000) : blockOf a < 80 := by
  unfold blockOf
  split <;> omega

/-- A write recomputes the parity of its register alone. -/
theorem parityClean_eq (s : State) (a : Nat) :
    s.parityClean a = s.setHost { s.sys.host with dirty := s.sys.host.dirty.filter (· != a) } := by
  simp only [State.parityClean]
  split
  · rfl
  · next h =>
    have : s.sys.host.dirty.filter (· != a) = s.sys.host.dirty :=
      List.filter_eq_self.mpr (fun z hz => by
        have : z ≠ a := fun e => h (List.contains_iff_mem.mpr (e ▸ hz))
        simpa using this)
    rw [this]
    rfl

/-! Guarded writes (R13, R478). -/

theorem guardOf_eq (h : t.sys.host.guards = s.sys.host.guards) (who : Requester) : t.guardOf who = s.guardOf who := by
  simp [State.guardOf, h]

@[simp] theorem guardOf_setGuard (s : State) (who : Requester) (g : Option GuardPend) :
    (s.setGuard who g).guardOf who = g := by
  simp [State.guardOf, State.setGuard, State.setHost]

@[simp] theorem messages_guardOf (b t : State) (who : Requester) :
    (State.messages b t).guardOf who = t.guardOf who := guardOf_eq (by simp) who

theorem hostAndRegs_setGuard (p : Nat → Prop) (s : State) (who : Requester) (g : Option GuardPend) :
    HostAndRegs p s (s.setGuard who g) := hostAndRegs_setHost p s _

/-- The registers that show a guarded write which was dropped. -/
def isDropReg (a : Nat) : Prop := a = Reg.GUARD_CNT ∨ a = Reg.GLB_EVT ∨ a = Reg.GLB_FIRST

theorem onlyRegs_countDrop (s : State) (who : Requester) (a : Nat) : OnlyRegs isDropReg s (s.countDrop who a) := by
  have h := OnlyRegs.refl isDropReg s
  cases who
  case i3c => exact h.glbEvent _ _ _ (.inr (.inl rfl)) (.inr (.inr rfl))
  all_goals exact (h.addSat _ _ _ _ (.inl rfl)).glbEvent _ _ _ (.inr (.inl rfl)) (.inr (.inr rfl))

theorem bit_countDrop (s : State) (who : Requester) (a : Nat) :
    bit ((s.countDrop who a).reg Reg.GLB_EVT) 2 = true := bit_glbEvent _ _ _ 2 (by decide)

/-- The host's guarded writes that were dropped are counted in their own field. -/
theorem fld_countDrop_host (s : State) (a : Nat) :
    fld ((s.countDrop .host a).reg Reg.GUARD_CNT) 15 0 = min 65535 (s.rf Reg.GUARD_CNT 15 0 + 1) := by
  rw [State.countDrop, glbEvent_reg _ _ _ _ _ (by decide) (by decide)]
  exact fld_addSat s Reg.GUARD_CNT 15 0 1 (by decide)

/-- A requester's guarded write is gone, with its event, and nothing else but the count has changed. -/
def Dropped (who : Requester) (s t : State) : Prop :=
  t.guardOf who = none ∧ bit (t.reg Reg.GLB_EVT) 2 = true ∧ HostAndRegs isDropReg s t

theorem Dropped.messages {who : Requester} (h : Dropped who s t) (b : State) : Dropped who s (State.messages b t) := by
  obtain ⟨hg, he, hf⟩ := h
  refine ⟨(messages_guardOf b t who).trans hg, ?_, hf.messages b⟩
  rw [messages_reg _ _ _ (not_isPba_of_lt (by decide))]
  exact he

/-- A drop counted again is still a drop. -/
theorem Dropped.countDrop {who : Requester} (h : HostAndRegs isDropReg s t) (hg : t.guardOf who = none) (a : Nat) :
    Dropped who s (t.countDrop who a) :=
  ⟨(guardOf_eq (by rw [(onlyRegs_countDrop t who a).sys]) who).trans hg, bit_countDrop t who a,
    h.trans (onlyRegs_countDrop t who a).host⟩

theorem dropGuard_none {who : Requester} (h : s.guardOf who = none) : s.dropGuard who = s := by
  simp [State.dropGuard, h]

theorem dropGuard_some {who : Requester} {g : GuardPend} (h : s.guardOf who = some g) :
    s.dropGuard who = (s.setGuard who none).countDrop who g.addr := by
  simp [State.dropGuard, h]

theorem dropGuard_drops {who : Requester} {g : GuardPend} (h : s.guardOf who = some g) :
    Dropped who s (s.dropGuard who) := by
  rw [dropGuard_some h]
  exact Dropped.countDrop (hostAndRegs_setGuard _ s who none) (guardOf_setGuard s who none) g.addr

theorem expireGuard_none {who : Requester} (h : s.guardOf who = none) : s.expireGuard who = s := by
  simp [State.expireGuard, h]

theorem expireGuard_late {who : Requester} {g : GuardPend} (h : s.guardOf who = some g)
    (hl : g.at_ + State.guardTicks < s.dt) : s.expireGuard who = s.dropGuard who := by
  simp [State.expireGuard, h, hl]

theorem expireGuard_inTime {who : Requester} {g : GuardPend} (h : s.guardOf who = some g)
    (hl : s.dt ≤ g.at_ + State.guardTicks) : s.expireGuard who = s := by
  simp [State.expireGuard, h, Nat.not_lt.mpr hl]

/-- A later guarded write drops the one that waits, expired or not. -/
theorem expireGuard_dropGuard_drops {who : Requester} {g : GuardPend} (h : s.guardOf who = some g) :
    Dropped who s ((s.expireGuard who).dropGuard who) := by
  by_cases hl : s.dt ≤ g.at_ + State.guardTicks
  · rw [expireGuard_inTime h hl]
    exact dropGuard_drops h
  · have hd := dropGuard_drops h
    rw [expireGuard_late h (Nat.lt_of_not_le hl), dropGuard_none hd.1]
    exact hd

/-- A complement that comes in time and matches applies the value. -/
theorem guardConfirm_applies {who : Requester} {g : GuardPend} {v : Word} (h : s.guardOf who = some g)
    (hr : isRWG g.addr = true) (hl : s.dt ≤ g.at_ + State.guardTicks) (hv : v = ~~~g.value) :
    s.guardConfirm who g.addr v = (s.setGuard who none).applyGuarded who g.addr g.value := by
  simp [State.guardConfirm, hr, expireGuard_inTime h hl, h, hv]

/-- A complement that comes late or does not match drops the write. -/
theorem guardConfirm_drops {who : Requester} {g : GuardPend} {v : Word} (h : s.guardOf who = some g)
    (hr : isRWG g.addr = true) (hb : g.at_ + State.guardTicks < s.dt ∨ v ≠ ~~~g.value) :
    Dropped who s (s.guardConfirm who g.addr v) := by
  have hd := dropGuard_drops h
  by_cases hl : s.dt ≤ g.at_ + State.guardTicks
  · have hv : v ≠ ~~~g.value := hb.resolve_left (Nat.not_lt.mpr hl)
    simpa [State.guardConfirm, hr, expireGuard_inTime h hl, h, hv] using hd
  · have he := expireGuard_late h (Nat.lt_of_not_le hl)
    simpa [State.guardConfirm, hr, he, hd.1] using Dropped.countDrop hd.2.2 hd.1 g.addr

/-! What a value leaves in its register (R13). -/

/-- The writable bits of a register take a value's, and its parity is computed again. -/
def State.storeMasked (s : State) (k : RegKind) (a : Nat) (v : Word) : State :=
  (s.setReg a ((s.reg a &&& ~~~(BitVec.ofNat 32 k.wmask)) ||| (v &&& BitVec.ofNat 32 k.wmask))).setHost
    { s.sys.host with dirty := s.sys.host.dirty.filter (· != a) }

@[simp] theorem storeMasked_reg (s : State) (k : RegKind) (a : Nat) (v : Word) :
    (s.storeMasked k a v).reg a =
      (s.reg a &&& ~~~(BitVec.ofNat 32 k.wmask)) ||| (v &&& BitVec.ofNat 32 k.wmask) := State.reg_setReg_self s a _

theorem storeMasked_reg_ne (s : State) (k : RegKind) {a b : Nat} (v : Word) (h : a ≠ b) :
    (s.storeMasked k a v).reg b = s.reg b :=
  (State.reg_setReg s a b _).trans (if_neg h)

theorem hostAndRegs_storeMasked (s : State) (k : RegKind) (a : Nat) (v : Word) :
    HostAndRegs (fun z => z = a) s (s.storeMasked k a v) :=
  ((OnlyRegs.refl (fun z => z = a) s).setReg a _ rfl).host.trans (hostAndRegs_setHost _ _ _)

theorem storeMasked_frozen (s : State) {k : RegKind} {a : Nat} (v : Word) (hk : kindAt a = some k)
    (hw : k.access ≠ .ro) (i : Nat) : (s.storeMasked k a v).frozen i = s.frozen i := by
  have hne : ∀ b, isRO b = true → ¬b = a := fun b hb e => ne_of_isRO hk hw hb e.symm
  exact (hostAndRegs_storeMasked s k a v).regsBut.frozen (hne _ (by decide)) (hne _ (by decide)) (hne _ (by decide)) i

theorem storeMasked_fwReady (s : State) {k : RegKind} {a : Nat} (v : Word) (hk : kindAt a = some k)
    (hw : k.access ≠ .ro) : (s.storeMasked k a v).fwReady = s.fwReady := by
  have hne : a ≠ Reg.GLB_STAT := ne_of_isRO hk hw (by decide)
  rw [State.fwReady, storeMasked_reg_ne s k v hne, State.fwReady]

/-- A guarded value is stored; a GO in it is refused, held or carried out (R13, R479, R503). -/
theorem applyGuarded_eq {k : RegKind} {a : Nat} (s : State) (who : Requester) (v : Word) (hk : kindAt a = some k) :
    s.applyGuarded who a v =
      let t := s.storeMasked k a v
      if goRegs.contains a && bit v 31 then
        if t.frozen (blockOf a) && a != Reg.PAR_CMD then (t.wf a 31 31 0).addSat Reg.ACC_ERR 31 24 1
        else if !t.fwReady && !t.romUpdate a then
          let h := t.sys.host
          t.setHost { h with goHeld := h.goHeld.filter (fun e => e.2.1 != a) ++ [(requesterCode who, a, v)] }
        else t.runGo a
      else if (a = Reg.GST_CTL 0 ∨ a = Reg.GST_CTL 1) ∧ bit v 30 then t.guestReset ((a - Reg.GST_CTL 0) / 4)
      else t := by
  simp only [State.applyGuarded, hk, parityClean_eq]
  rfl

/-- A value without a GO is stored, and that is all. -/
theorem applyGuarded_noGo {k : RegKind} {a : Nat} (s : State) (who : Requester) (v : Word) (hk : kindAt a = some k)
    (hg : goRegs.contains a = false) (h0 : a ≠ Reg.GST_CTL 0) (h1 : a ≠ Reg.GST_CTL 1) :
    s.applyGuarded who a v = s.storeMasked k a v := by
  simp only [applyGuarded_eq s who v hk, hg, h0, h1, Bool.false_and, Bool.false_eq_true, if_false, or_self, false_and]

/-- A GO in a frozen block is refused and counted (R479). -/
theorem applyGuarded_frozen {k : RegKind} {a : Nat} (s : State) (who : Requester) {v : Word} (hk : kindAt a = some k)
    (hw : k.access ≠ .ro) (hg : goRegs.contains a = true) (hv : bit v 31 = true) (hf : s.frozen (blockOf a) = true)
    (hp : a ≠ Reg.PAR_CMD) :
    s.applyGuarded who a v = ((s.storeMasked k a v).wf a 31 31 0).addSat Reg.ACC_ERR 31 24 1 := by
  have hb : (a != Reg.PAR_CMD) = true := bne_iff_ne.mpr hp
  simp only [applyGuarded_eq s who v hk, storeMasked_frozen s v hk hw, hg, hv, hf, hb, Bool.and_self, if_true]

/-- A GO that comes before the firmware runs is held (R503). -/
theorem applyGuarded_held {k : RegKind} {a : Nat} (s : State) (who : Requester) {v : Word} (hk : kindAt a = some k)
    (hw : k.access ≠ .ro) (hg : goRegs.contains a = true) (hv : bit v 31 = true) (hf : s.frozen (blockOf a) = false)
    (hr : s.fwReady = false) (hc : a ≠ Reg.CND_CMD) :
    s.applyGuarded who a v =
      let h := (s.storeMasked k a v).sys.host
      (s.storeMasked k a v).setHost
        { h with goHeld := h.goHeld.filter (fun e => e.2.1 != a) ++ [(requesterCode who, a, v)] } := by
  have hm : (s.storeMasked k a v).romUpdate a = false := by simp [State.romUpdate, hc]
  simp only [applyGuarded_eq s who v hk, storeMasked_frozen s v hk hw, storeMasked_fwReady s v hk hw, hg, hv, hf, hr,
    hm, Bool.and_self, Bool.false_and, Bool.false_eq_true, Bool.not_false, if_true, if_false]

/-- An RW register outside the tables that act on their own is stored, and the cap in force follows its register. -/
theorem storeRw_eq (s : State) (k : RegKind) {a : Nat} (v : Word) (ht : ¬(0x80000 ≤ a ∧ a < 0x80400))
    (hq : ¬(0xA00100 ≤ a ∧ a < 0xA00500 ∧ a % 16 = 8)) (hc : ¬(0x500280 ≤ a ∧ a < 0x500300)) :
    s.storeRw k a v = if a = Reg.PWR_CAP then (s.storeMasked k a v).showCap else s.storeMasked k a v := by
  simp only [State.storeRw, parityClean_eq, if_neg ht, if_neg hq, if_neg hc]
  rw [show ∀ w : Word, w ||| 0 = w from fun _ => BitVec.or_zero]
  rfl

/-! Writes by access code (R13, R474, R477, R478). -/

/-- No half that holds the offset is OFF (R474). -/
def WindowOn (a : Nat) (s : State) : Prop := ∀ r, windowRegion a = some r → s.regionPoint r ≠ 2

/-- The write passes the window and the registers that firmware alone writes (R474, R477). -/
def Writable (who : Requester) (a : Nat) (s : State) : Prop :=
  WindowOn a s ∧ (firmwareOnly a = true → who = .firmware)

theorem Writable.passes {who : Requester} {a : Nat} (h : Writable who a s) :
    (firmwareOnly a && who != .firmware) = false := by
  simpa using h.2

theorem writeReg_offWindow (s : State) (who : Requester) {a r : Nat} (v : Word) (hr : windowRegion a = some r)
    (h : s.regionPoint r = 2) : s.writeReg who a v = s.addSat Reg.ACC_ERR 23 16 1 := by
  simp only [State.writeReg, hr, h, beq_self_eq_true, if_true]

/-- Firmware's own registers turn other requesters away. -/
theorem writeReg_firmwareOnly {who : Requester} {a : Nat} (v : Word) (h : WindowOn a s) (hf : firmwareOnly a = true)
    (hw : who ≠ .firmware) :
    s.writeReg who a v = (s.addSat Reg.ACC_ERR 15 8 1).glbEvent (requesterCode who) a 1 := by
  have ht : (firmwareOnly a && who != .firmware) = true := by simp [hf, hw]
  cases hr : windowRegion a with
  | none => simp only [State.writeReg, hr, ht, Bool.false_eq_true, if_false, if_true]
  | some r =>
    simp only [State.writeReg, hr, beq_eq_false_iff_ne.mpr (h r hr), ht, Bool.false_eq_true, if_false, if_true]

/-- A register acts on a write by its access code. -/
theorem writeReg_access {who : Requester} {a : Nat} {k : RegKind} (v : Word) (h : Writable who a s)
    (hk : kindAt a = some k) :
    (k.access = .ro → s.writeReg who a v = s) ∧
    (k.access = .rw → s.writeReg who a v = s.storeRw k a v) ∧
    (k.access = .w1c → s.writeReg who a v =
      s.setReg a (s.reg a &&& ~~~(v &&& BitVec.ofNat 32 k.wmask &&& ~~~(s.freshFlags a)))) ∧
    (k.access = .rwg → s.writeReg who a v = s.guardWrite who a v) := by
  have hpass := h.passes
  cases hr : windowRegion a with
  | none => and_intros <;> intro hx <;> simp only [State.writeReg, hr, hpass, hk, hx, Bool.false_eq_true, if_false]
  | some r =>
    have hp := beq_eq_false_iff_ne.mpr (h.1 r hr)
    and_intros <;> intro hx <;> simp only [State.writeReg, hr, hp, hpass, hk, hx, Bool.false_eq_true, if_false]

/-- Where no register lies, a write may be a complement. -/
theorem writeReg_noKind {who : Requester} {a : Nat} (v : Word) (h : Writable who a s) (hk : kindAt a = none) :
    s.writeReg who a v = if 0x4000 ≤ a then s.guardConfirm who (a - 0x4000) v else s := by
  have hpass := h.passes
  cases hr : windowRegion a with
  | none => simp only [State.writeReg, hr, hpass, hk, Bool.false_eq_true, if_false]
  | some r =>
    simp only [State.writeReg, hr, beq_eq_false_iff_ne.mpr (h.1 r hr), hpass, hk, Bool.false_eq_true, if_false]

/-- Only a cell's status register can keep flags that were set in the present register clock (R76). -/
theorem freshFlags_eq_zero {a : Nat} (ha : a % 4 = 0)
    (h : ∀ r b p, r < 64 → b < 8 → p < 17 → a ≠ Reg.CELL_STAT r b p) : s.freshFlags a = 0 := by
  unfold State.freshFlags
  refine if_neg ?_
  rintro ⟨hlo, hhi, hb, hb', hc, hp⟩
  refine h ((a - 0x1000000) / 0x40000) ((a % 0x40000 - 0x20000) / 0x100) ((a % 0x40000 % 0x100 - 0x10) / 4) ?_ ?_ hp ?_
  · omega
  · omega
  · simp only [Reg.CELL_STAT]
    omega

/-! Requesters (R475, R476, R495). -/

/-- A requester that reaches the registers sends one aligned word to an offset that it may write. -/
def Sent (who : Requester) (a : Nat) (s : State) : Prop :=
  s.open_ who = true ∧ (who = .i3c → State.i3cWrites a = true) ∧ a % 4 = 0

/-- The state in which a write that was sent acts: the I3C target has acknowledged its own (R495). -/
def State.acked (s : State) (who : Requester) : State := if who = .i3c then s.emit (.i3c true) else s

theorem onlyRegs_acked (p : Nat → Prop) (s : State) (who : Requester) : OnlyRegs p s (s.acked who) := by
  unfold State.acked
  split
  · exact (OnlyRegs.refl p s).emit _
  · exact OnlyRegs.refl p s

theorem acked_host (s : State) : s.acked .host = s := rfl

@[simp] theorem acked_sys (s : State) (who : Requester) : (s.acked who).sys = s.sys :=
  (onlyRegs_acked (fun _ => False) s who).sys

@[simp] theorem acked_regs (s : State) (who : Requester) : (s.acked who).regs = s.regs := by
  unfold State.acked
  split <;> rfl

@[simp] theorem acked_reg (s : State) (who : Requester) (a : Nat) : (s.acked who).reg a = s.reg a := by
  simp [State.reg]

@[simp] theorem acked_freshFlags (s : State) (who : Requester) (a : Nat) :
    (s.acked who).freshFlags a = s.freshFlags a := by
  unfold State.acked
  split <;> rfl

theorem acked_guardOf (s : State) (who : Requester) : (s.acked who).guardOf who = s.guardOf who :=
  guardOf_eq (by simp) who

theorem acked_dt (s : State) (who : Requester) : (s.acked who).dt = s.dt := by
  simp [State.dt]

theorem acked_frozen (s : State) (who : Requester) (i : Nat) : (s.acked who).frozen i = s.frozen i := by
  simp [State.frozen]

theorem WindowOn.acked {a : Nat} (h : WindowOn a s) (who : Requester) : WindowOn a (s.acked who) :=
  fun r hr => by simpa [State.regionPoint, State.rf] using h r hr

theorem Writable.acked {who : Requester} {a : Nat} (h : Writable who a s) : Writable who a (s.acked who) :=
  ⟨h.1.acked who, h.2⟩

theorem writeWord_sent {who : Requester} {a : Nat} (v : Word) (h : Sent who a s) :
    s.writeWord who a v = (s.acked who).writeReg who a v := by
  obtain ⟨ho, hi, ha⟩ := h
  by_cases hw : who = .i3c
  · subst hw
    simp only [State.writeWord, State.i3cWriteAt, State.acked, ho, hi rfl, Bool.not_true, Bool.false_eq_true, if_false,
      if_true]
  · simp only [State.writeWord, State.acked, ho, hw, ha, Bool.not_true, Bool.false_eq_true, if_false, ne_eq,
      not_true_eq_false]

/-- The three commands by which a requester writes a word are one write (R13, R478). -/
theorem exec_write (who : Requester) (addr : BitVec 26) (v : Word) (s : State) :
    exec (.registerWrite who addr v) s = finish s (s.writeWord who addr.toNat v) ∧
    exec (.guardedWrite who addr v) s = finish s (s.writeWord who addr.toNat v) ∧
    exec (.guardComplement who addr v) s = finish s (s.writeWord who addr.toNat v) := ⟨rfl, rfl, rfl⟩

/-- A write that was sent ends in what its requester's access does, with the messages that fall due. -/
theorem exec_write_sent {who : Requester} {addr : BitVec 26} {v : Word} (h : Sent who addr.toNat s)
    (hu : (s.acked who).writeReg who addr.toNat v = u) :
    exec (.registerWrite who addr v) s = .next (State.messages s u) ∧
    exec (.guardedWrite who addr v) s = .next (State.messages s u) ∧
    exec (.guardComplement who addr v) s = .next (State.messages s u) := by
  have hw := exec_write who addr v s
  rw [writeWord_sent v h, hu] at hw
  exact hw

/-! What each kind of write does, from the command to its frame. -/

/-- An access that is refused is counted in its field of ACC_ERR, with its event. -/
theorem refused_access (b s : State) (hi lo who off i : Nat) (hhi : hi < 32) (hi' : i < 32) :
    let t := State.messages b ((s.addSat Reg.ACC_ERR hi lo 1).glbEvent who off i)
    fld (t.reg Reg.ACC_ERR) hi lo = satAdd (2 ^ (hi + 1 - lo) - 1) (s.rf Reg.ACC_ERR hi lo) 1 ∧
    bit (t.reg Reg.GLB_EVT) i = true ∧
    OnlyRegs (fun z => z = Reg.ACC_ERR ∨ z = Reg.GLB_EVT ∨ z = Reg.GLB_FIRST) s t := by
  refine ⟨?_, ?_, ?_⟩
  · rw [messages_reg _ _ _ (not_isPba_of_lt (by decide)), glbEvent_reg _ _ _ _ _ (by decide) (by decide)]
    exact fld_addSat s _ hi lo 1 hhi
  · rw [messages_reg _ _ _ (not_isPba_of_lt (by decide))]
    exact bit_glbEvent _ _ _ i hi'
  · exact (((OnlyRegs.refl _ s).addSat _ _ _ _ (.inl rfl)).glbEvent _ _ _ (.inr (.inl rfl)) (.inr (.inr rfl))).messages b

/-- A requester that does not reach the registers changes nothing (R469). -/
theorem closed_write {who : Requester} (addr : BitVec 26) (v : Word) (h : s.open_ who = false) :
    exec (.registerWrite who addr v) s = .next s ∧ exec (.guardedWrite who addr v) s = .next s ∧
    exec (.guardComplement who addr v) s = .next s := by
  have hw := exec_write who addr v s
  simpa [State.writeWord, h, finish] using hw

theorem misaligned_write {who : Requester} (addr : BitVec 26) (v : Word) (ho : s.open_ who = true) (hw : who ≠ .i3c)
    (ha : addr.toNat % 4 ≠ 0) :
    exec (.registerWrite who addr v) s = .next (State.messages s (s.badSize who addr.toNat)) := by
  rw [(exec_write who addr v s).1, State.writeWord]
  simp only [ho, hw, Bool.not_true, Bool.false_eq_true, if_false, if_pos ha]
  rfl

theorem offWindow_write {who : Requester} {addr : BitVec 26} {r : Nat} (v : Word) (h : Sent who addr.toNat s)
    (hr : windowRegion addr.toNat = some r) (hoff : s.regionPoint r = 2) :
    ∃ t, exec (.registerWrite who addr v) s = .next t ∧
      fld (t.reg Reg.ACC_ERR) 23 16 = min 255 (s.rf Reg.ACC_ERR 23 16 + 1) ∧
      OnlyRegs (fun z => z = Reg.ACC_ERR) s t := by
  have hoff' : (s.acked who).regionPoint r = 2 := by simpa [State.regionPoint, State.rf] using hoff
  have hf : OnlyRegs (fun z => z = Reg.ACC_ERR) s (s.acked who) := onlyRegs_acked _ s who
  refine ⟨_, (exec_write_sent h (writeReg_offWindow _ who v hr hoff')).1, ?_, ?_⟩
  · rw [messages_reg _ _ _ (not_isPba_of_lt (by decide)), fld_addSat _ _ _ _ _ (by decide), State.rf, acked_reg]
    rfl
  · exact (hf.addSat _ _ _ _ rfl).messages s

/-- A write to a read-only register changes nothing. -/
theorem ro_write {who : Requester} {addr : BitVec 26} {k : RegKind} (v : Word) (h : Sent who addr.toNat s)
    (hw : Writable who addr.toNat s) (hk : kindAt addr.toNat = some k) (ha : k.access = .ro) :
    ∃ t, exec (.registerWrite who addr v) s = .next t ∧ OnlyRegs (fun _ => False) s t := by
  obtain ⟨hro, -, -, -⟩ := writeReg_access v hw.acked hk
  exact ⟨_, (exec_write_sent h (hro ha)).1, (onlyRegs_acked _ s who).messages s⟩

/-- A write where no register lies, and no guarded one 0x4000 below, changes nothing. -/
theorem noRegister_write {who : Requester} {addr : BitVec 26} (v : Word) (h : Sent who addr.toNat s)
    (hw : Writable who addr.toNat s) (hk : kindAt addr.toNat = none)
    (hg : addr.toNat < 0x4000 ∨ isRWG (addr.toNat - 0x4000) = false) :
    ∃ t, exec (.registerWrite who addr v) s = .next t ∧ OnlyRegs (fun _ => False) s t := by
  have hu : (s.acked who).writeReg who addr.toNat v = s.acked who := by
    rw [writeReg_noKind v hw.acked hk]
    split
    · next hlo =>
      have hn := hg.resolve_left (Nat.not_lt.mpr hlo)
      simp [State.guardConfirm, hn]
    · rfl
  exact ⟨_, (exec_write_sent h hu).1, (onlyRegs_acked _ s who).messages s⟩

/-- A write of 1 clears a flag of a W1C register, except those that a cell has just set (R76). -/
theorem w1c_write {who : Requester} {addr : BitVec 26} {k : RegKind} (v : Word) (h : Sent who addr.toNat s)
    (hw : Writable who addr.toNat s) (hk : kindAt addr.toNat = some k) (ha : k.access = .w1c) :
    ∃ t, exec (.registerWrite who addr v) s = .next t ∧
      t.reg addr.toNat = s.reg addr.toNat &&& ~~~(v &&& BitVec.ofNat 32 k.wmask &&& ~~~(s.freshFlags addr.toNat)) ∧
      OnlyRegs (fun z => z = addr.toNat) s t := by
  obtain ⟨-, -, hc, -⟩ := writeReg_access v hw.acked hk
  have hf : OnlyRegs (fun z => z = addr.toNat) s (s.acked who) := onlyRegs_acked _ s who
  refine ⟨_, (exec_write_sent h (hc ha)).1, ?_, ?_⟩
  · rw [messages_reg _ _ _ (not_isPba_of_kind hk (by simp [ha])), State.reg_setReg_self, acked_reg, acked_freshFlags]
  · exact (hf.setReg _ _ rfl).messages s

/-- A write to an RW register outside the tables that act on their own stores its writable bits (R13, R15). -/
theorem rw_write {who : Requester} {addr : BitVec 26} {k : RegKind} (v : Word) (h : Sent who addr.toNat s)
    (hw : Writable who addr.toNat s) (hk : kindAt addr.toNat = some k) (ha : k.access = .rw)
    (ht : ¬(0x80000 ≤ addr.toNat ∧ addr.toNat < 0x80400))
    (hq : ¬(0xA00100 ≤ addr.toNat ∧ addr.toNat < 0xA00500 ∧ addr.toNat % 16 = 8))
    (hc : ¬(0x500280 ≤ addr.toNat ∧ addr.toNat < 0x500300)) :
    ∃ t, exec (.registerWrite who addr v) s = .next t ∧
      t.reg addr.toNat =
        (s.reg addr.toNat &&& ~~~(BitVec.ofNat 32 k.wmask)) ||| (v &&& BitVec.ofNat 32 k.wmask) ∧
      t.sys.host = { s.sys.host with dirty := s.sys.host.dirty.filter (· != addr.toNat) } ∧
      HostAndRegs (fun z => z = addr.toNat ∨ (addr.toNat = Reg.PWR_CAP ∧ z = Reg.PWR_STAT)) s t := by
  have hro : k.access ≠ .ro := by simp [ha]
  obtain ⟨-, hrw, -, -⟩ := writeReg_access v hw.acked hk
  have hu := (hrw ha).trans (storeRw_eq _ k v ht hq hc)
  have hm := ((onlyRegs_acked _ s who).host.trans (hostAndRegs_storeMasked (s.acked who) k addr.toNat v)).mono
    (q := fun z => z = addr.toNat ∨ (addr.toNat = Reg.PWR_CAP ∧ z = Reg.PWR_STAT)) (fun z hz => .inl hz)
  have hv := storeMasked_reg (s.acked who) k addr.toNat v
  rw [acked_reg] at hv
  have hd : ((s.acked who).storeMasked k addr.toNat v).sys.host =
      { s.sys.host with dirty := s.sys.host.dirty.filter (· != addr.toNat) } := by rw [← acked_sys s who]; rfl
  refine ⟨_, (exec_write_sent h hu).1, ?_, ?_, ?_⟩
  · rw [messages_reg _ _ _ (not_isPba_of_kind hk hro)]
    split
    · have hne : Reg.PWR_STAT ≠ addr.toNat := (ne_of_isRO hk hro (by decide)).symm
      rw [State.showCap, State.wf_eq, State.reg_setReg, if_neg hne]
      exact hv
    · exact hv
  · simp only [messages_same]
    split
    · exact hd
    · exact hd
  · split
    · next hcap => exact (hm.setReg _ _ (.inr ⟨hcap, rfl⟩)).messages s
    · exact hm.messages s

/-- A guarded write waits for its complement (R478). -/
theorem guardedWrite_waits {who : Requester} {addr : BitVec 26} (v : Word) (h : Sent who addr.toNat s)
    (hw : Writable who addr.toNat s) (hr : isRWG addr.toNat = true) (hg : s.guardOf who = none) :
    ∃ t, exec (.guardedWrite who addr v) s = .next t ∧ t.guardOf who = some ⟨addr.toNat, v, s.dt⟩ ∧
      HostAndRegs (fun _ => False) s t := by
  obtain ⟨k, hk, ha⟩ := isRWG_iff.mp hr
  obtain ⟨-, -, -, hgw⟩ := writeReg_access v hw.acked hk
  have hg' := (acked_guardOf s who).trans hg
  have hu : (s.acked who).writeReg who addr.toNat v = (s.acked who).setGuard who (some ⟨addr.toNat, v, s.dt⟩) := by
    rw [hgw ha, State.guardWrite, hr, expireGuard_none hg', dropGuard_none hg', acked_dt]
    rfl
  exact ⟨_, (exec_write_sent h hu).2.1, by simp,
    ((onlyRegs_acked _ s who).host.trans (hostAndRegs_setGuard _ _ who _)).messages s⟩

/-- A guarded write takes the place of one that waits, which is dropped. -/
theorem guardedWrite_replaces {who : Requester} {addr : BitVec 26} {g : GuardPend} (v : Word)
    (h : Sent who addr.toNat s) (hw : Writable who addr.toNat s) (hr : isRWG addr.toNat = true)
    (hg : s.guardOf who = some g) :
    ∃ t, exec (.guardedWrite who addr v) s = .next t ∧ t.guardOf who = some ⟨addr.toNat, v, s.dt⟩ ∧
      bit (t.reg Reg.GLB_EVT) 2 = true ∧ HostAndRegs isDropReg s t := by
  obtain ⟨k, hk, ha⟩ := isRWG_iff.mp hr
  obtain ⟨-, -, -, hgw⟩ := writeReg_access v hw.acked hk
  obtain ⟨-, he, hf⟩ := expireGuard_dropGuard_drops ((acked_guardOf s who).trans hg)
  have hu : (s.acked who).writeReg who addr.toNat v =
      (((s.acked who).expireGuard who).dropGuard who).setGuard who (some ⟨addr.toNat, v, s.dt⟩) := by
    rw [hgw ha, State.guardWrite, hr, acked_dt]
    rfl
  refine ⟨_, (exec_write_sent h hu).2.1, by simp, ?_,
    (((onlyRegs_acked _ s who).host.trans hf).trans (hostAndRegs_setGuard _ _ who _)).messages s⟩
  rw [messages_reg _ _ _ (not_isPba_of_lt (by decide))]
  exact he

section Complement

variable {who : Requester} {addr : BitVec 26} {v : Word} {k : RegKind} {g : GuardPend}
variable (h : Sent who addr.toNat s) (hw : Writable who addr.toNat s) (hg : s.guardOf who = some g)
  (ha : g.addr + 0x4000 = addr.toNat) (hn : kindAt addr.toNat = none) (hr : isRWG g.addr = true)

include h hw ha hn in
/-- A write 0x4000 above a guarded register confirms it. -/
theorem guardComplement_confirms (hu : (s.acked who).guardConfirm who g.addr v = u) :
    exec (.guardComplement who addr v) s = .next (State.messages s u) := by
  have hlo : 0x4000 ≤ addr.toNat := by omega
  have hsub : addr.toNat - 0x4000 = g.addr := by omega
  refine (exec_write_sent h ?_).2.2
  rw [writeReg_noKind v hw.acked hn, if_pos hlo, hsub, hu]

include h hw hg ha hn hr in
/-- The complement in time applies the value that waits. -/
theorem guardComplement_applies (hl : s.dt ≤ g.at_ + State.guardTicks) (hv : v = ~~~g.value)
    (hu : ((s.acked who).setGuard who none).applyGuarded who g.addr g.value = u) :
    exec (.guardComplement who addr v) s = .next (State.messages s u) := by
  refine guardComplement_confirms h hw ha hn ?_
  rw [guardConfirm_applies ((acked_guardOf s who).trans hg) hr (by rw [acked_dt]; exact hl) hv, hu]

/-- The state after a guarded value is stored: it waits no longer. -/
def State.confirmed (s : State) (who : Requester) (k : RegKind) (g : GuardPend) : State :=
  ((s.acked who).setGuard who none).storeMasked k g.addr g.value

theorem hostAndRegs_confirmed (s : State) (who : Requester) (k : RegKind) (g : GuardPend) :
    HostAndRegs (fun z => z = g.addr) s (s.confirmed who k g) :=
  ((onlyRegs_acked _ s who).host.trans (hostAndRegs_setGuard _ _ who none)).trans (hostAndRegs_storeMasked _ k g.addr _)

@[simp] theorem confirmed_guardOf (s : State) (who : Requester) (k : RegKind) (g : GuardPend) :
    (s.confirmed who k g).guardOf who = none := guardOf_setGuard (s.acked who) who none

theorem confirmed_reg (s : State) (who : Requester) (k : RegKind) (g : GuardPend) :
    (s.confirmed who k g).reg g.addr =
      (s.reg g.addr &&& ~~~(BitVec.ofNat 32 k.wmask)) ||| (g.value &&& BitVec.ofNat 32 k.wmask) := by
  rw [← acked_reg s who]
  exact storeMasked_reg _ k g.addr g.value

theorem access_ne_ro_of_isRWG {a : Nat} (hr : isRWG a = true) (hk : kindAt a = some k) : k.access ≠ .ro := by
  obtain ⟨k', hk', ha'⟩ := isRWG_iff.mp hr
  obtain rfl : k = k' := Option.some.inj (hk.symm.trans hk')
  simp [ha']

variable (hk : kindAt g.addr = some k) (hl : s.dt ≤ g.at_ + State.guardTicks) (hv : v = ~~~g.value)

include h hw hg ha hn hr hk hl hv

/-- The complement of a value without a GO stores it (R478). -/
theorem guardComplement_stores (hgo : goRegs.contains g.addr = false) (h0 : g.addr ≠ Reg.GST_CTL 0)
    (h1 : g.addr ≠ Reg.GST_CTL 1) :
    ∃ t, exec (.guardComplement who addr v) s = .next t ∧ t.guardOf who = none ∧
      t.reg g.addr = (s.reg g.addr &&& ~~~(BitVec.ofNat 32 k.wmask)) ||| (g.value &&& BitVec.ofNat 32 k.wmask) ∧
      HostAndRegs (fun z => z = g.addr) s t := by
  refine ⟨_, guardComplement_applies h hw hg ha hn hr hl hv (u := s.confirmed who k g)
    (applyGuarded_noGo _ who _ hk hgo h0 h1), by simp, ?_, (hostAndRegs_confirmed s who k g).messages s⟩
  rw [messages_reg _ _ _ (not_isPba_of_kind hk (access_ne_ro_of_isRWG hr hk)), confirmed_reg]

/-- The complement of a GO in a frozen block stores the value without it, and the refusal is counted (R479). -/
theorem guardComplement_refusedGo (hgo : goRegs.contains g.addr = true) (hb : bit g.value 31 = true)
    (hf : s.frozen (blockOf g.addr) = true) (hp : g.addr ≠ Reg.PAR_CMD) :
    ∃ t, exec (.guardComplement who addr v) s = .next t ∧ t.guardOf who = none ∧ bit (t.reg g.addr) 31 = false ∧
      fld (t.reg Reg.ACC_ERR) 31 24 = min 255 (s.rf Reg.ACC_ERR 31 24 + 1) ∧
      HostAndRegs (fun z => z = g.addr ∨ z = Reg.ACC_ERR) s t := by
  have hro := access_ne_ro_of_isRWG hr hk
  have hne : g.addr ≠ Reg.ACC_ERR := ne_of_isRO hk hro (by decide)
  have hf' : ((s.acked who).setGuard who none).frozen (blockOf g.addr) = true := (acked_frozen s who _).trans hf
  refine ⟨_, guardComplement_applies h hw hg ha hn hr hl hv
    (u := ((s.confirmed who k g).wf g.addr 31 31 0).addSat Reg.ACC_ERR 31 24 1)
    (applyGuarded_frozen _ who hk hro hgo hb hf' hp), ?_, ?_, ?_, ?_⟩
  · exact (messages_guardOf s _ who).trans (confirmed_guardOf s who k g)
  · rw [messages_reg _ _ _ (not_isPba_of_kind hk hro), State.addSat_eq, State.reg_setReg, if_neg hne.symm, State.wf_eq,
      State.reg_setReg_self, bit_setFld _ _ _ _ _ (by decide)]
    rfl
  · rw [messages_reg _ _ _ (not_isPba_of_lt (by decide)), fld_addSat _ _ _ _ _ (by decide), State.rf, State.wf_eq,
      State.reg_setReg, if_neg hne,
      (hostAndRegs_confirmed s who k g).regsBut _ hne.symm (not_isPba_of_lt (by decide))]
    rfl
  · exact ((((hostAndRegs_confirmed s who k g).mono (fun z hz => .inl hz)).setReg _ _ (.inl rfl)).setReg _ _
      (.inr rfl)).messages s

/-- The complement of a GO stores it, and it is held until the firmware runs (R503). -/
theorem guardComplement_holdsGo (hgo : goRegs.contains g.addr = true) (hb : bit g.value 31 = true)
    (hf : s.frozen (blockOf g.addr) = false) (hfw : s.fwReady = false) (hc : g.addr ≠ Reg.CND_CMD) :
    ∃ t, exec (.guardComplement who addr v) s = .next t ∧ t.guardOf who = none ∧
      (requesterCode who, g.addr, g.value) ∈ t.sys.host.goHeld ∧ HostAndRegs (fun z => z = g.addr) s t := by
  have hro := access_ne_ro_of_isRWG hr hk
  have hf' : ((s.acked who).setGuard who none).frozen (blockOf g.addr) = false := (acked_frozen s who _).trans hf
  have hfw' : ((s.acked who).setGuard who none).fwReady = false := by
    rw [State.fwReady, ← acked_reg s who] at hfw
    exact hfw
  refine ⟨_, guardComplement_applies h hw hg ha hn hr hl hv
    (applyGuarded_held _ who hk hro hgo hb hf' hfw' hc), ?_, ?_, ?_⟩
  · exact (messages_guardOf s _ who).trans (confirmed_guardOf s who k g)
  · simp [State.setHost]
  · exact ((hostAndRegs_confirmed s who k g).trans (hostAndRegs_setHost _ _ _)).messages s

end Complement

/-- A complement that is late or wrong drops the write that waits. -/
theorem guardComplement_drops {who : Requester} {addr : BitVec 26} {v : Word} {g : GuardPend}
    (h : Sent who addr.toNat s) (hw : Writable who addr.toNat s) (hg : s.guardOf who = some g)
    (ha : g.addr + 0x4000 = addr.toNat) (hn : kindAt addr.toNat = none) (hr : isRWG g.addr = true)
    (hb : g.at_ + State.guardTicks < s.dt ∨ v ≠ ~~~g.value) :
    ∃ t, exec (.guardComplement who addr v) s = .next t ∧ Dropped who s t := by
  rw [← acked_dt s who] at hb
  obtain ⟨hno, he, hf⟩ := guardConfirm_drops ((acked_guardOf s who).trans hg) hr hb
  exact ⟨_, guardComplement_confirms h hw ha hn rfl,
    Dropped.messages ⟨hno, he, (onlyRegs_acked _ s who).host.trans hf⟩ s⟩

/-- A guarded write whose count expires is dropped, and the host's is counted. -/
theorem guardDrop_drops {who : Requester} {g : GuardPend} (hg : s.guardOf who = some g) :
    ∃ t, exec (.guardDrop who) s = .next t ∧ Dropped who s t ∧
      (who = .host → fld (t.reg Reg.GUARD_CNT) 15 0 = min 65535 (s.rf Reg.GUARD_CNT 15 0 + 1)) := by
  refine ⟨State.messages s (s.dropGuard who), rfl, (dropGuard_drops hg).messages s, ?_⟩
  rintro rfl
  rw [messages_reg _ _ _ (not_isPba_of_lt (by decide)), dropGuard_some hg, fld_countDrop_host]
  rfl

theorem guardDrop_idle {who : Requester} (hg : s.guardOf who = none) : exec (.guardDrop who) s = .next s := by
  show finish s (s.dropGuard who) = .next s
  rw [dropGuard_none hg, finish_next, messages_self]

/-! Parity (R479, R480). -/

theorem mem_insertNat_self (a : Nat) (l : List Nat) : a ∈ insertNat a l := by
  induction l with
  | nil => simp [insertNat]
  | cons b l ih =>
    rw [insertNat.eq_def]
    grind

/-- The parity of a register has failed, which PAR_FIRST shows. -/
def State.parityFailed (s : State) (a : Nat) : State :=
  (s.setHost { s.sys.host with dirty := insertNat a s.sys.host.dirty, failed := insertNat a s.sys.host.failed }).setReg
    Reg.PAR_FIRST (BitVec.ofNat 32 (a / 4))

theorem parityFailed_frozen (s : State) (a i : Nat) : (s.parityFailed a).frozen i = s.frozen i :=
  (frozen_setReg _ _ (by decide) (by decide) (by decide) i).trans rfl

/-- A mismatch of a guarded or plain RW register that was clean is recorded, and freezes its block. -/
theorem parityFails_clean {a : Nat} {k : RegKind} (hk : kindAt a = some k) (hx : k.access = .rw ∨ k.access = .rwg)
    (hd : s.sys.host.dirty.contains a = false) :
    s.parityFails a = if s.frozen (blockOf a) then s.parityFailed a
      else ((s.parityFailed a).setFrozen (blockOf a) 1).glbEvent 3 a 3 := by
  have hc : (k.access == .rw || k.access == .rwg) = true := by simpa using hx
  rw [← parityFailed_frozen s a]
  simp only [State.parityFails, hk, hc, hd, Bool.not_true, Bool.or_self, Bool.false_eq_true, if_false]
  rfl

/-- Registers of other kinds have no parity, and a mismatch that is known is not met again. -/
theorem parityFails_idle {a : Nat} {k : RegKind} (hk : kindAt a = some k)
    (hx : k.access ≠ .rw ∧ k.access ≠ .rwg ∨ s.sys.host.dirty.contains a = true) : s.parityFails a = s := by
  have hc : (!(k.access == .rw || k.access == .rwg) || s.sys.host.dirty.contains a) = true := by
    rcases hx with ⟨h1, h2⟩ | h
    · simp [h1, h2]
    · rw [h, Bool.or_true]
  simp only [State.parityFails, hk, hc, if_true]

/-- The block of the register is frozen then, with its event if it was not, and nothing else has changed. -/
theorem parityFails_freezes {a : Nat} {k : RegKind} (hk : kindAt a = some k)
    (hx : k.access = .rw ∨ k.access = .rwg) (ha : a < 0x2000000) (hd : s.sys.host.dirty.contains a = false) :
    (s.parityFails a).frozen (blockOf a) = true ∧
    (s.frozen (blockOf a) = false → bit ((s.parityFails a).reg Reg.GLB_EVT) 3 = true) ∧
    OnlyRegs (fun z => isFrozenReg z ∨ z = Reg.GLB_EVT ∨ z = Reg.GLB_FIRST) (s.parityFailed a) (s.parityFails a) := by
  rw [parityFails_clean hk hx hd]
  split
  · next hf =>
    exact ⟨(parityFailed_frozen s a _).trans hf, fun hn => absurd hf (by simp [hn]), OnlyRegs.refl _ _⟩
  · refine ⟨?_, fun _ => bit_glbEvent _ _ _ 3 (by decide), ?_⟩
    · rw [frozen_glbEvent, frozen_setFrozen _ _ _ (blockOf_lt ha)]
      rfl
    · exact ((onlyRegs_setFrozen _ _ 1).mono (fun z hz => .inl hz)).glbEvent _ _ _ (.inr (.inl rfl)) (.inr (.inr rfl))

theorem parity_freezes {addr : BitVec 26} {k : RegKind} (hk : kindAt addr.toNat = some k)
    (hx : k.access = .rw ∨ k.access = .rwg) (ha : addr.toNat < 0x2000000)
    (hd : s.sys.host.dirty.contains addr.toNat = false) :
    ∃ t, exec (.parity addr) s = .next t ∧ t.frozen (blockOf addr.toNat) = true ∧
      t.hw addr.toNat = resetValue addr.toNat ∧ t.reg Reg.PAR_FIRST = BitVec.ofNat 32 (addr.toNat / 4) ∧
      (s.frozen (blockOf addr.toNat) = false → bit (t.reg Reg.GLB_EVT) 3 = true) ∧
      t.sys.host = { s.sys.host with dirty := insertNat addr.toNat s.sys.host.dirty,
                                     failed := insertNat addr.toNat s.sys.host.failed } := by
  obtain ⟨hfr, hev, hfm⟩ := parityFails_freezes hk hx ha hd
  have hm := hfm.messages s
  have hh : (State.messages s (s.parityFails addr.toNat)).sys.host = (s.parityFailed addr.toNat).sys.host := by
    rw [hm.sys]
  have hin : (insertNat addr.toNat s.sys.host.failed).contains addr.toNat = true :=
    List.contains_iff_mem.mpr (mem_insertNat_self _ _)
  refine ⟨_, rfl, (messages_frozen s _ _).trans hfr, ?_, ?_, fun hn => ?_, hh⟩
  · rw [State.hw, hh]
    exact if_pos hin
  · rw [hm.2 _ (by unfold isFrozenReg; decide) (not_isPba_of_lt (by decide))]
    exact State.reg_setReg_self _ _ _
  · rw [messages_reg _ _ _ (not_isPba_of_lt (by decide))]
    exact hev hn

theorem parity_idle {addr : BitVec 26} {k : RegKind} (hk : kindAt addr.toNat = some k)
    (hx : k.access ≠ .rw ∧ k.access ≠ .rwg ∨ s.sys.host.dirty.contains addr.toNat = true) :
    exec (.parity addr) s = .next s := by
  show finish s (s.parityFails addr.toNat) = .next s
  rw [parityFails_idle hk hx, finish_next, messages_self]

/-- An unfreeze names its target in PAR_CMD and takes its GO back. -/
def State.unfreezing (s : State) (n : Nat) : State := (s.wf Reg.PAR_CMD 6 0 n).wf Reg.PAR_CMD 31 31 0

theorem onlyRegs_unfreezing (s : State) (n : Nat) : OnlyRegs (fun z => z = Reg.PAR_CMD) s (s.unfreezing n) :=
  have h := OnlyRegs.refl (fun z => z = Reg.PAR_CMD) s
  (h.setReg _ _ rfl).setReg _ _ rfl

theorem unfreezing_frozen (s : State) (n i : Nat) : (s.unfreezing n).frozen i = s.frozen i :=
  (onlyRegs_unfreezing s n).2.frozen (by decide) (by decide) (by decide) i

/-- The result of an unfreeze reads back from PAR_CMD. -/
theorem fld_unfreezeResult (b s : State) (v : Nat) (h : v < 4) :
    fld ((State.messages b (s.wf Reg.PAR_CMD 8 7 v)).reg Reg.PAR_CMD) 8 7 = v := by
  rw [messages_reg _ _ _ (not_isPba_of_lt (by decide)), State.wf_eq, State.reg_setReg_self]
  exact fld_setFld_lt _ _ _ _ (by decide) h

theorem exec_unfreeze (target : BitVec 7) (s : State) :
    exec (.unfreeze target) s =
      let n := target.toNat
      let h := s.sys.host
      let u := s.unfreezing n
      finish s
        (if 80 ≤ n || !u.frozen n then u.wf Reg.PAR_CMD 8 7 2
         else if h.dirty.any (fun a => blockOf a == n) then u.wf Reg.PAR_CMD 8 7 1
         else ((u.setHost { h with failed := h.failed.filter (fun a => blockOf a != n) }).setFrozen n 0).wf
           Reg.PAR_CMD 8 7 0) := rfl

/-- Every register of the block is clean: it acts on its own values again (R480). -/
theorem unfreeze_clean {target : BitVec 7} (ht : target.toNat < 80) (hf : s.frozen target.toNat = true)
    (hd : ∀ z ∈ s.sys.host.dirty, blockOf z ≠ target.toNat) :
    ∃ t, exec (.unfreeze target) s = .next t ∧ t.frozen target.toNat = false ∧ fld (t.reg Reg.PAR_CMD) 8 7 = 0 ∧
      t.sys.host = { s.sys.host with failed := s.sys.host.failed.filter (fun z => blockOf z != target.toNat) } := by
  have hany : s.sys.host.dirty.any (fun a => blockOf a == target.toNat) = false := by simpa using hd
  have hg : (decide (80 ≤ target.toNat) || !s.frozen target.toNat) = false := by simp [hf, ht]
  simp only [exec_unfreeze, unfreezing_frozen, hg, hany, Bool.false_eq_true, if_false]
  refine ⟨_, rfl, ?_, fld_unfreezeResult _ _ 0 (by decide), ?_⟩
  · rw [messages_frozen, State.wf_eq, frozen_setReg _ _ (by decide) (by decide) (by decide), frozen_setFrozen _ _ _ ht]
    rfl
  · simp only [messages_same, State.wf_eq, State.setReg_fields, setFrozen_sys]
    rfl

/-- A register of the block that fails still keeps it frozen. -/
theorem unfreeze_dirty {target : BitVec 7} {z : Nat} (hz : z ∈ s.sys.host.dirty) (ht : target.toNat < 80)
    (hb : blockOf z = target.toNat) (hf : s.frozen target.toNat = true) :
    ∃ t, exec (.unfreeze target) s = .next t ∧ fld (t.reg Reg.PAR_CMD) 8 7 = 1 ∧
      OnlyRegs (fun z => z = Reg.PAR_CMD) s t := by
  have hany : s.sys.host.dirty.any (fun a => blockOf a == target.toNat) = true := by
    simpa using ⟨z, hz, hb⟩
  have hg : (decide (80 ≤ target.toNat) || !s.frozen target.toNat) = false := by simp [hf, ht]
  simp only [exec_unfreeze, unfreezing_frozen, hg, hany, Bool.false_eq_true, if_false, if_true]
  exact ⟨_, rfl, fld_unfreezeResult _ _ 1 (by decide), ((onlyRegs_unfreezing s _).setReg _ _ rfl).messages s⟩

/-- A target that is no block, or not frozen, has nothing to unfreeze. -/
theorem unfreeze_refused {target : BitVec 7} (h : 80 ≤ target.toNat ∨ s.frozen target.toNat = false) :
    ∃ t, exec (.unfreeze target) s = .next t ∧ fld (t.reg Reg.PAR_CMD) 8 7 = 2 ∧
      OnlyRegs (fun z => z = Reg.PAR_CMD) s t := by
  have hg : (decide (80 ≤ target.toNat) || !s.frozen target.toNat) = true := by simpa using h
  simp only [exec_unfreeze, unfreezing_frozen, hg, if_true]
  exact ⟨_, rfl, fld_unfreezeResult _ _ 2 (by decide), ((onlyRegs_unfreezing s _).setReg _ _ rfl).messages s⟩

end RegisterWrites

/-- Settles O59: each clause is the lemma of its command above. -/
theorem registersAreWrittenByTheirAccessCode : Obligations.RegistersAreWrittenByTheirAccessCode := by
  unfold Obligations.RegistersAreWrittenByTheirAccessCode
  intro who addr v k target s a m h onlyHost sent inWindow reach glb
  refine ⟨closed_write addr v, ?misaligned, fun r hs hr hoff => offWindow_write v hs hr hoff, ?firmwareOnly,
    fun ⟨hs, hw⟩ hk hg => noRegister_write v hs hw hk hg, ?access,
    fun ⟨hs, hw⟩ hg hn => guardedWrite_waits v hs hw hg hn,
    fun g ⟨hs, hw⟩ hg hn => guardedWrite_replaces v hs hw hg hn,
    ?complement, ?drop, guardDrop_idle, parity_freezes, parity_idle, unfreeze_clean,
    fun z hz ht hb hf => unfreeze_dirty hz ht hb hf, unfreeze_refused⟩
  case misaligned =>
    intro ho hw ha
    exact ⟨_, misaligned_write addr v ho hw ha, refused_access s s 7 0 _ a 0 (by decide) (by decide)⟩
  case firmwareOnly =>
    rintro hs hon hf rfl
    exact ⟨_, (exec_write_sent hs (writeReg_firmwareOnly v (hon : WindowOn a s) hf (by decide))).1,
      refused_access s s 15 8 _ a 1 (by decide) (by decide)⟩
  case access =>
    rintro ⟨hs, hw⟩ hk
    refine ⟨ro_write v hs hw hk, fun ha => ?_, fun ha ht hq hc => rw_write v hs hw hk ha ht hq hc⟩
    obtain ⟨t, he, hv, hf⟩ := w1c_write v hs hw hk ha
    obtain ⟨-, -, aligned⟩ := hs
    exact ⟨t, he, hv, freshFlags_eq_zero aligned, hf⟩
  case complement =>
    rintro g ⟨hs, hw⟩ hg ha hn hrwg hk
    exact ⟨fun hl hv => ⟨guardComplement_stores hs hw hg ha hn hrwg hk hl hv,
        guardComplement_refusedGo hs hw hg ha hn hrwg hk hl hv,
        guardComplement_holdsGo hs hw hg ha hn hrwg hk hl hv⟩,
      guardComplement_drops hs hw hg ha hn hrwg⟩
  case drop =>
    intro g hg
    obtain ⟨t, he, ⟨hno, hev, hf⟩, hcount⟩ := guardDrop_drops hg
    exact ⟨t, he, hno, hev, hcount, hf⟩

/-! Reset (R14). -/

theorem reg_reset (a : Nat) : State.reset.reg a = resetValue a := rfl

theorem resetValue_facetStat : ∀ f, f < 64 → resetValue (Reg.FACET_STAT f) = 0 := by decide

/-- No facet is bound after reset (R258). -/
theorem facetState_reset {f : Nat} (h : f < 64) : State.reset.facetState f = 0 := by
  rw [State.facetState, State.rf, reg_reset, resetValue_facetStat f h]
  rfl

/-- Settles O2: an empty register table reads its reset values, and an empty memory reads zero. -/
theorem resetLeavesTheStatedValues : Obligations.ResetLeavesTheStatedValues := by
  unfold Obligations.ResetLeavesTheStatedValues
  exact ⟨reg_reset, by decide, by decide, by decide, fun f hf => facetState_reset hf, by decide, rfl, rfl, rfl, wf_reset,
    rfl, fun _ => rfl⟩

end Sys2Proof.Machine

namespace Sys2Proof.Machine

/-! What a block reset does to the cells and registers of its block (O19). -/

section BlockReset

variable {s t u : State} {r b : Nat}

/-! What stopping a facet leaves alone: no reply, packet or slot of a facet is part of the array. -/

/-- The cells are as before, and so are bits [27:0] of every register of a region. A state may name a slot of any number;
the write of its STATE, bits [30:28] of SLOT_STAT, then lands among those registers, above these bits. -/
def ArrayKept (s t : State) : Prop :=
  t.cells = s.cells ∧ ∀ a i, 0x1000000 ≤ a → i < 28 → bit (t.reg a) i = bit (s.reg a) i

theorem not_isPba_of_region {a : Nat} (ha : 0x1000000 ≤ a) : ¬isPba a :=
  fun hp => absurd (pba_lt hp) (by omega)

theorem messages_regionReg (b t : State) {a : Nat} (ha : 0x1000000 ≤ a) : (State.messages b t).reg a = t.reg a :=
  messages_reg b t a (not_isPba_of_region ha)

namespace ArrayKept

theorem refl (s : State) : ArrayKept s s := ⟨rfl, fun _ _ _ _ => rfl⟩

theorem trans (h : ArrayKept s t) (k : ArrayKept t u) : ArrayKept s u :=
  ⟨k.1.trans h.1, fun a i ha hi => (k.2 a i ha hi).trans (h.2 a i ha hi)⟩

theorem of_same (hc : t.cells = s.cells) (hr : t.regs = s.regs) : ArrayKept s t :=
  ⟨hc, fun a i _ _ => by rw [State.reg, State.reg, hr]⟩

theorem setReg (h : ArrayKept s t) {a : Nat} (v : Word) (ha : a < 0x1000000) : ArrayKept s (t.setReg a v) :=
  h.trans ⟨rfl, fun x i hx _ => by rw [State.reg_setReg, if_neg (by omega)]⟩

theorem wf_high (h : ArrayKept s t) (a hi : Nat) {lo : Nat} (v : Nat) (hlo : 28 ≤ lo) :
    ArrayKept s (t.wf a hi lo v) := by
  refine h.trans ⟨rfl, fun x i _ hi' => ?_⟩
  rw [State.wf_eq, State.reg_setReg]
  split
  · next e =>
    subst e
    rw [bit_setFld _ _ _ _ _ (by omega), if_neg (by omega)]
  · rfl

theorem ite {c : Prop} [Decidable c] (h : ArrayKept s t) (k : ArrayKept s u) : ArrayKept s (if c then t else u) := by
  split
  · exact h
  · exact k

theorem raiseFirst (h : ArrayKept s t) {e f : Nat} (i v : Nat) (he : e < 0x1000000) (hf : f < 0x1000000) :
    ArrayKept s (t.raiseFirst e f i v) := ((h.setReg _ hf).ite h).setReg _ he

theorem fab (h : ArrayKept s t) (x : FabState) : ArrayKept s { t with fab := x } := h.trans (of_same rfl rfl)

theorem emit (h : ArrayKept s t) (o : Output) : ArrayKept s (t.emit o) := h.trans (of_same rfl rfl)

theorem setQp (h : ArrayKept s t) (n : Nat) (x : QpState) : ArrayKept s (t.setQp n x) := h.trans (of_same rfl rfl)

theorem setSlot (h : ArrayKept s t) (n : Nat) (x : SlotState) : ArrayKept s (t.setSlot n x) :=
  h.trans (of_same rfl rfl)

theorem slotState (h : ArrayKept s t) (p st : Nat) : ArrayKept s (t.setSlotState p st) :=
  h.wf_high _ _ _ (by decide)

theorem forEach {α : Type} {l : List α} {f : State → α → State} (h : ArrayKept s t)
    (hf : ∀ u a, ArrayKept u (f u a)) : ArrayKept s (Machine.forEach l t f) :=
  forEach_keep (ArrayKept s) l t f h (fun u a hu => hu.trans (hf u a))

end ArrayKept

/-! Packets. -/

theorem arrayKept_sesEvent (s : State) (f n i : Nat) : ArrayKept s (s.sesEvent f n i) :=
  (ArrayKept.refl s).raiseFirst _ _ (by decide) (by decide)

theorem arrayKept_fabEvent (s : State) (f p i : Nat) : ArrayKept s (s.fabEvent f p i) :=
  (ArrayKept.refl s).raiseFirst _ _ (by decide) (by decide)

theorem arrayKept_enqueue (s : State) {p : Nat} (q : Packet) (hp : p < 32) : ArrayKept s (s.enqueue p q) := by
  have hm : ArrayKept s (s.count (Reg.PFAB_MARK p) 1) :=
    (ArrayKept.refl s).setReg _ (by unfold Reg.PFAB_MARK; omega)
  exact (hm.ite (.refl s)).trans (.of_same rfl rfl)

theorem arrayKept_leave (s : State) (e : Nat) (q : Packet) : ArrayKept s (s.leave e q) := by
  unfold State.leave
  split
  · next p hp => exact arrayKept_enqueue s q (choosePort_lt s e q p hp)
  · exact (ArrayKept.refl s).fab _

theorem arrayKept_egress (s : State) (q : Packet) : ArrayKept s (s.egress q) := by
  unfold State.egress
  split
  · exact (ArrayKept.refl s).fab _
  · exact arrayKept_leave s _ _

theorem arrayKept_notifyFails (s : State) (f n : Nat) : ArrayKept s (s.notifyFails f n) := by
  unfold State.notifyFails
  refine ArrayKept.trans ?_ (arrayKept_sesEvent _ f n 6)
  split
  · exact ArrayKept.slotState (.of_same rfl rfl) _ _
  · exact .of_same rfl rfl

theorem arrayKept_replyFails (s : State) (p : Packet) : ArrayKept s (s.replyFails p) := by
  unfold State.replyFails
  split
  · split
    · exact (ArrayKept.refl s).ite (arrayKept_notifyFails s _ _)
    · exact .refl s
  · exact .refl s

theorem arrayKept_bounced (s : State) (q : Packet) (st : Nat) : ArrayKept s (s.bounced q st) := by
  have hlocal := (arrayKept_fabEvent s ((s.eidFacet q.src.toNat).getD 0) 0 3).ite (c := st = 3) (.refl s)
  refine ArrayKept.ite (.of_same rfl rfl) (ArrayKept.fab (ArrayKept.trans (ArrayKept.trans ?_
    (arrayKept_fabEvent _ _ _ _)) (arrayKept_replyFails _ _)) _)
  split
  · next g hg =>
    have := eidFacet_lt s _ g hg
    exact hlocal.setReg _ (by unfold Reg.FCNT_RET; omega)
  · exact hlocal

theorem arrayKept_sendOut (s : State) (q : Packet) : ArrayKept s (s.sendOut q) := by
  refine ArrayKept.ite (.of_same rfl rfl) ?_
  split
  · exact arrayKept_bounced s _ _
  · exact (arrayKept_egress s _).emit _

theorem arrayKept_mcNumber (s : State) (k n : Nat) : ArrayKept s (s.mcNumber k n) := by
  unfold State.mcNumber
  split
  · exact (ArrayKept.refl s).fab _
  · exact .refl s

theorem arrayKept_flowSend (s : State) (x : SendFlow) (p : Packet) : ArrayKept s (s.flowSend x p) :=
  (((arrayKept_mcNumber s _ _).ite (.refl s)).trans (.of_same rfl rfl)).trans (arrayKept_sendOut _ _)

theorem arrayKept_flowPut (s : State) (x : SendFlow) (p : Packet) : ArrayKept s (s.flowPut x p) :=
  ArrayKept.ite (.of_same rfl rfl) (arrayKept_flowSend s x p)

theorem arrayKept_flowEnter (s : State) (p : Packet) : ArrayKept s (s.flowEnter p) := by
  unfold State.flowEnter
  split
  · exact ArrayKept.ite (arrayKept_flowPut s _ _) ((ArrayKept.refl s).fab _)
  · exact arrayKept_flowPut s _ _

theorem arrayKept_expectAnswer (s : State) (p : Packet) : ArrayKept s (s.expectAnswer p) :=
  ArrayKept.ite (.of_same rfl rfl) (.refl s)

theorem arrayKept_sendBehind (s : State) (n : Nat) (p : Packet) : ArrayKept s (s.sendBehind n p) := by
  unfold State.sendBehind
  split
  · exact (ArrayKept.refl s).fab _
  · exact arrayKept_flowEnter s p

theorem arrayKept_unitSend (s : State) (p : Packet) : ArrayKept s (s.unitSend p) :=
  (arrayKept_expectAnswer s p).trans (arrayKept_sendBehind _ _ p)

/-! Replies, and the end of a facet's requests. -/

theorem arrayKept_writeEntry (s : State) (f n : Nat) (e : ReplyEntry) : ArrayKept s (s.writeEntry f n e) :=
  ((ArrayKept.refl s).setQp _ _).trans (arrayKept_unitSend _ _)

theorem arrayKept_reply (s : State) (f n : Nat) (e : ReplyEntry) : ArrayKept s (s.reply f n e) :=
  (arrayKept_writeEntry s f n e).ite ((ArrayKept.refl s).setQp _ _)

theorem arrayKept_notifyPair (s : State) (f n : Nat) : ArrayKept s (s.notifyPair f n) :=
  (ArrayKept.refl s).ite (((ArrayKept.refl s).setQp _ _).forEach (fun u _ => arrayKept_unitSend u _))

theorem arrayKept_notifyAll (s : State) (f : Nat) : ArrayKept s (s.notifyAll f) :=
  (ArrayKept.refl s).forEach (fun t n => arrayKept_notifyPair t f n)

theorem arrayKept_countFailed (s : State) {f : Nat} (st : Nat) (hf : f < 64) : ArrayKept s (s.countFailed f st) :=
  ArrayKept.ite ((ArrayKept.refl s).setReg _ (by unfold Reg.SES_ERR; omega)) (.refl s)

theorem arrayKept_endRequest (s : State) {f : Nat} (n st : Nat) (hf : f < 64) :
    ArrayKept s (s.endRequest f n st) := by
  have hev : ArrayKept s (if st = 0x16 then s.sesEvent f n 3 else if st = 0x17 then s.sesEvent f n 5
      else if st = 0x18 then s.sesEvent f n 1 else s) :=
    (arrayKept_sesEvent s f n 3).ite ((arrayKept_sesEvent s f n 5).ite ((arrayKept_sesEvent s f n 1).ite (.refl s)))
  unfold State.endRequest
  simp only
  generalize (ite (st = 0x16) _ _ : State) = u at hev ⊢
  split
  · exact ((hev.setQp _ _).trans (arrayKept_countFailed _ st hf)).trans (arrayKept_reply _ _ _ _)
  · exact hev.setQp _ _
  · exact hev

/-- The requests of a facet end and its slots stay with their pairs (R221). -/
theorem arrayKept_endAll (s : State) {f : Nat} (st : Nat) (hf : f < 64) : ArrayKept s (s.endAll f st false) := by
  have hdrop : ArrayKept s (s.dropSamples f) := .of_same rfl rfl
  refine (hdrop.forEach (fun t p => ?_)).trans (arrayKept_notifyAll _ f)
  have hend := (arrayKept_endRequest t (t.rf (Reg.SLOT_QP p) 17 0) st hf).ite
    (c := (t.slotState p != 0 && (t.qp (t.rf (Reg.SLOT_QP p) 17 0)).req.isSome) = true) (.refl t)
  simp only [Bool.false_eq_true, if_false]
  exact ((hend.setSlot _ _).slotState _ _).ite (hend.setSlot _ _)

theorem arrayKept_stopFacet (s : State) {f : Nat} (hf : f < 64) : ArrayKept s (s.stopFacet f) :=
  (ArrayKept.refl s).ite ((ArrayKept.of_same rfl rfl).trans
    ((ArrayKept.refl _).setReg _ (by unfold Reg.FACET_STAT; omega)))

/-- Firmware's stop of a facet does not reach into the array (R443). -/
theorem arrayKept_faultStop (s : State) {f : Nat} (hf : f < 64) : ArrayKept s (s.faultStop f) :=
  (arrayKept_endAll s _ hf).trans (arrayKept_stopFacet _ hf)

theorem regionFacet_lt (s : State) (r : Nat) : s.regionFacet r < 64 := fld_lt _ 29 24

/-- The messages of a command do not reach into the array. -/
theorem arrayKept_messages (b t : State) : ArrayKept t (State.messages b t) :=
  ⟨by simp, fun a i ha _ => by rw [messages_regionReg b t ha]⟩

/-! The registers of a block. -/

/-- CELL_STAT of a position of the block. -/
def isPositionStat (r b a : Nat) : Prop := ∃ p, p < 17 ∧ a = Reg.CELL_STAT r b p

theorem blkMap_not_positionStat : ¬isPositionStat r b (Reg.BLK_MAP r b) := by
  rintro ⟨p, -, h⟩
  unfold Reg.BLK_MAP Reg.CELL_STAT at h
  omega

theorem blkEvt_not_positionStat : ¬isPositionStat r b (Reg.BLK_EVT r b) := by
  rintro ⟨p, hp, h⟩
  unfold Reg.BLK_EVT Reg.CELL_STAT at h
  omega

theorem cellStat_inj {p q : Nat} : Reg.CELL_STAT r b p = Reg.CELL_STAT r b q ↔ p = q := by
  unfold Reg.CELL_STAT
  omega

theorem posKey_inj {p q : Nat} : posKey r b p = posKey r b q ↔ p = q := by
  unfold posKey
  omega

theorem blkMap_ge : 0x1000000 ≤ Reg.BLK_MAP r b := by unfold Reg.BLK_MAP; omega
theorem blkEvt_ge : 0x1000000 ≤ Reg.BLK_EVT r b := by unfold Reg.BLK_EVT; omega
theorem cellStat_ge {p : Nat} : 0x1000000 ≤ Reg.CELL_STAT r b p := by unfold Reg.CELL_STAT; omega
theorem blkEvt_ne_blkMap : Reg.BLK_EVT r b ≠ Reg.BLK_MAP r b := by unfold Reg.BLK_EVT Reg.BLK_MAP; omega

theorem RegsBut.setReg {p : Nat → Prop} (h : RegsBut p s t) {a : Nat} (v : Word) (ha : p a) :
    RegsBut p s (t.setReg a v) :=
  h.trans ((OnlyRegs.refl p t).setReg a v ha).2

/-- What a pass does for each of its elements, where no later step of it takes that back. -/
theorem forEach_each {α : Type} {f : State → α → State} (Q : α → State → Prop) (l : List α) (s : State)
    (hf : ∀ t x, Q x (f t x)) (hk : ∀ t x y, Q y t → Q y (f t x)) : ∀ x ∈ l, Q x (forEach l s f) := by
  induction l generalizing s with
  | nil => intro x hx; cases hx
  | cons a l ih =>
    intro x hx
    rcases List.mem_cons.mp hx with rfl | hx
    · exact foldl_keep (Q x) l f (f s x) (hf s x) (fun t y => hk t y x)
    · exact ih (f s a) x hx

/-- A pass over the positions of a block that writes CELL_STAT only changes no other register. -/
theorem regsBut_positions {f : State → Nat → State} (s : State)
    (hf : ∀ t p a, a ≠ Reg.CELL_STAT r b p → (f t p).reg a = t.reg a) :
    RegsBut (isPositionStat r b) s (forEach (List.range 17) s f) :=
  List.foldlRecOn (motive := RegsBut (isPositionStat r b) s) _ f (fun _ _ _ => rfl) (fun t h p hp a ha hb =>
    (hf t p a (fun e => ha ⟨p, List.mem_range.mp hp, e⟩)).trans (h a ha hb))

/-! The reset of the cells (R389). -/

/-- Position p of the block is reset and not isolated. -/
def PositionReset (r b p : Nat) (t : State) : Prop :=
  (t.cell (posKey r b p)).mode = .idle ∧ (t.cell (posKey r b p)).pend = none ∧ (t.cell (posKey r b p)).acc = [] ∧
  bit (t.reg (Reg.CELL_STAT r b p)) 0 = false

theorem resetCells_positionReset (s : State) (r b : Nat) :
    ∀ p ∈ List.range 17, PositionReset r b p (s.resetCells r b) := by
  have hset : ∀ (t : State) p, PositionReset r b p ((t.setCell (posKey r b p) { CellState.reset with
      store := (t.cell (posKey r b p)).store, progLen := (t.cell (posKey r b p)).progLen,
      progDigest := (t.cell (posKey r b p)).progDigest, dataDigest := (t.cell (posKey r b p)).dataDigest }).wf
        (Reg.CELL_STAT r b p) 0 0 0) := fun t p => by
    simp [PositionReset, CellState.reset, bit_setFld]
  refine forEach_each (PositionReset r b) _ s hset (fun t p q h => ?_)
  by_cases e : p = q
  · exact e ▸ hset t p
  · simpa [PositionReset, State.cell_setCell, State.reg_setReg, posKey_inj, cellStat_inj, e] using h

theorem resetCells_store (s : State) (r b k : Nat) : ((s.resetCells r b).cell k).store = (s.cell k).store :=
  foldl_same (fun u : State => (u.cell k).store) _ _ s (fun t p => by
    by_cases e : posKey r b p = k
    · simp [← e]
    · simp [State.cell_setCell, e])

theorem resetCells_same (s : State) (r b : Nat) :
    (s.resetCells r b).mem = s.mem ∧ (s.resetCells r b).facets = s.facets :=
  ⟨foldl_same State.mem _ _ s (fun _ _ => rfl), foldl_same State.facets _ _ s (fun _ _ => rfl)⟩

theorem regsBut_resetCells (s : State) (r b : Nat) : RegsBut (isPositionStat r b) s (s.resetCells r b) :=
  regsBut_positions s (fun t p a ha => by simp [State.reg_setReg, ha.symm])

/-! The reset of the block, before anything is mapped out or retired. -/

/-- The block's cells and its own state are reset, and the reset is counted and shown. -/
def State.clearBlock (s : State) (r b : Nat) : State :=
  (((s.resetCells r b).setBlock (8 * r + b) BlockState.reset).addSat Reg.LOC_BR 31 16 1).raise (Reg.BLK_EVT r b) 1

/-- The cleared block's row follows the fuses' position, else the stream's, else the position in force (R71). -/
def State.resetBlock (s : State) (r b : Nat) : State :=
  let u := s.clearBlock r b
  let m := Reg.BLK_MAP r b
  let active := if u.rf m 4 0 < 17 then u.rf m 4 0 else u.rf m 12 8
  u.wf m 20 16 (if active < 17 then active else u.rf m 20 16)

theorem clearBlock_map (s : State) (r b : Nat) : (s.clearBlock r b).reg (Reg.BLK_MAP r b) = s.reg (Reg.BLK_MAP r b) := by
  have hl : Reg.LOC_BR ≠ Reg.BLK_MAP r b := by unfold Reg.LOC_BR Reg.BLK_MAP; omega
  have hr := regsBut_resetCells s r b _ blkMap_not_positionStat (not_isPba_of_region blkMap_ge)
  simp [State.clearBlock, State.reg_setReg, blkEvt_ne_blkMap, hl, hr]

theorem resetBlock_retired (s : State) (r b : Nat) :
    bit ((s.resetBlock r b).reg (Reg.BLK_MAP r b)) 24 = bit (s.reg (Reg.BLK_MAP r b)) 24 := by
  simp [State.resetBlock, clearBlock_map, bit_setFld]

theorem resetBlock_event (s : State) (r b : Nat) : bit ((s.resetBlock r b).reg (Reg.BLK_EVT r b)) 1 = true := by
  simp [State.resetBlock, State.clearBlock, State.reg_setReg, blkEvt_ne_blkMap.symm, bit_or_bitW]

theorem resetBlock_block (s : State) (r b : Nat) : (s.resetBlock r b).block (8 * r + b) = BlockState.reset := by
  simp [State.resetBlock, State.clearBlock]

theorem resetBlock_store (s : State) (r b k : Nat) : ((s.resetBlock r b).cell k).store = (s.cell k).store := by
  simp [State.resetBlock, State.clearBlock, resetCells_store]

theorem resetBlock_same (s : State) (r b : Nat) :
    (s.resetBlock r b).mem = s.mem ∧ (s.resetBlock r b).facets = s.facets := by
  simp [State.resetBlock, State.clearBlock, resetCells_same]

theorem resetBlock_positionReset (s : State) (r b : Nat) {p : Nat} (hp : p < 17) :
    PositionReset r b p (s.resetBlock r b) := by
  have hl : Reg.LOC_BR ≠ Reg.CELL_STAT r b p := by unfold Reg.LOC_BR Reg.CELL_STAT; omega
  have hm : Reg.BLK_MAP r b ≠ Reg.CELL_STAT r b p := fun e => blkMap_not_positionStat ⟨p, hp, e⟩
  have he : Reg.BLK_EVT r b ≠ Reg.CELL_STAT r b p := fun e => blkEvt_not_positionStat ⟨p, hp, e⟩
  simpa [PositionReset, State.resetBlock, State.clearBlock, State.reg_setReg, hl, hm, he]
    using resetCells_positionReset s r b p (List.mem_range.mpr hp)

/-! The three outcomes of a block reset (R72). -/

section Outcomes

variable {clean : Bool} (h : bit (s.reg (Reg.BLK_MAP r b)) 24 = false)

include h

/-- No position has failed. -/
theorem blockReset_healthy (hb : (s.block (8 * r + b)).bad = []) : s.blockReset r b true = s.resetBlock r b := by
  simp only [State.blockReset, h, hb, Bool.false_eq_true, if_false, Bool.not_true]
  rfl

/-- One position has failed, and the spare is free. -/
theorem blockReset_remaps {p : Nat} (hb : (s.block (8 * r + b)).bad = [p]) (hk : 17 ≤ s.rf (Reg.BLK_MAP r b) 20 16) :
    s.blockReset r b true = ((s.resetBlock r b).mapOutPosition r b p).raise (Reg.BLK_EVT r b) 0 := by
  have hk' : ¬ (s.clearBlock r b).rf (Reg.BLK_MAP r b) 20 16 < 17 := by
    rw [State.rf, clearBlock_map]
    exact Nat.not_lt.mpr hk
  simp only [State.blockReset, h, hb, Bool.false_eq_true, if_false, Bool.not_true]
  exact if_neg hk'

/-- Anything else. -/
theorem blockReset_retires (hu : ¬(clean = true ∧ ((s.block (8 * r + b)).bad = [] ∨
      (s.block (8 * r + b)).bad.length = 1 ∧ 17 ≤ s.rf (Reg.BLK_MAP r b) 20 16))) :
    s.blockReset r b clean = (s.resetBlock r b).retireBlock r b := by
  cases clean with
  | false =>
    simp only [State.blockReset, h, Bool.false_eq_true, if_false, Bool.not_false, if_true]
    rfl
  | true =>
    simp only [State.blockReset, h, Bool.false_eq_true, if_false, Bool.not_true]
    split
    · next hb => exact absurd ⟨rfl, .inl hb⟩ hu
    · next p hb =>
      have hk : s.rf (Reg.BLK_MAP r b) 20 16 < 17 :=
        Nat.lt_of_not_le (fun hk => hu ⟨rfl, .inr ⟨by rw [hb]; rfl, hk⟩⟩)
      rw [State.rf, ← clearBlock_map] at hk
      exact if_pos hk
    · rfl

end Outcomes

/-! A position that is mapped out (R69). -/

theorem markLogical_same (s : State) (r b : Nat) :
    (s.markLogical r b).mem = s.mem ∧ (s.markLogical r b).blocks = s.blocks :=
  ⟨foldl_same State.mem _ _ s (fun _ _ => rfl), foldl_same State.blocks _ _ s (fun _ _ => rfl)⟩

theorem regsBut_markLogical (s : State) (r b : Nat) : RegsBut (isPositionStat r b) s (s.markLogical r b) :=
  regsBut_positions s (fun t p a ha => by simp [State.reg_setReg, ha.symm])

theorem retimeRegion_same (s : State) (r : Nat) :
    (s.retimeRegion r).mem = s.mem ∧ (s.retimeRegion r).blocks = s.blocks := by
  unfold State.retimeRegion
  simp only
  split
  · exact ⟨rfl, rfl⟩
  · exact ⟨rfl, rfl⟩

theorem regsBut_retimeRegion (s : State) (r : Nat) : RegsBut (· = Reg.REG_RETIME r) s (s.retimeRegion r) := by
  intro a ha _
  have ha' : Reg.REG_RETIME r ≠ a := Ne.symm ha
  unfold State.retimeRegion
  simp only
  split
  · rfl
  · simp [State.askRelock, State.reg_setReg, ha']

theorem mapOutPosition_same (s : State) (r b p : Nat) :
    (s.mapOutPosition r b p).mem = s.mem ∧ (s.mapOutPosition r b p).blocks = s.blocks := by
  obtain ⟨hm, hb⟩ := retimeRegion_same ((s.wf (Reg.BLK_MAP r b) 20 16 p).markLogical r b) r
  obtain ⟨hm', hb'⟩ := markLogical_same (s.wf (Reg.BLK_MAP r b) 20 16 p) r b
  exact ⟨Eq.trans (foldl_same State.mem _ _ _ (fun _ _ => rfl)) (hm.trans hm'),
    Eq.trans (foldl_same State.blocks _ _ _ (fun _ _ => rfl)) (hb.trans hb')⟩

/-- The row is mapped around the position. -/
theorem mapOutPosition_map (s : State) (r b p : Nat) :
    (s.mapOutPosition r b p).reg (Reg.BLK_MAP r b) = setFld (s.reg (Reg.BLK_MAP r b)) 20 16 p := by
  have hpba : ¬isPba (Reg.BLK_MAP r b) := not_isPba_of_region blkMap_ge
  have hne : Reg.BLK_MAP r b ≠ Reg.REG_RETIME r := by unfold Reg.BLK_MAP Reg.REG_RETIME; omega
  have hcells : (s.mapOutPosition r b p).reg (Reg.BLK_MAP r b) =
      (((s.wf (Reg.BLK_MAP r b) 20 16 p).markLogical r b).retimeRegion r).reg (Reg.BLK_MAP r b) :=
    foldl_same (fun u : State => u.reg (Reg.BLK_MAP r b)) _ _ _ (fun _ _ => rfl)
  rw [hcells, regsBut_retimeRegion _ r _ hne hpba, regsBut_markLogical _ r b _ blkMap_not_positionStat hpba,
    State.wf_eq, State.reg_setReg_self]

/-! A block that is retired (R72). -/

/-- The block reads RETIRED and escalated, and every position is isolated. -/
def State.isolateBlock (s : State) (r b : Nat) : State :=
  forEach (List.range 17) ((s.wf (Reg.BLK_MAP r b) 24 24 1).raise (Reg.BLK_EVT r b) 2) (fun t p =>
    (t.wf (Reg.CELL_STAT r b p) 0 0 1).setCell (posKey r b p) { t.cell (posKey r b p) with mode := .faulted })

/-- Position p is isolated. -/
def PositionIsolated (r b p : Nat) (t : State) : Prop :=
  (t.cell (posKey r b p)).mode = .faulted ∧ bit (t.reg (Reg.CELL_STAT r b p)) 0 = true

/-- What a retired block shows. -/
def BlockRetired (r b : Nat) (t : State) : Prop :=
  bit (t.reg (Reg.BLK_MAP r b)) 24 = true ∧ bit (t.reg (Reg.BLK_EVT r b)) 2 = true ∧
  ∀ p, p < 17 → PositionIsolated r b p t

theorem BlockRetired.arrayKept (h : BlockRetired r b s) (k : ArrayKept s t) : BlockRetired r b t := by
  obtain ⟨hm, he, hp⟩ := h
  obtain ⟨hc, hr⟩ := k
  refine ⟨(hr _ 24 blkMap_ge (by decide)).trans hm, (hr _ 2 blkEvt_ge (by decide)).trans he, fun p hlt => ?_⟩
  obtain ⟨hf, hs⟩ := hp p hlt
  exact ⟨by rw [State.cell, hc]; exact hf, (hr _ 0 cellStat_ge (by decide)).trans hs⟩

theorem isolateBlock_positionIsolated (s : State) (r b : Nat) :
    ∀ p ∈ List.range 17, PositionIsolated r b p (s.isolateBlock r b) := by
  have hset : ∀ (t : State) p, PositionIsolated r b p ((t.wf (Reg.CELL_STAT r b p) 0 0 1).setCell (posKey r b p)
      { t.cell (posKey r b p) with mode := .faulted }) := fun t p => by simp [PositionIsolated, bit_setFld]
  refine forEach_each (PositionIsolated r b) _ _ hset (fun t p q h => ?_)
  by_cases e : p = q
  · exact e ▸ hset t p
  · simpa [PositionIsolated, State.cell_setCell, State.reg_setReg, posKey_inj, cellStat_inj, e] using h

theorem regsBut_isolateBlock (s : State) (r b : Nat) :
    RegsBut (isPositionStat r b) ((s.wf (Reg.BLK_MAP r b) 24 24 1).raise (Reg.BLK_EVT r b) 2) (s.isolateBlock r b) :=
  regsBut_positions _ (fun t p a ha => by simp [State.reg_setReg, ha.symm])

theorem blockRetired_isolateBlock (s : State) (r b : Nat) : BlockRetired r b (s.isolateBlock r b) := by
  have hr := regsBut_isolateBlock s r b
  refine ⟨?_, ?_, fun p hp => isolateBlock_positionIsolated s r b p (List.mem_range.mpr hp)⟩
  · rw [hr _ blkMap_not_positionStat (not_isPba_of_region blkMap_ge)]
    simp [State.reg_setReg, blkEvt_ne_blkMap, bit_setFld]
  · rw [hr _ blkEvt_not_positionStat (not_isPba_of_region blkEvt_ge)]
    simp [bit_or_bitW]

theorem arrayKept_retireBlock (s : State) (r b : Nat) : ArrayKept (s.isolateBlock r b) (s.retireBlock r b) :=
  (arrayKept_faultStop _ (regionFacet_lt _ r)).ite (.refl _)

theorem blockRetired_retireBlock (s : State) (r b : Nat) : BlockRetired r b (s.retireBlock r b) :=
  (blockRetired_isolateBlock s r b).arrayKept (arrayKept_retireBlock s r b)

theorem exec_blockReset {r : Fin 64} {b : Fin 8} (clean : Bool) (hn : (s.block (8 * r.val + b.val)).needReset = true) :
    exec (.blockReset r b clean) s = finish s (s.blockReset r.val b.val clean) := by
  show finish s (if _ then _ else _) = _
  rw [if_pos hn]

/-! The outcomes after the command's messages. -/

theorem blockReset_restores (before s : State) (r b : Nat) :
    let t := State.messages before (s.resetBlock r b)
    t.block (8 * r + b) = BlockState.reset ∧
    (∀ p, p < 17 → (t.cell (posKey r b p)).mode = .idle ∧ (t.cell (posKey r b p)).pend = none ∧
      (t.cell (posKey r b p)).acc = [] ∧ (t.cell (posKey r b p)).store = (s.cell (posKey r b p)).store ∧
      bit (t.reg (Reg.CELL_STAT r b p)) 0 = false) ∧
    bit (t.reg (Reg.BLK_EVT r b)) 1 = true ∧ (∀ a, t.memByte a = s.memByte a) ∧ t.facets = s.facets := by
  obtain ⟨hmem, hfacets⟩ := resetBlock_same s r b
  refine ⟨?_, fun p hp => ?_, ?_, fun a => ?_, ?_⟩
  · simp [resetBlock_block]
  · obtain ⟨hmode, hpend, hacc, hstat⟩ := resetBlock_positionReset s r b hp
    simp [messages_regionReg _ _ cellStat_ge, hmode, hpend, hacc, hstat, resetBlock_store]
  · rw [messages_regionReg _ _ blkEvt_ge, resetBlock_event]
  · rw [messages_mem, State.memByte, hmem, State.memByte]
  · simp [hfacets]

theorem blockReset_mapsOut (before : State) (h : bit (s.reg (Reg.BLK_MAP r b)) 24 = false) {p : Nat} (hp : p < 17) :
    let t := State.messages before (((s.resetBlock r b).mapOutPosition r b p).raise (Reg.BLK_EVT r b) 0)
    fld (t.reg (Reg.BLK_MAP r b)) 20 16 = p ∧ bit (t.reg (Reg.BLK_MAP r b)) 24 = false ∧
    t.block (8 * r + b) = BlockState.reset ∧ bit (t.reg (Reg.BLK_EVT r b)) 0 = true ∧
    (∀ a, t.memByte a = s.memByte a) := by
  intro t
  obtain ⟨hmem, -⟩ := resetBlock_same s r b
  obtain ⟨hmem', hblocks⟩ := mapOutPosition_same (s.resetBlock r b) r b p
  have hmap : t.reg (Reg.BLK_MAP r b) = setFld ((s.resetBlock r b).reg (Reg.BLK_MAP r b)) 20 16 p := by
    rw [messages_regionReg _ _ blkMap_ge, State.raise_eq, State.reg_setReg, if_neg blkEvt_ne_blkMap,
      mapOutPosition_map]
  refine ⟨?_, ?_, ?_, ?_, fun a => ?_⟩
  · rw [hmap]
    exact fld_setFld_lt _ 20 16 p (by decide) (by omega)
  · rw [hmap, bit_setFld _ _ _ _ _ (by decide), if_neg (by decide), resetBlock_retired, h]
  · rw [← resetBlock_block s r b]
    simp [t, State.block, hblocks]
  · rw [messages_regionReg _ _ blkEvt_ge]
    simp [bit_or_bitW]
  · simp [t, State.memByte, hmem', hmem]

end BlockReset

/-- Settles O19: a block reset clears the block and then leaves it, remaps it or retires it. An unclean reset or a second
failed position retires it (log 41). -/
theorem cleanBlockResetRestoresItsCells : Obligations.CleanBlockResetRestoresItsCells := by
  unfold Obligations.CleanBlockResetRestoresItsCells
  intro r b clean s x m kept usable hn h
  simp only [exec_blockReset clean hn]
  refine ⟨?restores, ?mapsOut, ?retires⟩
  case restores =>
    rintro rfl hb
    rw [blockReset_healthy h hb]
    exact finish_does _ _ _ (blockReset_restores s s r.val b.val)
  case mapsOut =>
    rintro p rfl hb hp hk
    rw [blockReset_remaps h hb hk]
    exact finish_does _ _ _ (blockReset_mapsOut s h hp)
  case retires =>
    intro hu
    rw [blockReset_retires h hu]
    exact finish_does _ _ _ ((blockRetired_retireBlock _ _ _).arrayKept (arrayKept_messages _ _))

end Sys2Proof.Machine

namespace Sys2Proof.Machine

/-! Decode engines: the run that a RUN starts, and the blocks that it decodes (O25). -/

section DecodeEngines

variable {s t u : State}

/-! What stopping a facet leaves alone outside the session and fabric blocks. -/

/-- Only the units that a facet's requests and packets pass through, and the facets, changed; of the registers above the
fabric's, bits [27:0] are as before. A state may name a slot of any number; the write of its STATE, bits [30:28] of
SLOT_STAT, can land among those registers, above these bits. ArrayKept says as much of the cells and regions alone; the
engines' registers lie below theirs. -/
def StopKept (s t : State) : Prop :=
  t = { s with facets := t.facets, qps := t.qps, slots := t.slots, ses := t.ses, ports := t.ports, fab := t.fab,
               msf := t.msf, regs := t.regs, out := t.out } ∧
  ∀ a i, 0xA00000 ≤ a → i < 28 → bit (t.reg a) i = bit (s.reg a) i

namespace StopKept

theorem refl (s : State) : StopKept s s := ⟨rfl, fun _ _ _ _ => rfl⟩

theorem trans (h : StopKept s t) (k : StopKept t u) : StopKept s u := by
  obtain ⟨e, r⟩ := h
  obtain ⟨e', r'⟩ := k
  refine ⟨?_, fun a i ha hi => (r' a i ha hi).trans (r a i ha hi)⟩
  rw [e', e]

theorem engines (h : StopKept s t) : t.engines = s.engines := by rw [h.1]

theorem setReg (h : StopKept s t) {a : Nat} (v : Word) (ha : a < 0xA00000) : StopKept s (t.setReg a v) :=
  h.trans ⟨rfl, fun x i hx _ => by rw [State.reg_setReg, if_neg (by omega)]⟩

theorem slotState (h : StopKept s t) (p st : Nat) : StopKept s (t.setSlotState p st) := by
  refine h.trans ⟨rfl, fun x i _ hi => ?_⟩
  rw [State.setSlotState, State.wf_eq, State.reg_setReg]
  split
  · next e => rw [← e, bit_setFld _ _ _ _ _ (by omega), if_neg (by omega)]
  · rfl

theorem ite {c : Prop} [Decidable c] (h : StopKept s t) (k : StopKept s u) : StopKept s (if c then t else u) := by
  split
  · exact h
  · exact k

theorem raiseFirst (h : StopKept s t) {e f : Nat} (i v : Nat) (he : e < 0xA00000) (hf : f < 0xA00000) :
    StopKept s (t.raiseFirst e f i v) := ((h.setReg _ hf).ite h).setReg _ he

theorem fab (h : StopKept s t) (x : FabState) : StopKept s { t with fab := x } := h.trans ⟨rfl, fun _ _ _ _ => rfl⟩

theorem setQp (h : StopKept s t) (n : Nat) (x : QpState) : StopKept s (t.setQp n x) :=
  h.trans ⟨rfl, fun _ _ _ _ => rfl⟩

theorem setSlot (h : StopKept s t) (n : Nat) (x : SlotState) : StopKept s (t.setSlot n x) :=
  h.trans ⟨rfl, fun _ _ _ _ => rfl⟩

theorem setFacet (h : StopKept s t) (f : Nat) (x : FacetState) : StopKept s (t.setFacet f x) :=
  h.trans ⟨rfl, fun _ _ _ _ => rfl⟩

theorem forEach {α : Type} {l : List α} {f : State → α → State} (h : StopKept s t)
    (hf : ∀ u a, StopKept u (f u a)) : StopKept s (Machine.forEach l t f) :=
  forEach_keep (StopKept s) l t f h (fun u a hu => hu.trans (hf u a))

end StopKept

/-! Packets. -/

theorem stopKept_sesEvent (s : State) (f n i : Nat) : StopKept s (s.sesEvent f n i) :=
  (StopKept.refl s).raiseFirst _ _ (by decide) (by decide)

theorem stopKept_fabEvent (s : State) (f p i : Nat) : StopKept s (s.fabEvent f p i) :=
  (StopKept.refl s).raiseFirst _ _ (by decide) (by decide)

theorem stopKept_egress (s : State) (q : Packet) : StopKept s (s.egress q) := by
  unfold State.egress State.leave
  split
  · exact (StopKept.refl s).fab _
  · split
    · next p hp =>
      have hlt := choosePort_lt s _ q p hp
      have hm : StopKept s (s.count (Reg.PFAB_MARK p) 1) :=
        (StopKept.refl s).setReg _ (by unfold Reg.PFAB_MARK; omega)
      exact (hm.ite (.refl s)).trans ⟨rfl, fun _ _ _ _ => rfl⟩
    · exact (StopKept.refl s).fab _

theorem stopKept_replyFails (s : State) (p : Packet) : StopKept s (s.replyFails p) := by
  have fails : ∀ f n, StopKept s (s.notifyFails f n) := fun f n => by
    unfold State.notifyFails
    refine StopKept.trans ?_ (stopKept_sesEvent _ f n 6)
    split
    · exact StopKept.slotState ⟨rfl, fun _ _ _ _ => rfl⟩ _ _
    · exact ⟨rfl, fun _ _ _ _ => rfl⟩
  unfold State.replyFails
  split
  · split
    · exact (StopKept.refl s).ite (fails _ _)
    · exact .refl s
  · exact .refl s

theorem stopKept_bounced (s : State) (q : Packet) (st : Nat) : StopKept s (s.bounced q st) := by
  have hlocal := (stopKept_fabEvent s ((s.eidFacet q.src.toNat).getD 0) 0 3).ite (c := st = 3) (.refl s)
  refine StopKept.ite ((StopKept.refl s).fab _) (StopKept.fab (StopKept.trans (StopKept.trans ?_
    (stopKept_fabEvent _ _ _ _)) (stopKept_replyFails _ _)) _)
  split
  · next g hg =>
    have hlt := eidFacet_lt s _ g hg
    exact hlocal.setReg _ (by unfold Reg.FCNT_RET; omega)
  · exact hlocal

theorem stopKept_sendOut (s : State) (q : Packet) : StopKept s (s.sendOut q) := by
  refine StopKept.ite ⟨rfl, fun _ _ _ _ => rfl⟩ ?_
  split
  · exact stopKept_bounced s _ _
  · exact (stopKept_egress s _).trans ⟨rfl, fun _ _ _ _ => rfl⟩

theorem stopKept_flowPut (s : State) (x : SendFlow) (p : Packet) : StopKept s (s.flowPut x p) := by
  have hnumber : ∀ k n, StopKept s (s.mcNumber k n) := fun k n => by
    unfold State.mcNumber
    split
    · exact (StopKept.refl s).fab _
    · exact .refl s
  exact StopKept.ite ((StopKept.refl s).fab _)
    ((((hnumber _ _).ite (.refl s)).fab _).trans (stopKept_sendOut _ _))

theorem stopKept_flowEnter (s : State) (p : Packet) : StopKept s (s.flowEnter p) := by
  unfold State.flowEnter
  split
  · exact StopKept.ite (stopKept_flowPut s _ _) ((StopKept.refl s).fab _)
  · exact stopKept_flowPut s _ _

theorem stopKept_unitSend (s : State) (p : Packet) : StopKept s (s.unitSend p) := by
  have hasked : StopKept s (s.expectAnswer p) := StopKept.ite ⟨rfl, fun _ _ _ _ => rfl⟩ (.refl s)
  refine hasked.trans ?_
  unfold State.unitSend State.sendBehind
  split
  · exact (StopKept.refl _).fab _
  · exact stopKept_flowEnter _ p

/-! Replies, and the end of a facet's requests. -/

theorem stopKept_reply (s : State) (f n : Nat) (e : ReplyEntry) : StopKept s (s.reply f n e) :=
  (((StopKept.refl s).setQp _ _).trans (stopKept_unitSend _ _)).ite ((StopKept.refl s).setQp _ _)

theorem stopKept_notifyAll (s : State) (f : Nat) : StopKept s (s.notifyAll f) :=
  (StopKept.refl s).forEach (fun t _ =>
    (StopKept.refl t).ite (((StopKept.refl t).setQp _ _).forEach (fun u _ => stopKept_unitSend u _)))

theorem stopKept_endRequest (s : State) {f : Nat} (n st : Nat) (hf : f < 64) : StopKept s (s.endRequest f n st) := by
  have hev : StopKept s (if st = 0x16 then s.sesEvent f n 3 else if st = 0x17 then s.sesEvent f n 5
      else if st = 0x18 then s.sesEvent f n 1 else s) :=
    (stopKept_sesEvent s f n 3).ite ((stopKept_sesEvent s f n 5).ite ((stopKept_sesEvent s f n 1).ite (.refl s)))
  have hcount : ∀ v : State, StopKept v (v.countFailed f st) := fun v =>
    StopKept.ite ((StopKept.refl v).setReg _ (by unfold Reg.SES_ERR; omega)) (.refl v)
  unfold State.endRequest
  simp only
  generalize (ite (st = 0x16) _ _ : State) = v at hev ⊢
  split
  · exact ((hev.setQp _ _).trans (hcount _)).trans (stopKept_reply _ _ _ _)
  · exact hev.setQp _ _
  · exact hev

theorem stopKept_endAll (s : State) {f : Nat} (st : Nat) (hf : f < 64) : StopKept s (s.endAll f st false) := by
  have hdrop : StopKept s (s.dropSamples f) := ⟨rfl, fun _ _ _ _ => rfl⟩
  refine (hdrop.forEach (fun t p => ?_)).trans (stopKept_notifyAll _ f)
  have hend := (stopKept_endRequest t (t.rf (Reg.SLOT_QP p) 17 0) st hf).ite
    (c := (t.slotState p != 0 && (t.qp (t.rf (Reg.SLOT_QP p) 17 0)).req.isSome) = true) (.refl t)
  simp only [Bool.false_eq_true, if_false]
  exact ((hend.setSlot _ _).slotState _ _).ite (hend.setSlot _ _)

/-- Firmware's stop of a facet (R443). -/
theorem stopKept_faultStop (s : State) {f : Nat} (hf : f < 64) : StopKept s (s.faultStop f) :=
  (stopKept_endAll s _ hf).trans ((StopKept.refl _).ite
    (((StopKept.refl _).setFacet _ _).setReg _ (by unfold Reg.FACET_STAT; omega)))

/-- So is the void of its step at an address that it has met. -/
theorem stopKept_metVoid (s : State) (f key : Nat) : StopKept s ((s.meet f key).voidStep f false) := by
  have hmet : StopKept s (s.meet f key) := (StopKept.refl s).setFacet _ _
  exact (hmet.setFacet _ _).ite hmet

/-! The event of a descriptor that fails (R92). -/

/-- The engines are those of E, and die d shows a descriptor or block error. -/
def ErrorShown (d : Nat) (E : Tbl EngineState) (t : State) : Prop :=
  t.engines = E ∧ bit (t.reg (Reg.EBW_EVT d)) 0 = true

namespace ErrorShown

variable {d : Nat} {E : Tbl EngineState}

theorem of_raise (h : t.engines = E) : ErrorShown d E (t.raise (Reg.EBW_EVT d) 0) := by
  refine ⟨h, ?_⟩
  rw [State.raise_eq, State.reg_setReg_self, bit_or_bitW _ _ _ (by decide)]
  simp

theorem raise (h : ErrorShown d E t) (i : Nat) : ErrorShown d E (t.raise (Reg.EBW_EVT d) i) := by
  obtain ⟨he, hb⟩ := h
  refine ⟨he, ?_⟩
  rw [State.raise_eq, State.reg_setReg_self, bit_or_bitW _ _ _ (by decide), hb, Bool.true_or]

theorem setReg (h : ErrorShown d E t) {a : Nat} (v : Word) (ha : a ≠ Reg.EBW_EVT d) :
    ErrorShown d E (t.setReg a v) := by
  obtain ⟨he, hb⟩ := h
  exact ⟨he, by rw [State.reg_setReg, if_neg ha, hb]⟩

theorem stopKept (h : ErrorShown d E t) (k : StopKept t u) : ErrorShown d E u := by
  obtain ⟨he, hb⟩ := h
  exact ⟨k.engines.trans he, (k.2 _ 0 (by unfold Reg.EBW_EVT; omega) (by decide)).trans hb⟩

end ErrorShown

/-- An error that is not of memory itself leaves the engines alone and raises the event, also where firmware then stops
the facet (R94, R95). -/
theorem errorShown_ebwError (s : State) (e blk addr : Nat) {cause : Nat} (hc : cause ≠ 8)
    (hf : (s.engine e).facet < 64) : ErrorShown (e / 512) s.engines (s.ebwError e cause blk addr) := by
  have hcnt : Reg.EBW_CNT (e / 512) ≠ Reg.EBW_EVT (e / 512) := by unfold Reg.EBW_CNT Reg.EBW_EVT; omega
  unfold State.ebwError
  simp only [if_neg hc]
  generalize hv : (ite (s.rf (Reg.EBW_EVT (e / 512)) 1 0 = 0) _ _ : State) = v
  have hve : v.engines = s.engines := by
    rw [← hv]
    split <;> rfl
  have hev : ErrorShown (e / 512) s.engines
      ((v.raise (Reg.EBW_EVT (e / 512)) 0).addSat (Reg.EBW_CNT (e / 512)) 15 0 1) :=
    (ErrorShown.of_raise hve).setReg _ hcnt
  generalize (v.raise _ 0).addSat _ 15 0 1 = w at hev ⊢
  split
  · exact hev.raise 2
  · have hvoid := hev.stopKept (stopKept_metVoid w (s.engine e).facet (metKey false addr))
    split
    · exact ((hvoid.raise 3).stopKept (stopKept_faultStop _ hf)).stopKept ((StopKept.refl _).setFacet _ _)
    · exact hvoid

/-! The start of a run (R81, R89, R92). -/

/-- The pending bits of interrupt messages lie below every register of a unit. -/
theorem messages_unitReg (b t : State) {a : Nat} (ha : 0x100000 ≤ a) : (State.messages b t).reg a = t.reg a :=
  messages_reg b t a (fun hp => absurd (pba_lt hp) (Nat.not_lt.mpr ha))

theorem exec_run {f : Fin 64} {engine : BitVec 12} {tensor : BitVec 16} {run dest : Word} {rec : TensorRec}
    (ht : (s.kcs f.val).tensors[tensor.toNat]? = some rec) (hb : s.regionBound (engine.toNat / 64) = true)
    (hf : s.regionFacet (engine.toNat / 64) = f.val)
    (hs : s.scheduled f.val 1 (leBytes 2 engine.toNat ++ leBytes 2 tensor.toNat ++ leBytes 4 run.toNat ++
      leBytes 4 dest.toNat) (some (engine.toNat / 64)) = true) :
    exec (.run f engine tensor run dest) s =
      finish s (s.startRun f.val engine.toNat rec run.toNat (runDest dest)) := by
  show execRun f engine tensor run dest s = _
  simp only [execRun, ht]
  rw [if_pos ⟨hb, hf, hs⟩]

/-- A run of a good tensor sets its engine, and that is all. -/
theorem startRun_good {f e j dest : Nat} {rec : TensorRec} (hok : s.tensorGood f rec.dpa (s.readMem rec.dpa 48) = true)
    (h0 : ¬(j = 0 ∧ (if j < runCount (s.readMem rec.dpa 48) then s.indexEntry rec.dpa j else 0) ≠ 0)) :
    s.startRun f e rec j dest =
      let d := s.readMem rec.dpa 48
      let from_ := if j < runCount d then s.indexEntry rec.dpa j else 0
      let to_ := if j + 1 < runCount d then s.indexEntry rec.dpa (j + 1) else descUnits d
      s.setEngine e ⟨decide (0 < min 64 (descBlocks d - 64 * j)), dest, f, d, min 64 (descBlocks d - 64 * j),
        to_ - from_, 64 * j, rec.dpa + 48 + indexBytes d + 16 * from_, dest, false⟩ := by
  have h0' : (j == 0 && (if j < runCount (s.readMem rec.dpa 48) then s.indexEntry rec.dpa j else 0) != 0) = false := by
    simpa using h0
  simp only [State.startRun, hok, if_true, Bool.true_and, decide_eq_true_eq, h0', Bool.not_true, Bool.or_self,
    Bool.false_eq_true, if_false]

/-- A run that is set, after the messages. -/
theorem setEngine_shown (before s : State) (e : Nat) (x : EngineState) :
    let t := State.messages before (s.setEngine e x)
    t.engine e = x ∧ t = { s with engines := t.engines, regs := t.regs, out := t.out } ∧
    RegsBut (fun _ => False) s t := by
  intro t
  refine ⟨by simp [t], ?_, fun a _ ha => messages_reg before _ a ha⟩
  rw [show t = _ from messages_fields before _]
  rfl

/-- A tensor that fails leaves a run of zeros by the stream's own descriptor, and its error (log 46). -/
theorem startRun_failed {f e j dest : Nat} {rec : TensorRec}
    (hok : s.tensorGood f rec.dpa (s.readMem rec.dpa 48) = false) :
    ∃ x : EngineState, s.startRun f e rec j dest = (s.setEngine e x).ebwError e 9 (64 * j) rec.dpa ∧
      x.active = decide (64 * j < descBlocks rec.desc) ∧ x.zero = true ∧ x.desc = rec.desc ∧ x.facet = f := by
  simp only [State.startRun, hok, Bool.false_eq_true, if_false, Bool.not_false, if_true]
  refine ⟨_, rfl, ?_, rfl, rfl, rfl⟩
  exact decide_eq_decide.mpr (by omega)

/-- That run of zeros and its event, after the messages. -/
theorem startRun_failed_shown {f e j dest : Nat} {rec : TensorRec} (hf : f < 64) (before : State)
    (hok : s.tensorGood f rec.dpa (s.readMem rec.dpa 48) = false) :
    let t := State.messages before (s.startRun f e rec j dest)
    (t.engine e).active = decide (64 * j < descBlocks rec.desc) ∧ (t.engine e).zero = true ∧
    (t.engine e).desc = rec.desc ∧ bit (t.reg (Reg.EBW_EVT (e / 512))) 0 = true := by
  obtain ⟨x, hx, hactive, hzero, hdesc, hfacet⟩ := startRun_failed (e := e) (j := j) (dest := dest) hok
  have hself : (s.setEngine e x).engine e = x := State.engine_setEngine_self s e x
  obtain ⟨he, hev⟩ := errorShown_ebwError (s.setEngine e x) e (64 * j) rec.dpa (cause := 9) (by decide)
    (by rw [hself, hfacet]; exact hf)
  have hengine : ((s.setEngine e x).ebwError e 9 (64 * j) rec.dpa).engine e = x := by
    rw [State.engine, he]
    exact hself
  have hge : 0x100000 ≤ Reg.EBW_EVT (e / 512) := by unfold Reg.EBW_EVT; omega
  simp only [messages_reads, messages_unitReg _ _ hge, hx, hengine]
  exact ⟨hactive, hzero, hdesc, hev⟩

/-! The blocks of a run (R84 to R89, R93, R136). -/

section Engine

variable {engine : BitVec 12} (found : List ScrubFound) (ha : (s.engine engine.toNat).active = true)
  (hf : s.frozenRegion (engine.toNat / 64) = false)

include ha hf

/-- An engine with a run, in a region that is not frozen, acts on its block or stalls the region. -/
theorem exec_ebwBlockDecode (block : BlockFetch) : exec (.ebwBlockDecode engine block) s =
    finish s (if block.ready then
        (if (s.engine engine.toNat).zero then s else s.blockFinds (s.engine engine.toNat).facet
          (s.engine engine.toNat).addr block.found).engineBlock engine.toNat
      else s.stallRegion (engine.toNat / 64) (.engine engine.toNat)) := by
  show finish s (ite (_ ∨ _) _ _) = _
  rw [if_neg (by simp [ha, hf])]

/-- A block that is ready is decoded in the state u that its read of memory leaves. -/
theorem exec_ebwBlockDecode_ready (hu : (if (s.engine engine.toNat).zero then s
      else s.blockFinds (s.engine engine.toNat).facet (s.engine engine.toNat).addr found) = u) :
    exec (.ebwBlockDecode engine ⟨true, found⟩) s = finish s (u.engineBlock engine.toNat) := by
  rw [exec_ebwBlockDecode ha hf, if_pos rfl, hu]

theorem exec_ebwBlockDecode_waits : exec (.ebwBlockDecode engine ⟨false, found⟩) s =
    finish s (s.stallRegion (engine.toNat / 64) (.engine engine.toNat)) := by
  rw [exec_ebwBlockDecode ha hf, if_neg (by simp)]

end Engine

/-- The run after a block of n units (R88, R93). -/
def EngineState.nextBlock (y : EngineState) (n : Nat) : EngineState :=
  { y with active := decide (1 < y.blocksLeft), blocksLeft := y.blocksLeft - 1, unitsLeft := y.unitsLeft - n,
           block := y.block + 1, addr := y.addr + 16 * n, dest := y.dest + 256 * widthOf (descFmt y.desc) / 8 }

/-- A run of zeros writes them, and reads no unit. -/
theorem engineBlock_zeros {e : Nat} (hz : (u.engine e).zero = true) :
    u.engineBlock e = ((u.countWrap (Reg.EBW_BLOCKS (e / 512)) 1).writeStaging (u.engine e).dest
      (zeros (256 * widthOf (descFmt (u.engine e).desc) / 8))).setEngine e ((u.engine e).nextBlock 0) := by
  simp only [State.engineBlock, hz, if_true, Bool.true_or]
  congr 1
  rw [← hz]
  rfl

/-- The slices of a facet are shown below the engines' registers. -/
theorem inSlices_setReg (s : State) (f a n : Nat) {b : Nat} (v : Word) (hb : 0xD20500 ≤ b) :
    (s.setReg b v).inSlices f a n = s.inSlices f a n := by
  have hslice : ∀ k, (s.setReg b v).sliceBound f k = s.sliceBound f k := fun k => by
    by_cases hk : k < 320
    · have hne : b ≠ Reg.SLICE_STAT k := by unfold Reg.SLICE_STAT; omega
      simp only [State.sliceBound, State.sliceState, State.sliceFacet, State.rf, State.reg_setReg, if_neg hne]
    · simp [State.sliceBound, hk]
  simp only [State.inSlices, hslice]

theorem blockBad_setReg (s : State) (f a : Nat) {b : Nat} (v : Word) (hb : 0xD20500 ≤ b) :
    (s.setReg b v).blockBad f a = s.blockBad f a := by
  simp only [State.blockBad, inSlices_setReg s f a _ v hb]
  rfl

/-- A good block is written in the run's format. -/
theorem engineBlock_decodes {e : Nat} (hz : (u.engine e).zero = false)
    (hb : u.blockBad (u.engine e).facet (u.engine e).addr = false) {out : BlockOut}
    (ho : decodeBlock (u.engine e).desc (u.readMem (u.engine e).addr 272) (u.engine e).unitsLeft
      ((u.engine e).blocksLeft == 1) = out) (hc : out.cause = 0) :
    u.engineBlock e =
      (((u.countWrap (Reg.EBW_BLOCKS (e / 512)) 1).addSat (Reg.EBW_CNT (e / 512)) 31 16 out.sat).writeStaging
        (u.engine e).dest (blockBytes (u.engine e).desc out.weights)).setEngine e ((u.engine e).nextBlock out.len) := by
  have hb' : (u.countWrap (Reg.EBW_BLOCKS (e / 512)) 1).blockBad (u.engine e).facet (u.engine e).addr = false :=
    (blockBad_setReg u _ _ _ (by unfold Reg.EBW_BLOCKS; omega)).trans hb
  have ho' : decodeBlock (u.engine e).desc ((u.countWrap (Reg.EBW_BLOCKS (e / 512)) 1).readMem (u.engine e).addr 272)
      (u.engine e).unitsLeft ((u.engine e).blocksLeft == 1) = out := ho
  simp only [State.engineBlock, hz, hb', ho', hc, Bool.false_eq_true, if_false, if_true]
  congr 1
  rw [EngineState.nextBlock, hz]
  rfl

/-- What a block writes stands after the messages, where the counts of its die alone make the state w before it. -/
theorem blockWritten {w : State} {e : Nat} (before : State) (b : Bytes) (x : EngineState)
    (hw : w = { u with regs := w.regs })
    (hn : w.reg (Reg.EBW_BLOCKS (e / 512)) = u.reg (Reg.EBW_BLOCKS (e / 512)) + 1) (dest : Nat) :
    let t := State.messages before ((w.writeStaging dest b).setEngine e x)
    ((∀ n, tget 0 t.staging n = tget 0 (putBytes u.staging dest b) n) ∧
      t.reg (Reg.EBW_BLOCKS (e / 512)) = u.reg (Reg.EBW_BLOCKS (e / 512)) + 1 ∧
      t = { u with engines := t.engines, staging := t.staging, regs := t.regs, out := t.out }) ∧ t.engine e = x := by
  intro t
  refine ⟨⟨fun n => ?_, ?_, ?_⟩, by simp [t]⟩
  · simp only [t, messages_same, State.setEngine_fields]
    rw [hw]
    rfl
  · rw [messages_unitReg _ _ (by unfold Reg.EBW_BLOCKS; omega)]
    exact hn
  · rw [show t = _ from messages_fields before _, hw]
    rfl

theorem blocks_countWrap (u : State) (d : Nat) :
    (u.countWrap (Reg.EBW_BLOCKS d) 1).reg (Reg.EBW_BLOCKS d) = u.reg (Reg.EBW_BLOCKS d) + 1 :=
  State.reg_setReg_self u _ _

/-- The count of saturations is a register of its own. -/
theorem blocks_addSat (u : State) (d hi lo n : Nat) :
    (u.addSat (Reg.EBW_CNT d) hi lo n).reg (Reg.EBW_BLOCKS d) = u.reg (Reg.EBW_BLOCKS d) := by
  rw [State.addSat_eq, State.reg_setReg, if_neg (by unfold Reg.EBW_CNT Reg.EBW_BLOCKS; omega)]

/-- A region that waits for an engine is stalled (R136). -/
theorem stallRegion_shown (before s : State) (r : Nat) (why : Stall) :
    let t := State.messages before (s.stallRegion r why)
    bit (t.reg (Reg.REG_STAT r)) 19 = true ∧ (t.region r).stalls.contains why = true ∧ t.engines = s.engines := by
  have hge : 0x1000000 ≤ Reg.REG_STAT r := by unfold Reg.REG_STAT; omega
  refine ⟨?_, ?_, by simp [State.stallRegion]⟩
  · rw [messages_regionReg _ _ hge, State.stallRegion, State.wf_eq, State.reg_setReg_self,
      bit_setFld _ _ _ _ _ (by decide)]
    rfl
  · simp only [messages_reads, State.stallRegion, State.wf_eq, State.setReg_reads, State.region_setRegion_self]
    split
    · next h => exact h
    · simp

end DecodeEngines

/-- Settles O25: a RUN sets its engine, in place of a run that is active, or leaves a run of zeros by the stream's own
descriptor where the one in memory fails (both log 46); a block that is ready is written and counted, and one that is not
stalls the region. -/
theorem decodeEnginesRunBlockByBlock : Obligations.DecodeEnginesRunBlockByBlock := by
  unfold Obligations.DecodeEnginesRunBlockByBlock
  intro f engine tensor run dest found rec s e d j from_ to_ args x u y size out nextBlock wrote
  have hu : (if x.zero then s else s.blockFinds x.facet x.addr found) = u := rfl
  have hout : decodeBlock y.desc (u.readMem y.addr 272) y.unitsLeft (y.blocksLeft == 1) = out := rfl
  clear_value u out
  refine ⟨fun ht hb hf hs => ⟨fun hok h0 => ?good, fun hok => ?failed⟩,
    fun ha hf => ⟨fun hz hbad hc => ?decodes, fun hz => ?zeros, ?stalls⟩⟩
  case good =>
    rw [exec_run ht hb hf hs, startRun_good hok h0]
    exact finish_does _ _ _ (setEngine_shown s s _ _)
  case failed =>
    rw [exec_run ht hb hf hs]
    exact finish_does _ _ _ (startRun_failed_shown f.isLt s hok)
  case decodes =>
    rw [exec_ebwBlockDecode_ready found ha hf hu, engineBlock_decodes hz hbad hout hc]
    exact finish_does _ _ _ (blockWritten s _ _ rfl ((blocks_addSat _ _ _ _ _).trans (blocks_countWrap u _)) _)
  case zeros =>
    rw [exec_ebwBlockDecode_ready found ha hf hu, engineBlock_zeros hz]
    exact finish_does _ _ _ (blockWritten s _ _ rfl (blocks_countWrap u _) _)
  case stalls =>
    rw [exec_ebwBlockDecode_waits found ha hf]
    exact finish_does _ _ _ (stallRegion_shown s s _ _)

end Sys2Proof.Machine

namespace Sys2Proof.Machine

/-! The loader's commands (O37). -/

section Loader

variable {s t u : State} {f g : Nat} {p : Nat → Prop}

/-! The loader's registers. -/

theorem facetStat_inj : Reg.FACET_STAT f = Reg.FACET_STAT g ↔ f = g := by
  unfold Reg.FACET_STAT
  omega

/-- FACET_STAT lies above every register of the loader itself. -/
theorem facetStat_ge : 0x600100 ≤ Reg.FACET_STAT f := by
  unfold Reg.FACET_STAT
  omega

theorem cfg_ne_facetStat {a : Nat} (h : a < 0x600100) : a ≠ Reg.FACET_STAT f :=
  Nat.ne_of_lt (Nat.lt_of_lt_of_le h facetStat_ge)

theorem not_isPba_of_unit {a : Nat} (h : 0x100000 ≤ a) : ¬isPba a := fun hp => absurd (pba_lt hp) (Nat.not_lt.mpr h)

theorem not_isPba_facetStat : ¬isPba (Reg.FACET_STAT f) :=
  not_isPba_of_unit (Nat.le_trans (by decide) facetStat_ge)

/-! The frame of a command on one facet. -/

theorem OnlyFacet.refl (f : Nat) (p : Nat → Prop) (s : State) : OnlyFacet f p s s :=
  ⟨rfl, fun _ _ => rfl, fun _ _ _ => rfl⟩

theorem OnlyFacet.trans (h : OnlyFacet f p s t) (k : OnlyFacet f p t u) : OnlyFacet f p s u := by
  obtain ⟨e, hf, hr⟩ := h
  obtain ⟨e', hf', hr'⟩ := k
  refine ⟨?_, fun g hg => (hf' g hg).trans (hf g hg), hr.trans hr'⟩
  rw [e', e]

theorem OnlyFacet.setReg (h : OnlyFacet f p s t) {a : Nat} (v : Word) (ha : p a) : OnlyFacet f p s (t.setReg a v) :=
  h.trans ⟨rfl, fun _ _ => rfl, ((OnlyRegs.refl p t).setReg a v ha).2⟩

theorem OnlyFacet.setFacet (h : OnlyFacet f p s t) (x : FacetState) : OnlyFacet f p s (t.setFacet f x) :=
  h.trans ⟨rfl, fun _ hg => (State.facet_setFacet t _ _ _).trans (if_neg hg.symm), fun _ _ _ => rfl⟩

theorem OnlyFacet.loader (h : OnlyFacet f p s t) (l : LoaderState) : OnlyFacet f p s { t with loader := l } :=
  h.trans ⟨rfl, fun _ _ => rfl, fun _ _ _ => rfl⟩

theorem OnlyFacet.messages (h : OnlyFacet f p s t) (b : State) : OnlyFacet f p s (State.messages b t) := by
  refine h.trans ⟨?_, fun g _ => by simp, fun a _ ha => messages_reg b t a ha⟩
  rw [messages_fields b t]

theorem OnlyFacet.cfgRefuse (h : OnlyFacet f p s t) (g code sec at_ : Nat) (h1 : p Reg.CFG_RESULT)
    (h2 : p Reg.CFG_RESULT_AT) (h3 : p Reg.CFG_EVT) : OnlyFacet f p s (t.cfgRefuse g code sec at_) :=
  ((h.setReg _ h1).setReg _ h2).setReg _ h3

/-- The loader's own registers are outside the frame of a command on a facet's row. -/
theorem OnlyFacet.facetState_ne (h : OnlyFacet f (fun z => z = Reg.FACET_STAT f) s t) (hg : g ≠ f) :
    t.facetState g = s.facetState g := by
  have hr := h.2.2 (Reg.FACET_STAT g) (fun e => hg (facetStat_inj.mp e)) not_isPba_facetStat
  rw [State.facetState, State.rf, hr]
  rfl

/-! A facet's state and the state of its stage, in FACET_STAT. -/

/-- The stage field of FACET_STAT (R247, R258). -/
def State.stageShown (s : State) (f : Nat) : Nat := fld (s.reg (Reg.FACET_STAT f)) 28 27

@[simp] theorem facetState_setFacet (s : State) (g : Nat) (x : FacetState) :
    (s.setFacet g x).facetState f = s.facetState f := rfl

theorem facetState_setFacetState (s : State) {n : Nat} (h : n < 8) : (s.setFacetState f n).facetState f = n := by
  rw [State.facetState, State.rf, State.setFacetState, State.wf_eq, State.reg_setReg_self]
  exact fld_setFld_lt _ _ _ _ (by decide) h

@[simp] theorem facet_setFacetState (s : State) (f n : Nat) : (s.setFacetState f n).facet g = s.facet g := rfl

@[simp] theorem facet_setStage (s : State) (f n : Nat) : (s.setStage f n).facet g = s.facet g := rfl

@[simp] theorem facetState_setStage (s : State) (n : Nat) : (s.setStage f n).facetState f = s.facetState f := by
  rw [State.facetState, State.rf, State.setStage, State.wf_eq, State.reg_setReg_self]
  exact fld_setFld_ne _ _ _ _ _ _ (by decide) (.inr (by decide))

theorem stageShown_setStage (s : State) {n : Nat} (h : n < 4) : (s.setStage f n).stageShown f = n := by
  rw [State.stageShown, State.setStage, State.wf_eq, State.reg_setReg_self]
  exact fld_setFld_lt _ _ _ _ (by decide) h

@[simp] theorem messages_facetState (b t : State) : (State.messages b t).facetState f = t.facetState f := by
  rw [State.facetState, State.rf, messages_reg b t _ not_isPba_facetStat]
  rfl

@[simp] theorem messages_stageShown (b t : State) : (State.messages b t).stageShown f = t.stageShown f := by
  rw [State.stageShown, messages_reg b t _ not_isPba_facetStat]
  rfl

/-! Refusals (R255, R256, R258). -/

theorem cfgRefuse_reg (s : State) (g code sec at_ : Nat) {a : Nat} (h : 0x600100 ≤ a) :
    (s.cfgRefuse g code sec at_).reg a = s.reg a := by
  have h1 : Reg.CFG_RESULT ≠ a := by unfold Reg.CFG_RESULT; omega
  have h2 : Reg.CFG_RESULT_AT ≠ a := by unfold Reg.CFG_RESULT_AT; omega
  have h3 : Reg.CFG_EVT ≠ a := by unfold Reg.CFG_EVT; omega
  simp [State.cfgRefuse, State.reg_setReg, h1, h2, h3]

@[simp] theorem facet_cfgRefuse (s : State) (g code sec at_ : Nat) :
    (s.cfgRefuse g code sec at_).facet f = s.facet f := by simp [State.cfgRefuse]

@[simp] theorem facetState_cfgRefuse (s : State) (g code sec at_ : Nat) :
    (s.cfgRefuse g code sec at_).facetState f = s.facetState f := by
  rw [State.facetState, State.rf, cfgRefuse_reg s g code sec at_ facetStat_ge]
  rfl

@[simp] theorem stageShown_cfgRefuse (s : State) (g code sec at_ : Nat) :
    (s.cfgRefuse g code sec at_).stageShown f = s.stageShown f := by
  rw [State.stageShown, cfgRefuse_reg s g code sec at_ facetStat_ge]
  rfl

theorem refused_cfgRefuse (s : State) (f : Nat) (b : Check) : Refused f b (s.cfgRefuse f b.code b.sec b.at_) := by
  refine ⟨?_, ?_, ?_⟩
  · simp [State.cfgRefuse, State.reg_setReg, Reg.CFG_RESULT, Reg.CFG_RESULT_AT, Reg.CFG_EVT]
  · simp [State.cfgRefuse, State.reg_setReg, Reg.CFG_RESULT_AT, Reg.CFG_EVT]
  · simp [State.cfgRefuse, bit_or_bitW]

/-- What shows a refusal stays where the registers that show it do. -/
theorem Refused.of_regs {b : Check} (h : Refused f b s) (h1 : t.reg Reg.CFG_RESULT = s.reg Reg.CFG_RESULT)
    (h2 : t.reg Reg.CFG_RESULT_AT = s.reg Reg.CFG_RESULT_AT) (h3 : t.reg Reg.CFG_EVT = s.reg Reg.CFG_EVT) :
    Refused f b t := by
  obtain ⟨r1, r2, r3⟩ := h
  exact ⟨h1.trans r1, h2.trans r2, by rw [h3]; exact r3⟩

theorem Refused.messages {b : Check} (h : Refused f b t) (before : State) : Refused f b (State.messages before t) :=
  h.of_regs (messages_unitReg _ _ (by decide)) (messages_unitReg _ _ (by decide)) (messages_unitReg _ _ (by decide))

theorem Refused.facetStat {b : Check} (h : Refused f b t) (v : Word) : Refused f b (t.setReg (Reg.FACET_STAT g) v) := by
  have hne : ∀ a, a < 0x600100 → (t.setReg (Reg.FACET_STAT g) v).reg a = t.reg a := fun a ha => by
    rw [State.reg_setReg, if_neg]
    have := facetStat_ge (f := g)
    omega
  exact h.of_regs (hne _ (by decide)) (hne _ (by decide)) (hne _ (by decide))

/-! The loader while it is busy, and a command in a state that does not allow it (R246, R255). -/

theorem loaderCmd_busy (act : State → State) (h : bit (s.reg Reg.CFG_STAT) 31 = true) :
    s.loaderCmd act = s.addSat Reg.CFG_STAT 7 0 1 := by
  simp only [State.loaderCmd, h, if_true]

theorem loaderCmd_free (act : State → State) (h : bit (s.reg Reg.CFG_STAT) 31 = false) : s.loaderCmd act = act s := by
  simp only [State.loaderCmd, h, Bool.false_eq_true, if_false]

/-- Every command of the loader goes by way of its busy bit. -/
theorem exec_loaderCmd (f : Fin 64) (at_ : Bool) (s : State) :
    ∀ c ∈ [Instr.stage f 0#2, .stage f 1#2, .stage f 2#2, .stage f 3#2, .commit f at_, .commitAll at_, .start f, .hold f,
      .unbind f, .forceUnbind f, .discard f], ∃ act, exec c s = finish s (s.loaderCmd act) := by
  simp only [List.forall_mem_cons]
  exact ⟨⟨_, rfl⟩, ⟨_, rfl⟩, ⟨_, rfl⟩, ⟨_, rfl⟩, ⟨_, rfl⟩, ⟨_, rfl⟩, ⟨_, rfl⟩, ⟨_, rfl⟩, ⟨_, rfl⟩, ⟨_, rfl⟩, ⟨_, rfl⟩,
    fun _ h => absurd h List.not_mem_nil⟩

theorem busy_drops {c : Instr} (hc : ∃ act, exec c s = finish s (s.loaderCmd act))
    (h : bit (s.reg Reg.CFG_STAT) 31 = true) :
    ∃ t, exec c s = .next t ∧ fld (t.reg Reg.CFG_STAT) 7 0 = min 255 (s.rf Reg.CFG_STAT 7 0 + 1) ∧
      OnlyRegs (fun z => z = Reg.CFG_STAT) s t := by
  obtain ⟨act, hc⟩ := hc
  rw [hc, loaderCmd_busy act h]
  have hr := OnlyRegs.refl (fun z => z = Reg.CFG_STAT) s
  refine finish_does _ _ _ ⟨?_, (hr.addSat _ _ _ _ rfl).messages s⟩
  rw [messages_unitReg _ _ (by decide), fld_addSat _ _ _ _ _ (by decide)]
  rfl

/-- The registers in which a refusal is recorded. -/
def isResultReg (a : Nat) : Prop := a = Reg.CFG_RESULT ∨ a = Reg.CFG_RESULT_AT ∨ a = Reg.CFG_EVT

theorem OnlyFacet.refuse (h : OnlyFacet f p s t) (hp : ∀ a, isResultReg a → p a) (g code sec at_ : Nat) :
    OnlyFacet f p s (t.cfgRefuse g code sec at_) :=
  h.cfgRefuse g code sec at_ (hp _ (.inl rfl)) (hp _ (.inr (.inl rfl))) (hp _ (.inr (.inr rfl)))

/-- A command that ends in a refusal with STATE, in a state u that has changed the facet at most. -/
theorem refuseState_shown {c : Instr} (hc : exec c s = finish s (u.refuseState f))
    (hu : OnlyFacet f isResultReg s u) (hx : u.facet f = { s.facet f with commit := none }) :
    ∃ t, exec c s = .next t ∧ Refused f ⟨0x1F, 0xFF, 0, false⟩ t ∧ OnlyFacet f isResultReg s t ∧
      t.facet f = { s.facet f with commit := none } := by
  rw [hc]
  refine finish_does _ _ _ ⟨(refused_cfgRefuse u f ⟨0x1F, 0xFF, 0, false⟩).messages s,
    (hu.refuse (fun _ => id) f 0x1F 0xFF 0).messages s, ?_⟩
  simp [State.refuseState, hx]

theorem onlyFacet_cancelCommit (p : Nat → Prop) (s : State) (f : Nat) : OnlyFacet f p s (s.cancelCommit f) :=
  (OnlyFacet.refl f p s).setFacet _

theorem facet_cancelCommit (s : State) (f : Nat) : (s.cancelCommit f).facet f = { s.facet f with commit := none } :=
  State.facet_setFacet_self s f _

/-- The refusal of a command that finds no commit waiting changes nothing of its facet. -/
theorem refuseState_idle {c : Instr} (hx : (s.facet f).commit = none) (hc : exec c s = finish s (s.refuseState f)) :
    ∃ t, exec c s = .next t ∧ Refused f ⟨0x1F, 0xFF, 0, false⟩ t ∧ OnlyFacet f isResultReg s t ∧
      t.facet f = { s.facet f with commit := none } :=
  refuseState_shown hc (OnlyFacet.refl _ _ s) (by rw [← hx])

/-- An UNBIND or FORCE_UNBIND of an UNBOUND facet cancels a commit of it that waits, and is refused (log 34). -/
theorem refuseState_cancels {c : Instr} (hc : exec c s = finish s ((s.cancelCommit f).refuseState f)) :
    ∃ t, exec c s = .next t ∧ Refused f ⟨0x1F, 0xFF, 0, false⟩ t ∧ OnlyFacet f isResultReg s t ∧
      t.facet f = { s.facet f with commit := none } :=
  refuseState_shown hc (onlyFacet_cancelCommit _ s f) (facet_cancelCommit s f)

/-- The staged stream of facet f is dropped, and the state of its stage is n (R247, R258). -/
def State.unstage (s : State) (f n : Nat) : State := (s.setFacet f { s.facet f with staged := none }).setStage f n

theorem facet_unstage (s : State) (f n : Nat) : (s.unstage f n).facet f = { s.facet f with staged := none } :=
  State.facet_setFacet_self s f _

@[simp] theorem facetState_unstage (s : State) (f n : Nat) : (s.unstage f n).facetState f = s.facetState f :=
  facetState_setStage _ n

@[simp] theorem loader_unstage (s : State) (f n : Nat) : (s.unstage f n).loader = s.loader := rfl

theorem stageShown_unstage (s : State) {n : Nat} (h : n < 4) : (s.unstage f n).stageShown f = n :=
  stageShown_setStage _ h

theorem OnlyFacet.unstage (h : OnlyFacet f p s t) (n : Nat) (hp : p (Reg.FACET_STAT f)) :
    OnlyFacet f p s (t.unstage f n) := (h.setFacet _).setReg _ hp

theorem Refused.unstage {b : Check} (h : Refused f b t) (n : Nat) : Refused f b (t.unstage f n) :=
  Refused.facetStat (t := t.setFacet f _) h _

/-! What each command does while the loader is not busy. -/

/-- The loader takes a source as it is given (R247). -/
def State.readFrom (s : State) (src : BitVec 2) : State :=
  { s with loader := { s.loader with
    source := src.toNat, addr := (s.reg Reg.CFG_SRC_LO).toNat + (s.reg Reg.CFG_SRC_HI).toNat * 2 ^ 32
    len := (s.reg Reg.CFG_LEN).toNat } }

@[simp] theorem readFrom_same (s : State) (src : BitVec 2) :
    (s.readFrom src).facet f = s.facet f ∧ (s.readFrom src).facetState f = s.facetState f := ⟨rfl, rfl⟩

section Free

variable {f : Fin 64} {at_ : Bool} (hb : bit (s.reg Reg.CFG_STAT) 31 = false)

include hb

theorem exec_commit : exec (.commit f at_) s = finish s
    (if (s.facet f.val).staged.isNone || s.atPast f.val at_ then s.refuseState f.val else s.askCommit f.val at_ false) :=
  congrArg (finish s) (loaderCmd_free _ hb)

theorem exec_start : exec (.start f) s = finish s
    (if s.facetState f.val = 2 then s.setFacet f.val { s.facet f.val with startDue := true, autoStart := false }
     else s.refuseState f.val) :=
  congrArg (finish s) (loaderCmd_free _ hb)

theorem exec_hold : exec (.hold f) s = finish s
    (if s.facetState f.val = 3 then
       (s.setFacet f.val { s.facet f.val with drain := 1, drainLeft := (s.kcs f.val).table.drain }).setFacetState f.val 4
     else s.refuseState f.val) :=
  congrArg (finish s) (loaderCmd_free _ hb)

theorem exec_unbind : exec (.unbind f) s = finish s
    (let st := s.facetState f.val
     if st = 2 ∨ st = 3 ∨ st = 5 ∨ (st = 4 ∧ (s.facet f.val).commit.isSome) then
       let u := s.cancelCommit f.val
       (u.setFacet f.val { u.facet f.val with
         drain := 2, drainLeft := (u.kcs f.val).table.drain, startDue := false }).setFacetState f.val 4
     else (if st = 0 then s.cancelCommit f.val else s).refuseState f.val) :=
  congrArg (finish s) (loaderCmd_free _ hb)

theorem exec_forceUnbind : exec (.forceUnbind f) s = finish s
    (if s.facetState f.val = 0 then (s.cancelCommit f.val).refuseState f.val else s.forceNow f.val) :=
  congrArg (finish s) (loaderCmd_free _ hb)

theorem exec_discard (hu : (if (s.facet f.val).commit.isSome then s.commitFail f.val ⟨0x1F, 0xFF, 0, false⟩ else s) = u) :
    exec (.discard f) s = finish s (u.unstage f.val 0) := by
  rw [← hu]
  exact congrArg (finish s) (loaderCmd_free _ hb)

theorem exec_stage {src : BitVec 2} (h : src ≠ 3#2) :
    exec (.stage f src) s = finish s (((s.readFrom src).unstage f.val 1).showBusy (some (1, f.val))) :=
  congrArg (finish s) ((loaderCmd_free _ hb).trans (if_neg h))

theorem exec_stage_reserved : exec (.stage f 3#2) s = finish s ((s.unstage f.val 3).cfgRefuse f.val 0x08 0xFF 0) :=
  congrArg (finish s) ((loaderCmd_free _ hb).trans (if_pos rfl))

end Free

/-! A commit that is given (R248, R251). -/

/-- The commit of facet f that a COMMIT or COMMIT_ALL leaves waiting. -/
def State.commitGiven (s : State) (f : Nat) (at_ all : Bool) : CommitWait :=
  ⟨0, if at_ then some (s.reg Reg.CFG_AT).toNat else none, all, s.facetState f == 3 || s.wasRunning f, false, false, none⟩

theorem askCommit_eq (s : State) (f : Nat) (at_ all : Bool) :
    s.askCommit f at_ all =
      let u := s.setFacet f { s.facet f with
        commit := some (s.commitGiven f at_ all), drainLeft := (s.kcs f).table.drain }
      if (s.facetState f == 3 || s.wasRunning f) && !at_ then u.setFacetState f 4 else u := rfl

theorem facet_askCommit (s : State) (f : Nat) (at_ all : Bool) :
    (s.askCommit f at_ all).facet f =
      { s.facet f with commit := some (s.commitGiven f at_ all), drainLeft := (s.kcs f).table.drain } := by
  rw [askCommit_eq]
  dsimp only
  split <;> simp

theorem facetState_askCommit (s : State) (f : Nat) (at_ all : Bool) :
    (s.askCommit f at_ all).facetState f =
      if (s.facetState f == 3 || s.wasRunning f) && !at_ then 4 else s.facetState f := by
  rw [askCommit_eq]
  dsimp only
  split
  · exact facetState_setFacetState _ (by decide)
  · rfl

theorem onlyFacet_askCommit (s : State) (f : Nat) (at_ all : Bool) :
    OnlyFacet f (fun z => z = Reg.FACET_STAT f) s (s.askCommit f at_ all) := by
  have h := OnlyFacet.refl f (fun z => z = Reg.FACET_STAT f) s
  rw [askCommit_eq]
  dsimp only
  split
  · exact (h.setFacet _).setReg _ rfl
  · exact h.setFacet _

/-- What another facet's commit will be does not depend on the one given. -/
theorem commitGiven_askCommit (s : State) (at_ all : Bool) (h : g ≠ f) :
    (s.askCommit f at_ all).commitGiven g at_ all = s.commitGiven g at_ all := by
  have k := onlyFacet_askCommit s f at_ all
  have hat : (s.askCommit f at_ all).reg Reg.CFG_AT = s.reg Reg.CFG_AT :=
    k.2.2 _ (fun e => absurd (facetStat_ge (f := f)) (by rw [← e]; decide)) (not_isPba_of_unit (by decide))
  simp only [State.commitGiven, State.wasRunning, hat, k.facetState_ne h, k.2.1 g h]

/-- A commit given for every facet of a list (R251). -/
theorem forEach_askCommit (at_ all : Bool) (l : List Nat) (hl : l.Nodup) (s : State) :
    let t := forEach l s (fun t f => t.askCommit f at_ all)
    (∀ g ∈ l, (t.facet g).commit = some (s.commitGiven g at_ all)) ∧ (∀ g, g ∉ l → t.facet g = s.facet g) ∧
      t.mem = s.mem := by
  induction l generalizing s with
  | nil => exact ⟨fun _ h => absurd h List.not_mem_nil, fun _ _ => rfl, rfl⟩
  | cons a l ih =>
    obtain ⟨ha, hl⟩ := List.nodup_cons.mp hl
    obtain ⟨hin, hout, hmem⟩ := ih hl (s.askCommit a at_ all)
    have k := onlyFacet_askCommit s a at_ all
    refine ⟨fun g hg => ?_, fun g hg => ?_, hmem.trans (by rw [k.1])⟩
    · rcases List.mem_cons.mp hg with rfl | hg
      · exact (congrArg FacetState.commit (hout g ha)).trans (by rw [facet_askCommit])
      · rw [← commitGiven_askCommit s at_ all (fun e : g = a => ha (e ▸ hg))]
        exact hin g hg
    · obtain ⟨hne, hg⟩ := not_or.mp (fun e => hg (List.mem_cons.mpr e))
      exact (hout g hg).trans (k.2.1 g hne)

theorem exec_commitAll {at_ : Bool} (hb : bit (s.reg Reg.CFG_STAT) 31 = false)
    (hf : f < 64) (hs : (s.facet f).staged.isSome = true)
    (hp : ∀ g, g < 64 → (s.facet g).staged.isSome = true → s.atPast g at_ = false) :
    exec (.commitAll at_) s = finish s (forEach ((List.range 64).filter (fun g => (s.facet g).staged.isSome)) s
      (fun t g => t.askCommit g at_ true)) := by
  have hnone : ((List.range 64).filter (fun g => (s.facet g).staged.isSome)).find? (fun g => s.atPast g at_) = none := by
    simpa using hp
  have hmem : f ∈ (List.range 64).filter (fun g => (s.facet g).staged.isSome) := by simp [hf, hs]
  have hne : ((List.range 64).filter (fun g => (s.facet g).staged.isSome)).isEmpty = false :=
    List.isEmpty_eq_false_iff.mpr (List.ne_nil_of_mem hmem)
  refine congrArg (finish s) ((loaderCmd_free _ hb).trans ?_)
  simp only [hnone, hne, Bool.false_eq_true, if_false]

/-! A forced unbind (R254). -/

/-- The wrapper of cell c has isolated it. -/
def CellIsolated (c : CellId) (t : State) : Prop := (t.cell (t.cellKey c)).mode = .faulted

theorem posOf_le (s : State) (c : CellId) : s.posOf c ≤ 16 := by
  have := c.cell.isLt
  unfold State.posOf position
  split <;> omega

/-- The registers that isolating a cell writes do not move any cell. -/
theorem cellKey_isolateCell (s : State) (r b l : Nat) (c : CellId) : (s.isolateCell r b l).cellKey c = s.cellKey c := by
  have hp := posOf_le s (cellId r b l)
  have h1 : Reg.CELL_STAT r b (s.posOf (cellId r b l)) ≠ Reg.BLK_MAP c.region.val c.block.val := by
    unfold Reg.CELL_STAT Reg.BLK_MAP
    omega
  have h2 : Reg.LOC_CELL ≠ Reg.BLK_MAP c.region.val c.block.val := by
    unfold Reg.LOC_CELL Reg.BLK_MAP
    omega
  have hmap : (s.isolateCell r b l).reg (Reg.BLK_MAP c.region.val c.block.val) =
      s.reg (Reg.BLK_MAP c.region.val c.block.val) := by
    simp [State.isolateCell, State.reg_setReg, h1, h2]
  rw [State.cellKey, State.posOf, State.rf, hmap]
  rfl

theorem cell_isolateCell (s : State) (r b l k : Nat) :
    (s.isolateCell r b l).cell k =
      if s.cellKey (cellId r b l) = k then { s.cell k with mode := .faulted, pend := none } else s.cell k := by
  simp only [State.isolateCell, State.wf_eq, State.count_eq, State.setReg_reads, State.cell_setCell]
  split
  · next e => rw [e]
  · rfl

theorem cellIsolated_isolateCell (s : State) (r b l : Nat) : CellIsolated (cellId r b l) (s.isolateCell r b l) := by
  rw [CellIsolated, cellKey_isolateCell, cell_isolateCell, if_pos rfl]

theorem CellIsolated.isolateCell {c : CellId} (h : CellIsolated c t) (r b l : Nat) :
    CellIsolated c (t.isolateCell r b l) := by
  rw [CellIsolated, cellKey_isolateCell, cell_isolateCell]
  split
  · rfl
  · exact h

/-- Every cell of region r is isolated. -/
def State.isolateAll (s : State) (r : Nat) : State :=
  forEach (List.range 8) s (fun u b => forEach (List.range 16) u (fun v l => v.isolateCell r b l))

theorem CellIsolated.isolateAll {c : CellId} (h : CellIsolated c t) (r : Nat) : CellIsolated c (t.isolateAll r) := by
  unfold State.isolateAll
  exact forEach_keep (CellIsolated c) _ t _ h (fun u b hu =>
    forEach_keep (CellIsolated c) _ u _ hu (fun _ l hv => hv.isolateCell r b l))

theorem cellIsolated_isolateAll (s : State) (c : CellId) : CellIsolated c (s.isolateAll c.region.val) := by
  have hid : cellId c.region.val c.block.val c.cell.val = c := by simp [cellId]
  have hcell : ∀ u, ∀ l ∈ List.range 16, l = c.cell.val → CellIsolated c
      (forEach (List.range 16) u (fun v l => v.isolateCell c.region.val c.block.val l)) := fun u l hl e =>
    forEach_each (fun l t => l = c.cell.val → CellIsolated c t) _ u
      (fun v l hl => by
        have := cellIsolated_isolateCell v c.region.val c.block.val l
        rwa [hl, hid, ← hl] at this)
      (fun v l _ hv hl => (hv hl).isolateCell _ _ l) l hl e
  unfold State.isolateAll
  refine forEach_each (fun b t => b = c.block.val → CellIsolated c t) (List.range 8) s (fun u b hb => ?_)
    (fun u b _ hu hb => ?_) c.block.val (List.mem_range.mpr c.block.isLt) rfl
  · rw [hb]
    exact hcell u c.cell.val (List.mem_range.mpr c.cell.isLt) rfl
  · exact forEach_keep (CellIsolated c) _ u _ (hu hb) (fun _ l hv => hv.isolateCell _ b l)

/-- What a forced unbind leaves as it was: facets, memory, and where each cell runs. -/
def ForceKept (s t : State) : Prop := t.facets = s.facets ∧ t.mem = s.mem ∧ ∀ c, t.cellKey c = s.cellKey c

theorem ForceKept.trans (h : ForceKept s t) (k : ForceKept t u) : ForceKept s u :=
  ⟨k.1.trans h.1, k.2.1.trans h.2.1, fun c => (k.2.2 c).trans (h.2.2 c)⟩

theorem forceKept_isolateCell (s : State) (r b l : Nat) : ForceKept s (s.isolateCell r b l) :=
  ⟨by simp [State.isolateCell], by simp [State.isolateCell], cellKey_isolateCell s r b l⟩

theorem ForceKept.forEach {α : Type} {l : List α} {act : State → α → State} (s : State)
    (h : ∀ u a, ForceKept u (act u a)) : ForceKept s (Machine.forEach l s act) :=
  forEach_keep (ForceKept s) l s act ⟨rfl, rfl, fun _ => rfl⟩ (fun u a hu => hu.trans (h u a))

theorem forceKept_isolateAll (s : State) (r : Nat) : ForceKept s (s.isolateAll r) := by
  unfold State.isolateAll
  exact ForceKept.forEach s (fun u b => ForceKept.forEach u (fun v l => forceKept_isolateCell v r b l))

/-- Engines that stop leave the cells alone. -/
theorem forceKept_stopEngines (s : State) (r : Nat) : ForceKept s (s.stopEngines r) := ⟨rfl, rfl, fun _ => rfl⟩

theorem CellIsolated.stopEngines {c : CellId} (h : CellIsolated c t) (r : Nat) : CellIsolated c (t.stopEngines r) := h

/-- A job that ends on a bank changes the bank alone. -/
theorem forceKept_endJobs (s : State) (f b : Nat) : ForceKept s (s.endJobs f b) := by
  unfold State.endJobs
  exact ⟨rfl, rfl, fun _ => rfl⟩

theorem CellIsolated.endJobs {c : CellId} (h : CellIsolated c t) (f b : Nat) : CellIsolated c (t.endJobs f b) := by
  unfold State.endJobs
  exact h

/-- The regions of facet f are forced out of service, and its jobs end. -/
def State.forceUnits (s : State) (f : Nat) : State :=
  forEach (List.range 32) (forEach (s.kcs f).table.regions s (fun t r => (t.isolateAll r).stopEngines r))
    (fun t b => t.endJobs f b)

theorem forceKept_forceUnits (s : State) (f : Nat) : ForceKept s (s.forceUnits f) := by
  have hregion : ∀ (t : State) r, ForceKept t ((t.isolateAll r).stopEngines r) := fun t r =>
    (forceKept_isolateAll t r).trans (forceKept_stopEngines _ r)
  unfold State.forceUnits
  exact (ForceKept.forEach s hregion).trans (ForceKept.forEach _ (fun u b => forceKept_endJobs u f b))

theorem cellIsolated_forceUnits (s : State) (f : Nat) (c : CellId) (hc : c.region.val ∈ (s.kcs f).table.regions) :
    CellIsolated c (s.forceUnits f) := by
  unfold State.forceUnits
  refine forEach_keep (CellIsolated c) _ _ _ ?_ (fun _ b h => h.endJobs f b)
  exact forEach_each (fun r t => r = c.region.val → CellIsolated c t) _ s
    (fun t r hr => by rw [hr]; exact (cellIsolated_isolateAll t c).stopEngines _)
    (fun t r _ h hr => ((h hr).isolateAll r).stopEngines r) _ hc rfl

theorem forceNow_eq (s : State) (f : Nat) :
    s.forceNow f = ((s.forceUnits f).setFacet f { (s.forceUnits f).facet f with
      drain := 2, forced := true, inStep := false, void := false, startDue := false, commit := none,
      load := none }).setFacetState f 4 := rfl

/-! What each command leaves, after its messages. -/

theorem commitFail_eq (s : State) (f : Nat) (b : Check) :
    s.commitFail f b =
      let u := (s.cancelCommit f).cfgRefuse f b.code b.sec b.at_
      if s.wasRunning f = true ∧ u.facetState f = 4 then u.setFacetState f 3 else u := rfl

/-- A commit that ends in a refusal leaves its facet without it, and perhaps RUNNING again (R256). -/
theorem commitFail_shown (s : State) (f : Nat) (b : Check) :
    (s.commitFail f b).facet f = { s.facet f with commit := none } ∧ Refused f b (s.commitFail f b) ∧
    OnlyFacet f (fun z => z = Reg.FACET_STAT f ∨ isResultReg z) s (s.commitFail f b) := by
  have hu : OnlyFacet f (fun z => z = Reg.FACET_STAT f ∨ isResultReg z) s
      ((s.cancelCommit f).cfgRefuse f b.code b.sec b.at_) :=
    (onlyFacet_cancelCommit _ s f).refuse (fun _ => .inr) _ _ _ _
  have hr := refused_cfgRefuse (s.cancelCommit f) f b
  have hx := facet_cancelCommit s f
  rw [commitFail_eq]
  dsimp only
  split
  · exact ⟨hx, hr.facetStat _, hu.setReg _ (.inl rfl)⟩
  · exact ⟨hx, hr, hu⟩

/-- The loader shows the command that it works on (R246, R258). -/
theorem showBusy_some (s : State) {op g : Nat} (ho : op < 16) (hg : g < 64) :
    let t := s.showBusy (some (op, g))
    bit (t.reg Reg.CFG_STAT) 31 = true ∧ t.rf Reg.CFG_STAT 27 24 = op ∧ t.rf Reg.CFG_STAT 21 16 = g := by
  simp only [State.showBusy, State.wf_eq, State.rf, State.reg_setReg_self]
  refine ⟨?_, ?_, fld_setFld_lt _ _ _ _ (by decide) hg⟩
  · simp [bit_setFld]
  · rw [fld_setFld_ne _ _ _ _ _ _ (by decide) (.inr (by decide))]
    exact fld_setFld_lt _ _ _ _ (by decide) ho

theorem showBusy_reg (s : State) (b : Nat × Nat) {a : Nat} (h : Reg.CFG_STAT ≠ a) :
    (s.showBusy (some b)).reg a = s.reg a := by
  simp only [State.showBusy, State.wf_eq, State.reg_setReg, if_neg h]
  rfl

@[simp] theorem showBusy_same (s : State) (b : Nat × Nat) :
    (s.showBusy (some b)).facet f = s.facet f ∧ (s.showBusy (some b)).facetState f = s.facetState f ∧
      (s.showBusy (some b)).stageShown f = s.stageShown f := by
  have hreg := showBusy_reg s b (cfg_ne_facetStat (f := f) (a := Reg.CFG_STAT) (by decide))
  refine ⟨by simp [State.showBusy, State.facet], ?_, ?_⟩
  · rw [State.facetState, State.rf, hreg]
    rfl
  · rw [State.stageShown, hreg]
    rfl

@[simp] theorem loader_showBusy (s : State) (b : Nat × Nat) :
    (s.showBusy (some b)).loader = { s.loader with busy := some b } := rfl

theorem OnlyFacet.showBusy (h : OnlyFacet f p s t) (b : Nat × Nat) (hp : p Reg.CFG_STAT) :
    OnlyFacet f p s (t.showBusy (some b)) :=
  (((h.loader _).setReg _ hp).setReg _ hp).setReg _ hp

section Accepted

variable {f : Fin 64} {at_ : Bool} (hb : bit (s.reg Reg.CFG_STAT) 31 = false)

include hb

theorem stage_reads {src : BitVec 2} (h : src ≠ 3#2) : ∃ t, exec (.stage f src) s = .next t ∧
    t.loader = { s.loader with
      busy := some (1, f.val), source := src.toNat, len := (s.reg Reg.CFG_LEN).toNat
      addr := (s.reg Reg.CFG_SRC_LO).toNat + (s.reg Reg.CFG_SRC_HI).toNat * 2 ^ 32 } ∧
    t.facet f.val = { s.facet f.val with staged := none } ∧ t.stageShown f.val = 1 ∧
    t.facetState f.val = s.facetState f.val ∧ bit (t.reg Reg.CFG_STAT) 31 = true ∧ t.rf Reg.CFG_STAT 27 24 = 1 ∧
    t.rf Reg.CFG_STAT 21 16 = f.val ∧
    OnlyFacet f.val (fun z => z = Reg.FACET_STAT f.val ∨ z = Reg.CFG_STAT) s t := by
  have hf : OnlyFacet f.val (fun z => z = Reg.FACET_STAT f.val ∨ z = Reg.CFG_STAT) s (s.readFrom src) :=
    (OnlyFacet.refl _ _ s).loader _
  rw [exec_stage hb h]
  obtain ⟨hbit, hop, hg⟩ := showBusy_some ((s.readFrom src).unstage f.val 1) (op := 1) (by decide) f.isLt
  refine finish_does _ _ _ ⟨?_, ?_, ?_, ?_, ?_, ?_, ?_, ((hf.unstage 1 (.inl rfl)).showBusy _ (.inr rfl)).messages s⟩
  · simp [State.readFrom]
  · simp [facet_unstage]
  · simp [stageShown_unstage]
  · simp
  · rw [messages_unitReg _ _ (by decide), hbit]
  · rw [State.rf, messages_unitReg _ _ (by decide)]
    exact hop
  · rw [State.rf, messages_unitReg _ _ (by decide)]
    exact hg

theorem stage_reserved : ∃ t, exec (.stage f 3#2) s = .next t ∧
    t.facet f.val = { s.facet f.val with staged := none } ∧ t.stageShown f.val = 3 ∧
    t.facetState f.val = s.facetState f.val ∧ Refused f.val ⟨0x08, 0xFF, 0, false⟩ t ∧
    OnlyFacet f.val (fun z => z = Reg.FACET_STAT f.val ∨ isResultReg z) s t := by
  have hf := OnlyFacet.refl f.val (fun z => z = Reg.FACET_STAT f.val ∨ isResultReg z) s
  rw [exec_stage_reserved hb]
  refine finish_does _ _ _ ⟨?_, ?_, ?_, (refused_cfgRefuse _ _ ⟨0x08, 0xFF, 0, false⟩).messages s,
    ((hf.unstage 3 (.inl rfl)).refuse (fun _ => .inr) _ _ _ _).messages s⟩
  · simp [facet_unstage]
  · simp [stageShown_unstage]
  · simp

theorem commit_waits (hs : (s.facet f.val).staged.isSome = true) (hp : s.atPast f.val at_ = false) :
    ∃ t, exec (.commit f at_) s = .next t ∧
      t.facet f.val = { s.facet f.val with
        commit := some (s.commitGiven f.val at_ false), drainLeft := (s.kcs f.val).table.drain } ∧
      t.facetState f.val =
        (if (s.facetState f.val == 3 || s.wasRunning f.val) && !at_ then 4 else s.facetState f.val) ∧
      OnlyFacet f.val (fun z => z = Reg.FACET_STAT f.val) s t := by
  have hgo : ((s.facet f.val).staged.isNone || s.atPast f.val at_) = false := by
    rw [hp, ← Option.not_isSome, hs]
    rfl
  rw [exec_commit hb, hgo]
  refine finish_does _ _ _ ⟨?_, ?_, (onlyFacet_askCommit s f.val at_ false).messages s⟩
  · simp [facet_askCommit]
  · simp [facetState_askCommit]

theorem start_due (h : s.facetState f.val = 2) : ∃ t, exec (.start f) s = .next t ∧
    t.facet f.val = { s.facet f.val with startDue := true, autoStart := false } ∧
    OnlyFacet f.val (fun _ => False) s t := by
  rw [exec_start hb, if_pos h]
  exact finish_does _ _ _ ⟨by simp, ((OnlyFacet.refl _ _ s).setFacet _).messages s⟩

theorem hold_drains (h : s.facetState f.val = 3) : ∃ t, exec (.hold f) s = .next t ∧
    t.facet f.val = { s.facet f.val with drain := 1, drainLeft := (s.kcs f.val).table.drain } ∧
    t.facetState f.val = 4 ∧ OnlyFacet f.val (fun z => z = Reg.FACET_STAT f.val) s t := by
  have hf := OnlyFacet.refl f.val (fun z => z = Reg.FACET_STAT f.val) s
  rw [exec_hold hb, if_pos h]
  refine finish_does _ _ _ ⟨by simp, ?_, ((hf.setFacet _).setReg _ rfl).messages s⟩
  rw [messages_facetState, facetState_setFacetState _ (by decide)]

theorem unbind_drains (h : s.facetState f.val = 2 ∨ s.facetState f.val = 3 ∨ s.facetState f.val = 5 ∨
      (s.facetState f.val = 4 ∧ (s.facet f.val).commit.isSome = true)) :
    ∃ t, exec (.unbind f) s = .next t ∧
      t.facet f.val = { s.facet f.val with
        commit := none, drain := 2, drainLeft := (s.kcs f.val).table.drain, startDue := false } ∧
      t.facetState f.val = 4 ∧ OnlyFacet f.val (fun z => z = Reg.FACET_STAT f.val) s t := by
  have hf := onlyFacet_cancelCommit (fun z => z = Reg.FACET_STAT f.val) s f.val
  rw [exec_unbind hb]
  dsimp only
  rw [if_pos h]
  refine finish_does _ _ _ ⟨?_, ?_, ((hf.setFacet _).setReg _ rfl).messages s⟩
  · simp [facet_cancelCommit, State.kcs]
  · rw [messages_facetState, facetState_setFacetState _ (by decide)]

theorem unbind_refused (h : s.facetState f.val = 0) :
    ∃ t, exec (.unbind f) s = .next t ∧ Refused f.val ⟨0x1F, 0xFF, 0, false⟩ t ∧ OnlyFacet f.val isResultReg s t ∧
      t.facet f.val = { s.facet f.val with commit := none } := by
  refine refuseState_cancels ((exec_unbind hb).trans ?_)
  simp [h]

theorem forceUnbind_refused (h : s.facetState f.val = 0) :
    ∃ t, exec (.forceUnbind f) s = .next t ∧ Refused f.val ⟨0x1F, 0xFF, 0, false⟩ t ∧
      OnlyFacet f.val isResultReg s t ∧ t.facet f.val = { s.facet f.val with commit := none } :=
  refuseState_cancels ((exec_forceUnbind hb).trans (by rw [if_pos h]))

theorem forceUnbind_drains (h : s.facetState f.val ≠ 0) : ∃ t, exec (.forceUnbind f) s = .next t ∧
    t.facet f.val = { s.facet f.val with
      drain := 2, forced := true, inStep := false, void := false, startDue := false, commit := none, load := none } ∧
    t.facetState f.val = 4 ∧ (∀ g, g ≠ f.val → t.facet g = s.facet g) ∧
    (∀ c : CellId, c.region.val ∈ (s.kcs f.val).table.regions → (t.cell (s.cellKey c)).mode = .faulted) ∧
    t.mem = s.mem := by
  obtain ⟨hfacets, hmem, hkey⟩ := forceKept_forceUnits s f.val
  have hfacet : ∀ g, (s.forceUnits f.val).facet g = s.facet g := fun g => by rw [State.facet, hfacets]; rfl
  rw [exec_forceUnbind hb, if_neg h, forceNow_eq]
  refine finish_does _ _ _ ⟨?_, ?_, fun g hg => ?_, fun c hc => ?_, ?_⟩
  · simp [hfacet]
  · rw [messages_facetState, facetState_setFacetState _ (by decide)]
  · simp [State.facet_setFacet, hg.symm, hfacet]
  · have := cellIsolated_forceUnits s f.val c hc
    rw [CellIsolated, hkey] at this
    simpa [State.setFacetState] using this
  · simpa [State.setFacetState] using hmem

theorem discard_drops (h : (s.facet f.val).commit = none) : ∃ t, exec (.discard f) s = .next t ∧
    t.facet f.val = { s.facet f.val with staged := none } ∧ t.stageShown f.val = 0 ∧
    t.facetState f.val = s.facetState f.val ∧ OnlyFacet f.val (fun z => z = Reg.FACET_STAT f.val) s t := by
  have hf := OnlyFacet.refl f.val (fun z => z = Reg.FACET_STAT f.val) s
  rw [exec_discard hb (u := s) (by rw [h]; rfl)]
  refine finish_does _ _ _ ⟨?_, ?_, ?_, (hf.unstage 0 rfl).messages s⟩
  · simp [facet_unstage]
  · simp [stageShown_unstage]
  · simp

theorem discard_endsCommit (h : (s.facet f.val).commit.isSome = true) : ∃ t, exec (.discard f) s = .next t ∧
    t.facet f.val = { s.facet f.val with staged := none, commit := none } ∧ t.stageShown f.val = 0 ∧
    Refused f.val ⟨0x1F, 0xFF, 0, false⟩ t ∧
    OnlyFacet f.val (fun z => z = Reg.FACET_STAT f.val ∨ isResultReg z) s t := by
  obtain ⟨hx, hr, ho⟩ := commitFail_shown s f.val ⟨0x1F, 0xFF, 0, false⟩
  rw [exec_discard hb (if_pos h)]
  refine finish_does _ _ _ ⟨?_, ?_, (hr.unstage 0).messages s, (ho.unstage 0 (.inl rfl)).messages s⟩
  · simp [facet_unstage, hx]
  · simp [stageShown_unstage]

end Accepted

end Loader

/-- Settles O37: each clause is the lemma of its command above. That source 3 of a STAGE answers RESERVED is log 26's;
that a DISCARD ends a commit that waits with STATE, and an UNBIND of an UNBOUND facet cancels its commit, log 34's. -/
theorem loaderCommandsMoveTheirFacet : Obligations.LoaderCommandsMoveTheirFacet := by
  unfold Obligations.LoaderCommandsMoveTheirFacet
  intro f at_ s x st a drain when_ result wrong
  refine ⟨fun h c hc => busy_drops (exec_loaderCmd f at_ s c hc) h, ?idle, ?unbound, fun hb =>
    ⟨fun src h => stage_reads hb h, stage_reserved hb, commit_waits hb, ?commitAll, start_due hb, hold_drains hb,
      unbind_drains hb, forceUnbind_drains hb, discard_drops hb, discard_endsCommit hb⟩⟩
  case unbound => exact fun hb h => ⟨unbind_refused hb h, forceUnbind_refused hb h⟩
  case idle =>
    intro hb hx
    refine ⟨fun h => refuseState_idle hx ?_, fun h => refuseState_idle hx ?_, fun h => refuseState_idle hx ?_,
      fun h => ?_, forceUnbind_refused hb⟩
    · rw [exec_commit hb, if_pos (by simpa using h)]
    · rw [exec_start hb, if_neg h]
    · rw [exec_hold hb, if_neg h]
    · by_cases h0 : st = 0
      · exact unbind_refused hb h0
      · refine refuseState_idle hx ((exec_unbind hb).trans ?_)
        rw [if_neg (by rw [hx]; simp; omega), if_neg h0]
  case commitAll =>
    intro hs hp
    obtain ⟨hin, hout, hmem⟩ := forEach_askCommit at_ true _ (List.nodup_range.filter _) s
    rw [exec_commitAll hb f.isLt hs hp]
    refine finish_does _ _ _ ⟨fun g hg hgs => ?_, fun g hg => ?_, ?_⟩
    · rw [(messages_reads s _ g).2.2.2.2.2.1]
      exact hin g (by simp [hg, hgs])
    · simpa using hout g (by simp [hg])
    · simpa using hmem

end Sys2Proof.Machine

namespace Sys2Proof.Machine

/-! The commit of a stream that names a region which the module does not have (O38). -/

section StrayCommit

variable {s : State} {f : Nat}

theorem firstBad_eq_none {l : List Check} : firstBad l = none ↔ ∀ c ∈ l, c.ok = true := by
  simp [firstBad]

/-- A check of a single item holds where the item does. -/
theorem checkItems_one (code sec off n : Nat) (b : Bool) : (checkItems code sec off [(n, b)]).ok = b := by
  simp [checkItems]

theorem exec_commitBoundary (s : State) (f : Fin 64) (again : Reread) :
    exec (.commitBoundary f again) s = finish s (s.commitBoundary f.val again) := rfl

/-- The boundary of a facet's own commit (R248). -/
theorem commitBoundary_one {y : Staged} {c : CommitWait} (again : Reread) (hl : (s.facet f).load = none)
    (hc : (s.facet f).commit = some c) (hy : (s.facet f).staged = some y) (hd : (s.facet f).drain ≠ 2)
    (hdue : s.commitDue f = true) (ha : c.all = false) :
    s.commitBoundary f again = (s.atBoundary f).commitOne f y again := by
  simp only [State.commitBoundary, hl, hc, hy, if_neg hd, hdue, ha, if_true, Bool.false_eq_true, if_false]

/-- A commit that has released what it leaves binds its stream when no check fails and no resource is held (R249). -/
theorem commitOne_binds {y : Staged} {again : Reread} (hrel : s.wasReleased f = true)
    (hread : s.readAgain y again = none) (hsw : s.switchWaits y.kcs = false)
    (huse : firstBad (s.unusable y.kcs) = none)
    (hheld : s.resourceHeld (s.boundExcept [f] ++ s.lowerClaims f) y.kcs = false)
    (hwait : s.unbindWaits f y [(f, y.kcs)] = false) (hbad : s.commitBad f y [(f, y.kcs)] [] = none) :
    s.commitOne f y again = (s.releaseOld f y.kcs).bindFacet f y (s.wasRunning f) false
      (s.budgetStart y.kcs (s.boundaryOf f)) := by
  simp only [State.commitOne, hrel, hread, hsw, huse, hheld, hwait, hbad, Bool.not_true, Bool.false_and,
    Bool.or_self, Bool.false_eq_true, if_false, if_true]

/-! The counterexample. -/

/-- A number of no region: the module has 64 (R403). It is where the array of RGEN registers reaches FACET_STAT of
facet 0. -/
def strayRegion : Nat := 0x100000

theorem rgen_strayRegion : Reg.RGEN strayRegion = Reg.FACET_STAT 0 := by decide

/-- A stream that names it. Its digest is that of no bytes. -/
def strayStream : Kcs :=
  { Kcs.empty with
    streamId := 1, digest := sha384 [], points := List.replicate (strayRegion / 4 + 1) 0
    table := { FacetTable.none with regions := [strayRegion], jobTag := 1 } }

def strayStaged : Staged := ⟨strayStream, 1, 0, 0, []⟩

def strayCommit : CommitWait := ⟨0, none, false, false, false, true, none⟩

/-- The stream is staged for facet 0, which is UNBOUND, and its commit waits. -/
def strayState : State :=
  State.reset.setFacet 0 { FacetState.reset with staged := some strayStaged, commit := some strayCommit }

theorem strayState_facet : strayState.facet 0 =
    { FacetState.reset with staged := some strayStaged, commit := some strayCommit } :=
  State.facet_setFacet_self _ _ _

theorem strayState_readAgain : strayState.readAgain strayStaged (.bytes []) = none := by
  have hbytes : sub [] 0 strayStaged.kcs.signed = [] := by decide
  have hdigest : sha384 [] = strayStaged.kcs.digest := by simp only [strayStaged, strayStream]
  rw [State.readAgain, if_neg (by decide)]
  simp only [hbytes]
  exact if_pos hdigest

/-! The stream against the points: it gives the half of its region, and the first sixteen halves, the reduced point 0. -/

theorem strayStream_regions : strayStream.table.regions = [strayRegion] := rfl

theorem strayStream_point : strayStream.points.getD (strayRegion / 4) 0xFF = 0 := by
  simp [strayStream]

theorem strayStream_pointsGiven : pointsGiven strayStream = true := by
  simp only [pointsGiven, strayStream_regions, List.all_cons, strayStream_point]
  rfl

/-- Its half keeps the point that its register shows. -/
theorem strayStream_pointAfter (s : State) :
    s.pointAfter strayStream (strayRegion / 4) = s.regionPoint (4 * (strayRegion / 4)) := by
  simp only [State.pointAfter, strayStream_point]
  exact if_neg (by decide)

theorem strayStream_pointsOk : (strayState.atBoundary 0).pointsOk [] strayStream = true := by
  have hregion : (strayState.atBoundary 0).pointAfter strayStream (strayRegion / 4) ≠ 2 := by
    rw [strayStream_pointAfter]
    decide +kernel
  simp only [State.pointsOk, Bool.and_eq_true]
  refine ⟨⟨⟨⟨⟨strayStream_pointsGiven, ?_⟩, ?_⟩, rfl⟩, rfl⟩, rfl⟩
  · decide +kernel
  · simp [strayStream_regions, hregion]

theorem strayState_boundExcept : (strayState.atBoundary 0).boundExcept [0] = [] := by decide +kernel

theorem strayState_unusable : firstBad ((strayState.atBoundary 0).unusable strayStream) = none := by decide +kernel

theorem strayState_commitBad :
    (strayState.atBoundary 0).commitBad 0 strayStaged [(0, strayStream)] [] = none := by
  have hothers : (strayState.atBoundary 0).boundExcept ([(0, strayStream)].map (·.1) ++ []) ++
      [(0, strayStream)].filter (fun e => e.1 != 0) = [] := by
    simp [strayState_boundExcept]
  rw [State.commitBad, hothers]
  refine firstBad_eq_none.mpr ?_
  simp only [List.forall_mem_append, List.forall_mem_cons, State.secItems, checkItems_one]
  exact ⟨⟨⟨by decide +kernel, fun _ h => absurd h List.not_mem_nil⟩, firstBad_eq_none.mp strayState_unusable⟩,
    by decide +kernel, by decide +kernel, strayStream_pointsOk, by decide +kernel, by decide +kernel, by decide +kernel,
    by decide +kernel, by decide +kernel, by decide +kernel, fun _ h => absurd h List.not_mem_nil⟩

/-- No check fails, so the commit waits for no unbind. -/
theorem strayState_unbindWaits :
    (strayState.atBoundary 0).unbindWaits 0 strayStaged [(0, strayStream)] = false := by
  simp [State.unbindWaits, strayState_commitBad]

theorem strayState_commitDue : strayState.commitDue 0 = true := by decide +kernel

theorem strayState_switchWaits : (strayState.atBoundary 0).switchWaits strayStream = false := by decide +kernel

theorem strayState_resourceHeld : (strayState.atBoundary 0).resourceHeld
    ((strayState.atBoundary 0).boundExcept [0] ++ (strayState.atBoundary 0).lowerClaims 0) strayStream = false := by
  decide +kernel

/-- The state that the commit leaves. -/
def strayBound : State :=
  ((strayState.atBoundary 0).releaseOld 0 strayStream).bindFacet 0 strayStaged
    ((strayState.atBoundary 0).wasRunning 0) false
    ((strayState.atBoundary 0).budgetStart strayStream ((strayState.atBoundary 0).boundaryOf 0))

/-- Binding its region has cleared FACET_STAT: the facet reads UNBOUND. -/
theorem strayBound_facetState : strayBound.facetState 0 = 0 := by decide +kernel

theorem exec_commitBoundary_stray :
    exec (.commitBoundary 0 (.bytes [])) strayState = finish strayState strayBound := by
  have hrel : (strayState.atBoundary 0).wasReleased 0 = true := by decide +kernel
  have hread : (strayState.atBoundary 0).readAgain strayStaged (.bytes []) = none := strayState_readAgain
  have hboundary : strayState.commitBoundary 0 (.bytes []) =
      (strayState.atBoundary 0).commitOne 0 strayStaged (.bytes []) :=
    commitBoundary_one (c := strayCommit) (.bytes []) (by rw [strayState_facet]; rfl) (by rw [strayState_facet])
      (by rw [strayState_facet]) (by rw [strayState_facet]; decide) strayState_commitDue rfl
  have hone : (strayState.atBoundary 0).commitOne 0 strayStaged (.bytes []) = strayBound :=
    commitOne_binds hrel hread strayState_switchWaits strayState_unusable strayState_resourceHeld
      strayState_unbindWaits strayState_commitBad
  rw [exec_commitBoundary, Fin.val_zero, hboundary, hone]

end StrayCommit

/-- Refutes O38: a commit whose checks all hold need not leave its facet LOADING, because the statement does not bound
the regions that the staged stream names. No region has the number 2^20, whose RGEN is FACET_STAT of facet 0
(`rgen_strayRegion`): binding it clears the state that the bind wrote just before (R403). No stream that STAGE has
checked names it, since a region takes one byte (R231): the statement lacks that its regions lie below 64. -/
theorem not_stagesCommitsAndUnbindsEnd : ¬ Obligations.StagesCommitsAndUnbindsEnd := by
  unfold Obligations.StagesCommitsAndUnbindsEnd
  intro h
  obtain ⟨-, -, hcommit, -⟩ := h 0 strayState
  have hf : strayState.facet (0 : Fin 64).val = _ := strayState_facet
  obtain ⟨hbind, -⟩ := hcommit strayStaged strayCommit (.bytes []) (by rw [hf]; rfl) (by rw [hf]) (by rw [hf])
    (by rw [hf]; decide) strayState_commitDue strayState_readAgain
  obtain ⟨t, ht, hst, -⟩ := hbind rfl (.inl rfl) strayState_switchWaits strayState_unusable strayState_resourceHeld
    strayState_unbindWaits strayState_commitBad (by decide)
  rw [exec_commitBoundary_stray, finish_next] at ht
  rw [← ht, messages_facetState] at hst
  exact absurd (strayBound_facetState.symm.trans hst) (by decide)

end Sys2Proof.Machine
